-- ==== Sys2Proof/Word.lean ====
section
/-! DEFINITION. The byte of the Test Link and the index types of the part. -/

namespace Sys2Proof

/-- One byte on the Test Link (12 R203). -/
abbrev Byte := BitVec 8

/-- The 16-bit register of the frame check (01 R6). -/
abbrev Word16 := BitVec 16

/-- Actuators A0 to A7 (00, Indices and names). -/
abbrev ActId := Fin 8
/-- Zones Z0 to Z3. -/
abbrev ZoneId := Fin 4
/-- Gauges G0 to G255. -/
abbrev GaugeId := Fin 256
/-- Banks B0 to B3. -/
abbrev BankId := Fin 4
/-- Crack loops L0 to L31. -/
abbrev LoopId := Fin 32
/-- Acoustic-emission channels E0 to E7. -/
abbrev AeId := Fin 8
/-- Limit rules 0 to 31. -/
abbrev RuleId := Fin 32
/-- Templates T0 to T7. -/
abbrev TemplateId := Fin 8
/-- Capture blocks 0 to 3. -/
abbrev BlockId := Fin 4

end Sys2Proof
end

