-- ==== Sys2Proof/Config.lean ====
section
/-! DEFINITION. What the part fixes as constants, and the free values: what the spec leaves open.
Each free value is an opaque constant applied to a plain counter of State (`State.free`), so that
nothing can be proved of which value it is. -/

namespace Sys2Proof.Config

/-- Micros of the oscillator between two strobes of the oscillator schedule (02 R27). -/
@[simp] def strobePeriod : Nat := 500
/-- A FOLLOWER's deadline for a strobe-making edge (02 R28). -/
@[simp] def edgeDeadline : Nat := 750
/-- Nearest distance of a strobe-making edge (02 R28, R30). -/
@[simp] def edgeMin : Nat := 250
/-- Width of the SYNC pulse of a MASTER (02 R27). -/
@[simp] def syncPulse : Nat := 20
/-- The space inside a frame that abandons it (01 R4). -/
@[simp] def gapTime : Nat := 20
/-- One byte time on the link (01 R2). -/
@[simp] def byteTime : Nat := 5
/-- The 20 bit times of a break (01 R5). -/
@[simp] def breakTime : Nat := 10
/-- A bank port's timeout and its settling time (07 R133). -/
@[simp] def bankTime : Nat := 5000
/-- The loop sampling period (10 R175). -/
@[simp] def loopPeriod : Nat := 1000
/-- Frames in a capture block (11 R192). -/
@[simp] def blockFrames : Nat := 2048
/-- Capacity of the request queue and of the reply queue (01 R8, R9). -/
@[simp] def linkQueue : Nat := 4
/-- Capacity of a program queue (03 R36). -/
@[simp] def programQueue : Nat := 32
/-- Capacity of the alarm list (06 R117). -/
@[simp] def alarmCapacity : Nat := 16
/-- Capacity of the Strain Queue in entries and in records (09 R160). -/
@[simp] def strainEntries : Nat := 4096
@[simp] def strainRecords : Nat := 256
/-- Most entries in one slice (09 R163). -/
@[simp] def sliceEntries : Nat := 200
/-- Bounds of a force (00, Units and ranges). -/
@[simp] def forceMax : Int := 3000000
/-- Bound of a stroke. -/
@[simp] def strokeMax : Int := 100000
/-- Bound of a strain. -/
@[simp] def strainMax : Int := 2000000
/-- Bound of a raw bridge ratio, and of the saturated servo error. -/
@[simp] def rawMax : Int := 8388607
/-- Bound of a valve drive. -/
@[simp] def valveMax : Int := 32767
/-- Saturation values of 8-, 16- and 32-bit counts. -/
@[simp] def max8 : Nat := 255
@[simp] def max16 : Nat := 65535
@[simp] def max32 : Nat := 4294967295

/-! ### Free values -/

/-- Log 8: which of the events of one moment that are still waiting is taken next. -/
opaque nextEvent : Nat → Nat → Nat
/-- Log 8 and 10: whether the update of actuator `a` has been taken when the event at a place of a
strobe's order is (06 R118, 11 R191). -/
opaque updateSeen : Nat → Nat → ActId → Bool
/-- Log 10: the same for the wrap work of a zone (06 R103, R118). -/
opaque wrapSeen : Nat → Nat → ZoneId → Bool
/-- Log 9: whether the force list of a crossing reads a dry-run member after its update (06 R104). -/
opaque crossingAfterUpdate : Nat → ZoneId → ActId → Bool
/-- Log 9: whether the total-force guard reads a dry-run member after its update (05 R91). -/
opaque guardAfterUpdate : Nat → ZoneId → ActId → Bool
/-- Log 11: whether the Zone Supervisor is told of a sync loss after the zone's start of that strobe. -/
opaque lossAfterStart : Nat → ZoneId → Bool
/-- Log 12: the phase index a hit finds when the clock runs but did not run at the latest strobe (10 R181). -/
opaque restartedIndex : Nat → Fin 1024
/-- Log 13: the bytes of an absent optional field of a reply (12 R204). -/
opaque absentByte : Nat → Nat → Byte

end Sys2Proof.Config
end

