-- ==== Sys2Proof/Syntax.lean ====
section
/-! DEFINITION. The commands of the block: one constructor per row of spec/opcode_table.json.
A row that is the taking of a request has no operand: the request's tag, address class and payload
stand in the request queue of State (01 R8, R9; log 1). -/

namespace Sys2Proof

/-- The level at which a byte's stop bit was found (01 R2). -/
inductive StopBit where
  | mark | space
  deriving DecidableEq, Repr

/-- The drive status of a feedback record (05 R81). -/
inductive DriveStatus where
  | normal | pressureLow
  deriving DecidableEq, Repr

/-- One command of the part. -/
inductive Instr where
  /-- BYTE_RECEIVED (R3). A byte arrives on the downlink at the end of its stop bit and acts according to the receiver state HUNT, HEADER or BODY. -/
  | byteReceived (b : Byte) (stop : StopBit)
  /-- GAP (R4). A space of more than 20 µs between bytes in HEADER or BODY abandons the frame, raises the gap count and enters HUNT. -/
  | gap
  /-- BREAK (R5). The downlink held at space for 20 bit times abandons any frame, raises the break count and enters HUNT. -/
  | lineBreak
  /-- UNKNOWN_KIND_REQUEST (R10). Taking a request: A request whose kind is not a request kind of the catalogue is taken and refused with MALFORMED. -/
  | unknownKindRequest
  /-- UPLINK_FRAME_END (R14). The transmitter finishes a frame, and the arbiter chooses and builds the next frame or goes idle. -/
  | uplinkFrameEnd
  /-- RESTART_EFFECT (R23). Once the RESTART reply has been sent, the part returns to its reset values, with the stated exceptions. -/
  | restartEffect
  /-- RESET (R24). Power-on or the RESET pin resets the whole part and samples the node address from the ADDR pins. -/
  | reset (addr : Nat)
  /-- IDENTIFY (R20). Taking a request: Returns the part name, revision, addresses and capacities. -/
  | identify
  /-- STATUS (R21). Taking a request: Returns a snapshot of the part's state without changing anything. -/
  | status
  /-- SET_GROUP (R22). Taking a request: Sets or removes the group address used by the address filter. -/
  | setGroup
  /-- SET_REPORTING (R18). Taking a request: Sets the strain trigger level and turns STRAIN and CAPTURE reports on or off. -/
  | setReporting
  /-- READ_LINK_COUNTS (R19). Taking a request: Returns the five link counts and sets them to 0. -/
  | readLinkCounts
  /-- RESTART (R23). Taking a request: Accepted only when every zone is IDLE or SAFE; stops the taking of requests until its reply has been sent. -/
  | restart
  /-- OSCILLATOR_STROBE (R27). In INTERNAL, MASTER or with sync lost, the 500 µs oscillator schedule issues a strobe, driving SYNC high in MASTER. -/
  | oscillatorStrobe
  /-- SYNC_PULSE_END (R27). In MASTER the part drives the SYNC line low again 20 µs after each strobe. -/
  | syncPulseEnd
  /-- SYNC_EDGE (R28). A rising edge on SYNC in FOLLOWER is judged early or made a strobe, or counted toward regaining sync. -/
  | syncEdge
  /-- SUBSTITUTE_STROBE (R28). When 750 µs pass with no strobe-making edge, a substitute strobe is issued and the miss count and run rise. -/
  | substituteStrobe
  /-- REGAIN_RUN_TIMEOUT (R30). When 750 µs pass after the previous counted edge with no counted edge, the regain run returns to 0. -/
  | regainRunTimeout
  /-- SET_TIME (R32). Taking a request: Stores a pending time set to be applied at the next strobe. -/
  | setTime
  /-- READ_TIME (R33). Taking a request: Returns hall time, SYNC role, sync state, runs and counts. -/
  | readTime
  /-- SET_SYNC_ROLE (R34). Taking a request: Sets the SYNC role with every zone IDLE and clears the sync flags, runs and counts. -/
  | setSyncRole
  /-- FEEDBACK_ARRIVAL (R81). A feedback record from the drive fills the port record, and the measured record outside dry run. -/
  | feedbackArrival (a : ActId) (force stroke : Int) (status : DriveStatus)
  /-- CONFIGURE_ACTUATOR (R92). Taking a request: Sets every configuration field of the selected actuators, subject to protection while running. -/
  | configureActuator
  /-- ENABLE_ACTUATOR (R87). Taking a request: Brings an OFF channel with feedback seen to STANDBY at its measured force. -/
  | enableActuator
  /-- DISABLE_ACTUATOR (R88). Taking a request: Turns a channel OFF and flushes its queue. -/
  | disableActuator
  /-- SET_DRY_RUN (R90). Taking a request: Turns dry run on or off for an OFF channel, freezing or refilling the measured record. -/
  | setDryRun
  /-- LOAD_SEGMENTS (R38). Taking a request: Appends 1 to 8 segments to the queue of each selected actuator. -/
  | loadSegments
  /-- FLUSH_PROGRAM (R39). Taking a request: Removes queued segments, and with abort current the current segment as well. -/
  | flushProgram
  /-- CLEAR_FAULT (R89). Taking a request: Returns a faulted channel to STANDBY when its zone is not RUN, HOLD or UNLOAD. -/
  | clearFault
  /-- READ_ACTUATOR (R95). Taking a request: Returns a channel's state, configuration, records, program and pipeline items, and clears its sticky flags. -/
  | readActuator
  /-- DEFINE_ZONE (R99). Taking a request: Sets an IDLE zone's members and configuration. -/
  | defineZone
  /-- SET_CYCLE_RATE (R100). Taking a request: Sets a zone's cycle rate and forms its phase increment anew. -/
  | setCycleRate
  /-- PREPARE (R107). Taking a request: Takes an IDLE zone to READY and enables its OFF members. -/
  | prepare
  /-- START (R108). Taking a request: Sets a pending start time, NOW or T, for a READY zone. -/
  | start
  /-- HOLD (R111). Taking a request: Puts a zone in RUN into HOLD, or adds REQUEST to a zone already in HOLD. -/
  | hold
  /-- RESUME (R113). Taking a request: Returns a HOLD zone to RUN when no reason remains, restarting its clock at the next strobe. -/
  | resume
  /-- UNLOAD (R114). Taking a request: Takes a READY, RUN or HOLD zone to UNLOAD toward the safe loads. -/
  | unload
  /-- RELEASE (R110). Taking a request: Takes a READY or SAFE zone to IDLE. -/
  | release
  /-- RESET_CYCLE_COUNT (R101). Taking a request: Sets an IDLE zone's cycle count and missed phase captures to 0. -/
  | resetCycleCount
  /-- READ_ZONE (R123). Taking a request: Returns a zone record with its phase and guard values. -/
  | readZone
  /-- READ_ALARMS (R123). Taking a request: Returns every alarm-list entry and the overflow flag. -/
  | readAlarms
  /-- ACK_ALARM (R122). Taking a request: Removes one source's entry or a zone's entries, or clears the overflow flag, and releases LIMIT latches. -/
  | ackAlarm
  /-- FREE_SCAN_EXPIRY (R128). An expiry of the free-scan timer makes a free request pending, or is skipped and counted. -/
  | freeScanExpiry
  /-- BANK_ANSWER (R134). An answer arrival at a bank port ends the outstanding conversion or is discarded as stray. -/
  | bankAnswer (bank : BankId) (values : List Int)
  /-- BANK_TIMEOUT (R135). A bank's 5 ms timer expires, giving NO DATA and taking the bank OFFLINE after 3 in a row. -/
  | bankTimeout (bank : BankId)
  /-- BANK_SETTLING_END (R133). The 5 ms settling after reset or RESTART ends, and a waiting conversion is sent. -/
  | bankSettlingEnd (bank : BankId)
  /-- SET_SCAN_LIST (R125). Taking a request: Replaces the scan list and forms the scan set anew. -/
  | setScanList
  /-- SET_SCAN_INTERVAL (R127). Taking a request: Sets or stops the free-scan interval and restarts the timer. -/
  | setScanInterval
  /-- BANK_RESET (R137). Taking a request: Returns a bank to ONLINE and gives it a test conversion, as a deferred request. -/
  | bankReset
  /-- WRITE_TEMPLATE (R144). Taking a request: Writes a template and clears the table-valid flag. -/
  | writeTemplate
  /-- SET_DEFAULT_PROFILE (R145). Taking a request: Sets the default profile. -/
  | setDefaultProfile
  /-- VALIDATE_TEMPLATES (R146). Taking a request: Sets the table-valid flag and returns the per-template gauge counts. -/
  | validateTemplates
  /-- ZERO_GAUGES (R153). Taking a request: Starts a deferred zeroing operation by making the zero request pending. -/
  | zeroGauges
  /-- READ_GAUGES (R156). Taking a request: Returns latest values, zeros, counters and profiles for a gauge range, with scan and rule items. -/
  | readGauges
  /-- REPORT_DELAY_RUN_OUT (R162). The Strain Queue's delay timer runs out and makes the queue due. -/
  | reportDelayRunOut
  /-- SET_LIMIT_RULE (R167). Taking a request: Sets a limit rule's fields and clears its counter and latch, subject to protection. -/
  | setLimitRule
  /-- LOOP_SAMPLE (R175). Every 1 ms all 32 loop inputs are sampled and debounced. -/
  | loopSample (levels : BitVec 32)
  /-- AE_HIT (R180). A hit on an enabled AE channel is locked out, or accepted and tested for correlation against the window. -/
  | aeHit (ch : AeId)
  /-- CONFIGURE_LOOP (R177). Taking a request: Sets a loop's enabled flag, zone, severity and debounce. -/
  | configureLoop
  /-- CONFIGURE_AE (R185). Taking a request: Sets an AE channel's fields and clears its counts and ring. -/
  | configureAe
  /-- READ_CRACK_STATUS (R186). Taking a request: Returns loop and AE status and clears every loop's change flag. -/
  | readCrackStatus
  /-- CONFIGURE_CAPTURE (R189). Taking a request: Sets the capture configuration while CU is IDLE, optionally starting recording. -/
  | configureCapture
  /-- TRIGGER (R195). Taking a request: Acts as a trigger with source REQUEST. -/
  | trigger
  /-- READ_CAPTURE (R199). Taking a request: Returns a LOCKED block's record and up to 30 frames. -/
  | readCapture
  /-- RELEASE_BLOCK (R200). Taking a request: Frees a LOCKED block, ending a stall, or abandons a RECORDING block. -/
  | releaseBlock
  /-- CAPTURE_STATUS (R201). Taking a request: Returns the capture blocks' states, the missed-trigger count and the configuration. -/
  | captureStatus
  /-- LINE_RETURNS_TO_MARK (R2). After a byte whose stop bit was found at space, the downlink returns to mark within 20 bit times of its start bit, so the byte is a framing error: it is discarded, and a frame in progress is abandoned with the check count raised and the receiver in HUNT. -/
  | lineReturnsToMark
  deriving DecidableEq, Repr

end Sys2Proof
end

