-- ==== Sys2Proof/WellFormed.lean ====
section
/-! DEFINITION. Which commands the part's ports can carry. Port, bank, loop and channel numbers are
bounded by their types; the ADDR pins are checked here. -/

namespace Sys2Proof

/-- A command is well-formed when its operands fit the port they come from: six ADDR pins give an
address 0 to 63 (00, Pin summary; 01 R7). Every other operand fits by its type. -/
def Instr.wellFormed : Instr → Bool
  | .reset addr => addr < 64
  | _ => true

end Sys2Proof
end

