-- ==== Sys2Proof/Decode.lean ====
section
/-! DEFINITION. The commands that a word spells by the table's bits: no row of
spec/opcode_table.json gives bits ("fields" is empty in every row), so no word spells a command. -/

namespace Sys2Proof

/-- The command spelt by the word `w` of `nbits` bits: none, since no row gives bits. -/
def decodeTableWord (_nbits _w : Nat) : Option Instr := none

end Sys2Proof
end

