-- ==== Sys2Proof/Machine/State.lean ====
section
/-! DEFINITION. The state of the part: everything the spec gives it, as plain data, block by block,
with the reset values (01 R24, 02 R35, 03 R55, 04 R78, 05 R96, 06 R98 and R124, 07 R141, 08 R157,
09 R165 and R166, 10 R188, 11 R202), and the queue of waiting commands. -/

namespace Sys2Proof.Machine

/-! ### Reasons a step can stop -/

/-- No meaning of this model ends in a fault: the spec gives every row an effect (a channel's FAULT
state is an ordinary state). The type is closed and empty. -/
inductive Fault where
  deriving DecidableEq, Repr

/-- The refusals of the model. -/
inductive Refusal where
  /-- Raised by an arm of `exec` whose command has no meaning yet; safe. No arm raises it now. -/
  | notModelled (mnemonic : String)
  deriving DecidableEq, Repr

/-! ### Link Port (01) -/

/-- The address class of an accepted frame (01 R7). -/
inductive AddrClass where
  | node | group | broadcast
  deriving DecidableEq, Repr

/-- An entry of the request queue (01 R8). -/
structure Request where
  tag     : Byte
  kind    : Byte
  payload : List Byte
  cls     : AddrClass
  deriving DecidableEq, Repr

/-- An entry of the reply queue (01 R10): the tag and the whole payload of the reply frame, and
whether it is the ACCEPTED reply of a RESTART (01 R23). -/
structure Reply where
  tag     : Byte
  payload : List Byte
  restart : Bool
  deriving DecidableEq, Repr

/-- The receiver's states (01 R3). -/
inductive RxMode where
  | hunt | header | body
  deriving DecidableEq, Repr

/-- The receiver: its state and the bytes of the frame in progress after the start byte (01 R3). -/
structure Receiver where
  mode : RxMode
  buf  : List Byte
  deriving DecidableEq, Repr

/-- The downlink between two events: at mark, at space since a byte whose stop bit was found at
space (01 R2), or in a break (01 R5). -/
inductive Downlink where
  | mark | badStop | brk
  deriving DecidableEq, Repr

/-- What the frame being sent carries, so far as its end has an effect (01 R14, R23; 09 R163). -/
inductive Carries where
  | alarm
  | reply (restart : Bool)
  | capture
  | strain (entries : Nat) (last : Bool)
  deriving DecidableEq, Repr

/-- The frame being sent on the uplink: all its bytes, what it carries, and the oscillator moment of
its last stop bit's end (01 R14). -/
structure TxFrame where
  bytes   : List Byte
  carries : Carries
  endsAt  : Nat
  deriving DecidableEq, Repr

/-- The five link counts (01 R19). -/
structure LinkCounts where
  check   : Nat
  gap     : Nat
  brk     : Nat
  length  : Nat
  dropped : Nat
  deriving DecidableEq, Repr

/-- A RESTART on its way (01 R23): none; accepted and waiting for its reply to be sent; accepted by
broadcast and waiting for the frame being sent; taking effect at this moment. -/
inductive RestartPhase where
  | idle | awaitReply | awaitFrame | due
  deriving DecidableEq, Repr

/-- The reporting settings (01 R18). -/
structure Reporting where
  level   : Nat
  strain  : Bool
  capture : Bool
  deriving DecidableEq, Repr

/-- The Link Port (01). -/
structure LinkPort where
  nodeAddr     : BitVec 6
  groupAddr    : Option Byte
  line         : Downlink
  lastByteAt   : Nat
  rx           : Receiver
  requests     : List Request
  replies      : List Reply
  reservations : Nat
  restart      : RestartPhase
  alarmPending : Bool
  announce     : List BlockId
  reporting    : Reporting
  counts       : LinkCounts
  tx           : Option TxFrame
  deriving DecidableEq, Repr

/-! ### Time Base (02) -/

/-- The SYNC roles (02 R27). -/
inductive SyncRole where
  | internal | master | follower
  deriving DecidableEq, Repr

/-- Where the latest strobe came from (02 R33). -/
inductive StrobeSource where
  | oscillator | edge | substitute
  deriving DecidableEq, Repr

/-- The SYNC line as this part drives it (02 R27). -/
inductive SyncLine where
  | released | low | high
  deriving DecidableEq, Repr

/-- The Time Base (02). `lastStrobeAt` and `lastEdgeAt` are oscillator moments; the sub-period count
is computed from the first (02 R25). -/
structure TimeBase where
  strobeNumber : Nat
  lastStrobeAt : Nat
  role         : SyncRole
  line         : SyncLine
  syncLost     : Bool
  subRun       : Nat
  regainRun    : Nat
  lastEdgeAt   : Nat
  missCount    : Nat
  earlyCount   : Nat
  source       : StrobeSource
  pendingSet   : Option Nat
  deriving DecidableEq, Repr

/-! ### Actuator Channels (03, 04, 05) -/

/-- Channel states (05 R79). -/
inductive ChannelState where
  | off | standby | active | fault
  deriving DecidableEq, Repr

/-- A measured or port record (05 R81). -/
structure Feedback where
  force  : Int
  stroke : Int
  status : DriveStatus
  deriving DecidableEq, Repr

/-- The configuration of a channel (05 R92). -/
structure ChannelConfig where
  fMin       : Int
  fMax       : Int
  rateStep   : Nat
  kp         : Nat
  ki         : Nat
  iLimit     : Nat
  tolerance  : Nat
  trackCount : Nat
  strokeMin  : Int
  strokeMax  : Int
  safeLoad   : Int
  adapt      : Nat
  deriving DecidableEq, Repr

/-- A set of fault causes (05 R86). -/
structure FaultCauses where
  tracking  : Bool
  stroke    : Bool
  feedback  : Bool
  hydraulic : Bool
  deriving DecidableEq, Repr

/-- The last-fault record (05 R86). -/
structure LastFault where
  causes : FaultCauses
  hall   : Nat
  zone   : Option ZoneId
  prev   : Int
  force  : Int
  deriving DecidableEq, Repr

/-- End actions of a segment (03 R37). -/
inductive EndAction where
  | next | holdZone
  deriving DecidableEq, Repr

/-- A RAMP segment (03 R37). -/
structure RampSegment where
  target : Int
  rate   : Nat
  tag    : Option Nat
  final  : EndAction
  deriving DecidableEq, Repr

/-- A DWELL segment; the duration is in ms (03 R37). -/
structure DwellSegment where
  duration : Nat
  tag      : Option Nat
  final    : EndAction
  deriving DecidableEq, Repr

/-- A CYCLE segment; an absent phase offset is 0, a count of 0 is unlimited (03 R37). -/
structure CycleSegment where
  mean      : Int
  amplitude : Nat
  count     : Nat
  offset    : Nat
  tag       : Option Nat
  final     : EndAction
  deriving DecidableEq, Repr

/-- A segment record (03 R37). -/
inductive Segment where
  | ramp (g : RampSegment)
  | dwell (g : DwellSegment)
  | cycle (g : CycleSegment)
  deriving DecidableEq, Repr

/-- Progress of a current CYCLE: WAITING, or CYCLING with its completed-cycle count (03 R45, R46). -/
inductive CycleProgress where
  | waiting
  | cycling (completed : Nat)
  deriving DecidableEq, Repr

/-- The current segment with its progress record (03 R43 to R46). -/
inductive Current where
  | ramp (g : RampSegment) (remainder : Nat)
  | dwell (g : DwellSegment) (left : Nat)
  | cycle (g : CycleSegment) (p : CycleProgress)
  deriving DecidableEq, Repr

/-- One actuator channel: its state and configuration (05), its program (03) and its pipeline (04).
`queued` are the segments behind the current one; both count against the queue's 32 (03 R36). -/
structure Channel where
  state         : ChannelState
  dryRun        : Bool
  cfg           : ChannelConfig
  measured      : Feedback
  port          : Feedback
  seen          : Bool
  fresh         : Bool
  arrivals      : Nat
  staleCount    : Nat
  staleRun      : Nat
  trackRun      : Nat
  causes        : FaultCauses
  lastFault     : Option LastFault
  faultCount    : Nat
  current       : Option Current
  queued        : List Segment
  programValue  : Int
  k             : Nat
  j             : Nat
  aHold         : Nat
  aEff          : Nat
  afterCycle    : Bool
  inUnderrun    : Bool
  wasCycling    : Bool
  completed     : Nat
  lastTag       : Option Nat
  underruns     : Nat
  dropped       : Nat
  underrunFlag  : Bool
  prev          : Int
  p0            : Int
  p1            : Int
  err           : Int
  pTerm         : Int
  iTerm         : Int
  v             : Int
  integrator    : Int
  valve         : Int
  gain          : Int
  track         : Option (Int × Int)
  aligned       : Bool
  unloadRem     : Nat
  rateFlag      : Bool
  limitFlag     : Bool
  driveFlag     : Bool
  gainFlag      : Bool
  rateClamps    : Nat
  limitClamps   : Nat
  deriving DecidableEq, Repr

/-! ### Zone Supervisor (06) -/

/-- Zone states (06 R98). -/
inductive ZoneState where
  | idle | ready | run | hold | unload | safe
  deriving DecidableEq, Repr

/-- HOLD sub-states (06 R98). -/
inductive HoldSub where
  | rampingOut | held
  deriving DecidableEq, Repr

/-- Which crossings a zone captures (06 R98). -/
inductive PhaseCapture where
  | none | peak | valley | both
  deriving DecidableEq, Repr

/-- A set of hold reasons (06 R98). -/
structure HoldReasons where
  request : Bool
  segment : Bool
  alarm   : Bool
  sync    : Bool
  deriving DecidableEq, Repr

/-- Last-start outcomes (06 R98). -/
inductive StartOutcome where
  | none | started | late | cancelled
  deriving DecidableEq, Repr

/-- The zone record (06 R98), with the latest total-guard sum (06 R123), n at the latest strobe if the
clock ran at it (04 R60, 06 R123, 10 R181), and the mark that the first update in UNLOAD is still to
come (04 R63). -/
structure Zone where
  state        : ZoneState
  sub          : HoldSub
  members      : BitVec 8
  rate         : Nat
  inc          : Nat
  nin          : Nat
  nout         : Nat
  unloadRate   : Nat
  window       : Option (Int × Int)
  capture      : PhaseCapture
  everyNth     : Nat
  counter      : Nat
  clockRunning : Bool
  origin       : Nat
  cycleCount   : Nat
  reasons      : HoldReasons
  pendingStart : Option Nat
  lastStart    : StartOutcome
  missed       : Nat
  guardRun     : Nat
  guardSum     : Option Int
  latestN      : Option Nat
  unloadFirst  : Bool
  deriving DecidableEq, Repr

/-- Alarm severities (06 R117). -/
inductive Severity where
  | info | minor | major
  deriving DecidableEq, Repr

/-- Alarm sources (06 R117). -/
inductive AlarmSource where
  | loop (n : LoopId)
  | ae (n : AeId)
  | limit (n : RuleId)
  | actuator (n : ActId)
  | total (z : ZoneId)
  | sync (z : ZoneId)
  deriving DecidableEq, Repr

/-- An alarm entry (06 R117). -/
structure AlarmEntry where
  source      : AlarmSource
  zone        : ZoneId
  severity    : Severity
  raised      : Nat
  cycle       : Option Nat
  occurrences : Nat
  reported    : Bool
  deriving DecidableEq, Repr

/-- The Zone Supervisor (06). -/
structure ZoneSupervisor where
  zones    : Vector Zone 4
  alarms   : List AlarmEntry
  overflow : Bool
  deriving DecidableEq, Repr

/-! ### Scan Engine (07) -/

/-- Kinds of scan (07 R132). -/
inductive ScanKind where
  | free | zero | peak | valley
  deriving DecidableEq, Repr

/-- An item of a force list (06 R104). -/
structure ForceItem where
  actuator : ActId
  force    : Int
  tag      : Option Nat
  deriving DecidableEq, Repr

/-- A phase-locked request (07 R129); `peak` tells PEAK from VALLEY. -/
structure PhaseRequest where
  zone     : ZoneId
  peak     : Bool
  cycle    : Nat
  crossing : Nat
  forces   : List ForceItem
  deriving DecidableEq, Repr

/-- A range of the scan list (07 R125). -/
structure ScanRange where
  base  : GaugeId
  count : Nat
  deriving DecidableEq, Repr

/-- The scan in flight (07 R132): `awaiting` are the involved banks that have neither answered nor
timed out, `answers` the raw values of the banks that answered. -/
structure Scan where
  kind     : ScanKind
  start    : Nat
  gauges   : List GaugeId
  phase    : Option PhaseRequest
  lag      : Nat
  awaiting : Vector Bool 4
  answers  : Vector (Option (List Int)) 4
  deriving DecidableEq, Repr

/-- A conversion given to a bank port (07 R133): a scan's list for the bank, or the test of BANK RESET, whose
list is one gauge (07 R137). -/
inductive Conversion where
  | scan (gauges : List GaugeId)
  | test (gauge : GaugeId)
  deriving DecidableEq, Repr

/-- A bank port (07 R133). `timeoutAt` and `settlingUntil` are oscillator moments. -/
structure Bank where
  online        : Bool
  outstanding   : Option Conversion
  waiting       : List Conversion
  timeoutAt     : Nat
  consecutive   : Nat
  timeouts      : Nat
  strays        : Nat
  settlingUntil : Option Nat
  deriving DecidableEq, Repr

/-- A BANK RESET in flight (07 R137): its bank, and the tag of its reserved reply (none by broadcast). -/
structure BankResetOp where
  bank : BankId
  tag  : Option Byte
  deriving DecidableEq, Repr

/-- The Scan Engine (07). `expiryAt` is the oscillator moment of the free-scan timer's next expiry. -/
structure ScanEngine where
  scanList    : List ScanRange
  interval    : Nat
  expiryAt    : Nat
  freeRequest : Bool
  zeroRequest : Bool
  skipped     : Nat
  slots       : Vector (Option PhaseRequest) 4
  scan        : Option Scan
  bankReset   : Option BankResetOp
  banks       : Vector Bank 4
  deriving DecidableEq, Repr

/-! ### Strain Converter (08) -/

/-- Bridge types (08 R142). -/
inductive BridgeType where
  | quarter | half | full | off
  deriving DecidableEq, Repr

/-- A profile (08, Profiles). -/
structure Profile where
  bridge : BridgeType
  gf     : Nat
  cal    : Nat
  deriving DecidableEq, Repr

/-- A template (08 R142). -/
structure Template where
  enabled : Bool
  value   : BitVec 8
  mask    : BitVec 8
  profile : Profile
  deriving DecidableEq, Repr

/-- A set of sample flags (08 R150). -/
structure SampleFlags where
  overRange : Bool
  opened    : Bool
  noData    : Bool
  defaulted : Bool
  deriving DecidableEq, Repr

/-- An entry of the latest-values table (08 R155). -/
structure Latest where
  value : Int
  flags : SampleFlags
  time  : Nat
  deriving DecidableEq, Repr

/-- A ZERO GAUGES operation in flight (08 R153): the tag of its reserved reply (none by broadcast). -/
structure ZeroOp where
  tag : Option Byte
  deriving DecidableEq, Repr

/-- The Strain Converter (08). `written` are the gauges whose entries were written since the latest
strobe (11 R190, the new-value marks). -/
structure StrainConverter where
  templates  : Vector Template 8
  tableValid : Bool
  default    : Profile
  zeros      : Vector Int 256
  openCount  : Vector Nat 256
  latest     : Vector Latest 256
  written    : List GaugeId
  zeroOp     : Option ZeroOp
  deriving DecidableEq, Repr

/-! ### Strain Queue and Limit Watch (09) -/

/-- An entry of a strain record (09 R158). -/
structure StrainEntry where
  gauge : GaugeId
  value : Int
  flags : SampleFlags
  deriving DecidableEq, Repr

/-- What a PEAK or VALLEY record keeps of its request (09 R158): the crossing time is not among it. -/
structure RecordPhase where
  zone   : ZoneId
  cycle  : Nat
  forces : List ForceItem
  deriving DecidableEq, Repr

/-- A strain record (09 R158): `unsent` are the entries not yet sent, `sent` the number sent,
`sliced` whether a slice of it has been sent. -/
structure StrainRecord where
  kind   : ScanKind
  number : Nat
  start  : Nat
  loss   : Nat
  phase  : Option RecordPhase
  lag    : Nat
  unsent : List StrainEntry
  sent   : Nat
  sliced : Bool
  deriving DecidableEq, Repr

/-- The Strain Queue's delay timer (09 R162). -/
inductive DelayTimer where
  | stopped
  | running (since : Nat)
  | runOut
  deriving DecidableEq, Repr

/-- The Strain Queue (09). -/
structure StrainQueue where
  records     : List StrainRecord
  pendingLoss : Nat
  counter     : Nat
  timer       : DelayTimer
  deriving DecidableEq, Repr

/-- A condition mask of a limit rule (09 R166). -/
structure LimitMask where
  below : Bool
  equal : Bool
  above : Bool
  deriving DecidableEq, Repr

/-- Actions of a limit rule (09 R166). -/
inductive LimitAction where
  | report | hold | unload
  deriving DecidableEq, Repr

/-- A limit rule (09 R166); `trip` is the invalid-data action TRIP. -/
structure LimitRule where
  enabled     : Bool
  gauge       : GaugeId
  threshold   : Int
  mask        : LimitMask
  persistence : Nat
  action      : LimitAction
  zone        : ZoneId
  trip        : Bool
  counter     : Nat
  latched     : Bool
  deriving DecidableEq, Repr

/-- The Limit Watch (09). -/
structure LimitWatch where
  rules : Vector LimitRule 32
  deriving DecidableEq, Repr

/-! ### Crack Monitor (10) -/

/-- Loop levels (10 R174). -/
inductive LoopLevel where
  | closed | opened
  deriving DecidableEq, Repr

/-- A loop record (10 R174). -/
structure LoopRecord where
  enabled    : Bool
  zone       : ZoneId
  severity   : Severity
  debounce   : Nat
  latest     : LoopLevel
  accepted   : LoopLevel
  run        : Nat
  changed    : Bool
  lastChange : Option Nat
  deriving DecidableEq, Repr

/-- The last accepted hit: its oscillator moment and its hall time (10 R179). -/
structure AcceptedHit where
  moment : Nat
  hall   : Nat
  deriving DecidableEq, Repr

/-- An AE record (10 R179). -/
structure AeRecord where
  enabled   : Bool
  zone      : ZoneId
  severity  : Severity
  lockout   : Nat
  winStart  : Nat
  winEnd    : Nat
  ringLen   : Nat
  threshold : Nat
  total     : Nat
  lockedOut : Nat
  cycle     : Nat
  ring      : List Nat
  lastHit   : Option AcceptedHit
  deriving DecidableEq, Repr

/-- The Crack Monitor (10). `nextSampleAt` is the oscillator moment of the next loop sample. -/
structure CrackMonitor where
  loops        : Vector LoopRecord 32
  aes          : Vector AeRecord 8
  nextSampleAt : Nat
  deriving DecidableEq, Repr

/-! ### Capture Unit (11) -/

/-- Capture signals (11 R190). -/
inductive Signal where
  | actForce (a : ActId)
  | actCommand (a : ActId)
  | actStroke (a : ActId)
  | actValve (a : ActId)
  | gauge (g : GaugeId)
  deriving DecidableEq, Repr

/-- Trigger severities (11 R189). -/
inductive TriggerSeverity where
  | off | info | minor | major
  deriving DecidableEq, Repr

/-- The capture configuration (11 R189). -/
structure CaptureConfig where
  signals   : List Signal
  pre       : Nat
  severity  : TriggerSeverity
  zoneMask  : BitVec 4
  continues : Bool
  deriving DecidableEq, Repr

/-- Block states (11 R192). -/
inductive BlockState where
  | free | recording | post | locked
  deriving DecidableEq, Repr

/-- CU's states (11 R192). -/
inductive CaptureState where
  | recording | post | stalled | idle
  deriving DecidableEq, Repr

/-- A signal's value in a frame, and its new-value mark (11 R190). -/
structure SignalValue where
  value : Int
  mark  : Bool
  deriving DecidableEq, Repr

/-- A capture frame: its signal values, its strobe's hall time, and whether its strobe applied a
time set (11 R191, R192). -/
structure CaptureFrame where
  hall    : Nat
  timeSet : Bool
  values  : List SignalValue
  deriving DecidableEq, Repr

/-- How the alarm list took a raise (06 R121). -/
inductive RaiseKind where
  | newEntry | occurrence | notStored
  deriving DecidableEq, Repr

/-- What an alarm trigger carries beside its time (11 R192). -/
structure AlarmTrigger where
  source   : AlarmSource
  zone     : ZoneId
  severity : Severity
  kind     : RaiseKind
  deriving DecidableEq, Repr

/-- A block's trigger: its time, and the alarm that caused it (none for a TRIGGER request) (11 R192). -/
structure Trigger where
  time  : Nat
  alarm : Option AlarmTrigger
  deriving DecidableEq, Repr

/-- A capture block (11 R192). First frame time and time-set frame are computed from the frames. -/
structure Block where
  state   : BlockState
  signals : List Signal
  pre     : Nat
  frames  : List CaptureFrame
  preHeld : Nat
  trigger : Option Trigger
  further : Nat
  deriving DecidableEq, Repr

/-- The Capture Unit (11). `stalled` is the stall of 11 R198. -/
structure CaptureUnit where
  cfg     : CaptureConfig
  blocks  : Vector Block 4
  stalled : Bool
  missed  : Nat
  deriving DecidableEq, Repr

/-! ### The whole part -/

/-- The state of the part. `osc` is the part's oscillator in microseconds since the end of reset
(02 R31); `free` is the counter free values are applied to (the model's own); `pending` are the
commands that wait, first in, first out (the model's own). -/
structure State where
  lp      : LinkPort
  tb      : TimeBase
  ac      : Vector Channel 8
  zs      : ZoneSupervisor
  se      : ScanEngine
  scv     : StrainConverter
  sq      : StrainQueue
  lw      : LimitWatch
  cm      : CrackMonitor
  cu      : CaptureUnit
  osc     : Nat
  free    : Nat
  pending : List Instr
  deriving DecidableEq, Repr

/-! ### Reset values -/

/-- 01 R24. The ADDR pins are not known here: log 6. -/
def LinkPort.reset : LinkPort where
  nodeAddr := 0
  groupAddr := none
  line := .mark
  lastByteAt := 0
  rx := { mode := .hunt, buf := [] }
  requests := []
  replies := []
  reservations := 0
  restart := .idle
  alarmPending := false
  announce := []
  reporting := { level := 256, strain := true, capture := true }
  counts := { check := 0, gap := 0, brk := 0, length := 0, dropped := 0 }
  tx := none

/-- 02 R35. -/
def TimeBase.reset : TimeBase where
  strobeNumber := 0
  lastStrobeAt := 0
  role := .internal
  line := .released
  syncLost := false
  subRun := 0
  regainRun := 0
  lastEdgeAt := 0
  missCount := 0
  earlyCount := 0
  source := .oscillator
  pendingSet := none

/-- The defaults of 05 R92. -/
def ChannelConfig.reset : ChannelConfig where
  fMin := 0
  fMax := 0
  rateStep := 50
  kp := 0
  ki := 0
  iLimit := 0
  tolerance := 0
  trackCount := 20
  strokeMin := -100000
  strokeMax := 100000
  safeLoad := 0
  adapt := 0

/-- 05 R96. -/
def Feedback.reset : Feedback where
  force := 0
  stroke := 0
  status := .normal

/-- The empty cause set. -/
def FaultCauses.empty : FaultCauses := ⟨false, false, false, false⟩

/-- 03 R55, 04 R78, 05 R96. -/
def Channel.reset : Channel where
  state := .off
  dryRun := false
  cfg := ChannelConfig.reset
  measured := Feedback.reset
  port := Feedback.reset
  seen := false
  fresh := false
  arrivals := 0
  staleCount := 0
  staleRun := 0
  trackRun := 0
  causes := FaultCauses.empty
  lastFault := none
  faultCount := 0
  current := none
  queued := []
  programValue := 0
  k := 0
  j := 0
  aHold := 0
  aEff := 0
  afterCycle := false
  inUnderrun := false
  wasCycling := false
  completed := 0
  lastTag := none
  underruns := 0
  dropped := 0
  underrunFlag := false
  prev := 0
  p0 := 0
  p1 := 0
  err := 0
  pTerm := 0
  iTerm := 0
  v := 0
  integrator := 0
  valve := 0
  gain := 16384
  track := none
  aligned := false
  unloadRem := 0
  rateFlag := false
  limitFlag := false
  driveFlag := false
  gainFlag := false
  rateClamps := 0
  limitClamps := 0

/-- The empty set of hold reasons. -/
def HoldReasons.empty : HoldReasons := ⟨false, false, false, false⟩

/-- The last column of 06 R98. -/
def Zone.reset : Zone where
  state := .idle
  sub := .held
  members := 0
  rate := 1000
  inc := 2147484
  nin := 0
  nout := 0
  unloadRate := 1000
  window := none
  capture := .none
  everyNth := 1
  counter := 0
  clockRunning := false
  origin := 0
  cycleCount := 0
  reasons := HoldReasons.empty
  pendingStart := none
  lastStart := .none
  missed := 0
  guardRun := 0
  guardSum := none
  latestN := none
  unloadFirst := false

/-- 06 R124. -/
def ZoneSupervisor.reset : ZoneSupervisor where
  zones := Vector.replicate 4 Zone.reset
  alarms := []
  overflow := false

/-- A bank port whose settling ends at `settled` (07 R133, R141). -/
def Bank.reset (settled : Nat) : Bank where
  online := true
  outstanding := none
  waiting := []
  timeoutAt := 0
  consecutive := 0
  timeouts := 0
  strays := 0
  settlingUntil := some settled

/-- 07 R141, for a reset or restart at the oscillator moment `now`. -/
def ScanEngine.reset (now : Nat) : ScanEngine where
  scanList := []
  interval := 0
  expiryAt := 0
  freeRequest := false
  zeroRequest := false
  skipped := 0
  slots := Vector.replicate 4 none
  scan := none
  bankReset := none
  banks := Vector.replicate 4 (Bank.reset (now + Config.bankTime))

/-- 08 R142: the default profile after reset. -/
def Profile.reset : Profile where
  bridge := .quarter
  gf := 2000
  cal := 32768

/-- 08 R142. -/
def Template.reset : Template where
  enabled := false
  value := 0
  mask := 0
  profile := Profile.reset

/-- 08 R155: value 0, NO DATA alone, scan time 0. -/
def Latest.reset : Latest where
  value := 0
  flags := { overRange := false, opened := false, noData := true, defaulted := false }
  time := 0

/-- 08 R157. -/
def StrainConverter.reset : StrainConverter where
  templates := Vector.replicate 8 Template.reset
  tableValid := false
  default := Profile.reset
  zeros := Vector.replicate 256 0
  openCount := Vector.replicate 256 0
  latest := Vector.replicate 256 Latest.reset
  written := []
  zeroOp := none

/-- 09 R165. -/
def StrainQueue.reset : StrainQueue where
  records := []
  pendingLoss := 0
  counter := 0
  timer := .stopped

/-- 09 R166. -/
def LimitRule.reset : LimitRule where
  enabled := false
  gauge := 0
  threshold := 0
  mask := { below := false, equal := false, above := true }
  persistence := 1
  action := .report
  zone := 0
  trip := false
  counter := 0
  latched := false

/-- 09 R166. -/
def LimitWatch.reset : LimitWatch where
  rules := Vector.replicate 32 LimitRule.reset

/-- 10 R174. -/
def LoopRecord.reset : LoopRecord where
  enabled := false
  zone := 0
  severity := .major
  debounce := 10
  latest := .closed
  accepted := .closed
  run := 0
  changed := false
  lastChange := none

/-- 10 R179. -/
def AeRecord.reset : AeRecord where
  enabled := false
  zone := 0
  severity := .minor
  lockout := 100
  winStart := 0
  winEnd := 1023
  ringLen := 8
  threshold := 100
  total := 0
  lockedOut := 0
  cycle := 0
  ring := []
  lastHit := none

/-- 10 R188, for a reset or restart at the oscillator moment `now`. -/
def CrackMonitor.reset (now : Nat) : CrackMonitor where
  loops := Vector.replicate 32 LoopRecord.reset
  aes := Vector.replicate 8 AeRecord.reset
  nextSampleAt := now + Config.loopPeriod

/-- 11 R189, last column. -/
def CaptureConfig.reset : CaptureConfig where
  signals := []
  pre := 1024
  severity := .off
  zoneMask := 0
  continues := false

/-- 11 R202: FREE, no frames, record cleared. -/
def Block.reset : Block where
  state := .free
  signals := []
  pre := 0
  frames := []
  preHeld := 0
  trigger := none
  further := 0

/-- 11 R202. -/
def CaptureUnit.reset : CaptureUnit where
  cfg := CaptureConfig.reset
  blocks := Vector.replicate 4 Block.reset
  stalled := false
  missed := 0

/-- The part right after reset, with no command waiting. -/
def State.reset : State where
  lp := LinkPort.reset
  tb := TimeBase.reset
  ac := Vector.replicate 8 Channel.reset
  zs := ZoneSupervisor.reset
  se := ScanEngine.reset 0
  scv := StrainConverter.reset
  sq := StrainQueue.reset
  lw := LimitWatch.reset
  cm := CrackMonitor.reset 0
  cu := CaptureUnit.reset
  osc := 0
  free := 0
  pending := []

end Sys2Proof.Machine
end

