-- ==== Sys2Proof/Machine/Arith.lean ====
section
/-! DEFINITION. The part's arithmetic: rounding, clamping and saturating counts (00 R1), the sine
table (04 R58), the phase increment and the phase of an update (04 R59, R60). -/

namespace Sys2Proof.Machine

/-- The quotient rounded to the nearest integer, halves away from zero, for a positive divisor (00 R1). -/
def roundDiv (a b : Int) : Int :=
  if 0 ≤ a then (2 * a + b) / (2 * b) else -((2 * -a + b) / (2 * b))

/-- The value brought into `[lo, hi]`: raised to `lo` first, then lowered to `hi` (04 R67, R68). -/
def clamp (lo hi x : Int) : Int := min (max x lo) hi

/-- A saturating count raised by one (00 R1). -/
def bump (top n : Nat) : Nat := min (n + 1) top

/-- `x` moved toward `target` by `step`, reaching it when the distance is no more (04 R62). -/
def moveToward (x target : Int) (step : Nat) : Int :=
  if (target - x).natAbs ≤ step then target
  else if x < target then x + step else x - step

/-- One ramp step of 04 R62 from a rate and a remainder: the step and the new remainder. -/
def rampStep (rate remainder : Nat) : Nat × Nat :=
  ((remainder + rate) / 2000, (remainder + rate) % 2000)

/-- The first quarter of the sine table, S[0] to S[256] (04 R58). -/
def sineQuarter : List Int :=
  [0, 201, 402, 603, 804, 1005, 1206, 1407, 1608, 1809, 2009, 2210, 2410, 2611, 2811, 3012] ++
  [3212, 3412, 3612, 3811, 4011, 4210, 4410, 4609, 4808, 5007, 5205, 5404, 5602, 5800, 5998, 6195] ++
  [6393, 6590, 6786, 6983, 7179, 7375, 7571, 7767, 7962, 8157, 8351, 8545, 8739, 8933, 9126, 9319] ++
  [9512, 9704, 9896, 10087, 10278, 10469, 10659, 10849, 11039, 11228, 11417, 11605, 11793, 11980, 12167, 12353] ++
  [12539, 12725, 12910, 13094, 13279, 13462, 13645, 13828, 14010, 14191, 14372, 14553, 14732, 14912, 15090, 15269] ++
  [15446, 15623, 15800, 15976, 16151, 16325, 16499, 16673, 16846, 17018, 17189, 17360, 17530, 17700, 17869, 18037] ++
  [18204, 18371, 18537, 18703, 18868, 19032, 19195, 19357, 19519, 19680, 19841, 20000, 20159, 20317, 20475, 20631] ++
  [20787, 20942, 21096, 21250, 21403, 21554, 21705, 21856, 22005, 22154, 22301, 22448, 22594, 22739, 22884, 23027] ++
  [23170, 23311, 23452, 23592, 23731, 23870, 24007, 24143, 24279, 24413, 24547, 24680, 24811, 24942, 25072, 25201] ++
  [25329, 25456, 25582, 25708, 25832, 25955, 26077, 26198, 26319, 26438, 26556, 26674, 26790, 26905, 27019, 27133] ++
  [27245, 27356, 27466, 27575, 27683, 27790, 27896, 28001, 28105, 28208, 28310, 28411, 28510, 28609, 28706, 28803] ++
  [28898, 28992, 29085, 29177, 29268, 29358, 29447, 29534, 29621, 29706, 29791, 29874, 29956, 30037, 30117, 30195] ++
  [30273, 30349, 30424, 30498, 30571, 30643, 30714, 30783, 30852, 30919, 30985, 31050, 31113, 31176, 31237, 31297] ++
  [31356, 31414, 31470, 31526, 31580, 31633, 31685, 31736, 31785, 31833, 31880, 31926, 31971, 32014, 32057, 32098] ++
  [32137, 32176, 32213, 32250, 32285, 32318, 32351, 32382, 32412, 32441, 32469, 32495, 32521, 32545, 32567, 32589] ++
  [32609, 32628, 32646, 32663, 32678, 32692, 32705, 32717, 32728, 32737, 32745, 32752, 32757, 32761, 32765, 32766] ++
  [32767]

/-- The sine table S[k], k taken modulo 1024, by the symmetries of 04 R58. -/
def sine (k : Nat) : Int :=
  let i := k % 1024
  if i ≤ 256 then sineQuarter.getD i 0
  else if i ≤ 512 then sineQuarter.getD (512 - i) 0
  else if i ≤ 768 then -(sineQuarter.getD (i - 512) 0)
  else -(sineQuarter.getD (1024 - i) 0)

/-- The phase increment of a cycle rate in mHz (04 R59). -/
def phaseInc (rate : Nat) : Nat := (roundDiv (rate * 2 ^ 32) 2000000).toNat

/-- The phase index at the n-th strobe of a clock with increment `inc` (04 R60). -/
def phaseIndex (inc n : Nat) : Nat := (n * inc % 2 ^ 32) / 2 ^ 22

/-- The wrap number at the n-th strobe (04 R60). -/
def wrapNumber (inc n : Nat) : Nat := n * inc / 2 ^ 32

/-- Whether the n-th strobe is a wrap (04 R60). -/
def isWrap (inc n : Nat) : Bool := 1 ≤ n && wrapNumber inc (n - 1) < wrapNumber inc n

/-- The effective amplitude of the cycle numbered k of a stretch (04 R64). -/
def stretchAmp (amplitude k nin : Nat) : Nat :=
  if nin = 0 then amplitude else (roundDiv (amplitude * min (k + 1) nin) nin).toNat

/-- Whether a member with ramp-out count `j` has ramped out (03 R50, 04 R65). -/
def rampedOut (j nout : Nat) : Bool := 1 ≤ j && nout ≤ j

/-- The effective amplitude of a ramp-out (04 R65); 0 once ramped out. -/
def rampOutAmp (aHold j nout : Nat) : Nat :=
  if j = 0 then aHold
  else if rampedOut j nout then 0
  else (roundDiv (aHold * (nout - j)) nout).toNat

end Sys2Proof.Machine
end

