-- ==== Sys2Proof/Machine/Ops.lean ====
section
/-! DEFINITION. The named operations over the part's tables, its time and its timers. -/

namespace Sys2Proof.Machine

/-! ### Tables -/

/-- The table whose i-th entry is `f i v[i]`. -/
def tabMap {α β : Type} {n : Nat} (f : Fin n → α → β) (v : Vector α n) : Vector β n :=
  ⟨⟨(List.finRange n).map fun i => f i v[i]⟩, by simp⟩

/-- The indices of a table whose entries satisfy `p`, in ascending order. -/
def tabFilter {α : Type} {n : Nat} (p : Fin n → α → Bool) (v : Vector α n) : List (Fin n) :=
  (List.finRange n).filter fun i => p i v[i]

def State.setChan (s : State) (a : ActId) (c : Channel) : State := { s with ac := s.ac.set a c }
def State.setZone (s : State) (z : ZoneId) (x : Zone) : State :=
  { s with zs := { s.zs with zones := s.zs.zones.set z x } }
def State.setBank (s : State) (b : BankId) (x : Bank) : State :=
  { s with se := { s.se with banks := s.se.banks.set b x } }
def State.setRule (s : State) (n : RuleId) (x : LimitRule) : State :=
  { s with lw := { s.lw with rules := s.lw.rules.set n x } }
def State.setLoop (s : State) (n : LoopId) (x : LoopRecord) : State :=
  { s with cm := { s.cm with loops := s.cm.loops.set n x } }
def State.setAe (s : State) (n : AeId) (x : AeRecord) : State :=
  { s with cm := { s.cm with aes := s.cm.aes.set n x } }
def State.setBlock (s : State) (b : BlockId) (x : Block) : State :=
  { s with cu := { s.cu with blocks := s.cu.blocks.set b x } }

/-- The zone record of `z`. -/
def State.zone (s : State) (z : ZoneId) : Zone := s.zs.zones[z]
/-- The channel of actuator `a`. -/
def State.chan (s : State) (a : ActId) : Channel := s.ac[a]

/-- Advance the counter of the free values. -/
def State.bumpFree (s : State) : State := { s with free := s.free + 1 }

/-- Set ALARM-pending (01 R15). -/
def State.alarm (s : State) : State := { s with lp := { s.lp with alarmPending := true } }

/-! ### Hall time (02 R25) -/

/-- The sub-period count: it rises to 499 and holds there until the next strobe. -/
def State.subPeriod (s : State) : Nat := min (s.osc - s.tb.lastStrobeAt) 499
/-- Hall time of the latest strobe. -/
def State.strobeHall (s : State) : Nat := 500 * s.tb.strobeNumber
/-- Hall time. -/
def State.hall (s : State) : Nat := s.strobeHall + s.subPeriod
/-- The hall time the next strobe will have (02 R26). -/
def State.nextHall (s : State) : Nat := s.tb.pendingSet.getD (500 * (s.tb.strobeNumber + 1))

/-! ### Zones and members -/

/-- Whether actuator `a` is a member of the zone record. -/
def Zone.has (z : Zone) (a : ActId) : Bool := z.members.getLsbD a
/-- The members of a zone, in ascending actuator order. -/
def Zone.memberList (z : Zone) : List ActId := (List.finRange 8).filter fun a => z.has a
/-- RUN, HOLD or UNLOAD: the states in which a zone's configuration is protected. -/
def ZoneState.busy : ZoneState → Bool
  | .run | .hold | .unload => true
  | .idle | .ready | .safe => false
/-- The zone a channel belongs to (06 R98). -/
def State.zoneOf (s : State) (a : ActId) : Option ZoneId :=
  (List.finRange 4).find? fun z => (s.zone z).has a
/-- Whether some zone is in a state that satisfies `p`. -/
def State.anyZone (s : State) (p : ZoneState → Bool) : Bool :=
  (List.finRange 4).any fun z => p (s.zone z).state
/-- Whether the current segment of a channel is a CYCLE that has begun cycling (03 R45). -/
def Channel.isCycling (c : Channel) : Bool :=
  match c.current with
  | some (.cycle _ (.cycling _)) => true
  | _ => false
/-- Whether a member of the zone was cycling at its latest update (06 R117, 10 R181). -/
def State.cyclingIn (s : State) (z : ZoneId) : Bool :=
  (s.zone z).memberList.any fun a => (s.chan a).wasCycling
/-- The number of segments a channel's queue holds, the current one counted (03 R36, R54). -/
def Channel.queueLen (c : Channel) : Nat := c.queued.length + (if c.current.isSome then 1 else 0)
/-- The tag of the current segment, or none (03 R54). -/
def Channel.currentTag (c : Channel) : Option Nat :=
  match c.current with
  | some (.ramp g _) => g.tag
  | some (.dwell g _) => g.tag
  | some (.cycle g _) => g.tag
  | none => none
/-- n at a strobe of hall time `hall`, while the zone's clock runs and has had its first strobe (04 R60). -/
def Zone.strobeIndex (z : Zone) (hall : Nat) : Option Nat :=
  if z.clockRunning && z.origin ≤ hall then some ((hall - z.origin) / 500) else none

/-! ### Timers

Each command that is the running out of a timer moves the oscillator to the timer's due moment, and
only the timer that is due first may run out (log 4). -/

/-- The part's own timers, each with the command that stands for its running out. -/
inductive Timer where
  | strobe | syncPulse | regain | uplink | restart | freeScan
  | bank (b : BankId) | settling (b : BankId) | delay | loop | gap
  deriving DecidableEq, Repr

/-- Whether strobes come from the oscillator schedule (02 R27, R29). -/
def TimeBase.onSchedule (t : TimeBase) : Bool := t.role != .follower || t.syncLost

/-- The Strain Queue's delay in force, in microseconds (09 R162). -/
def ScanEngine.delay (e : ScanEngine) : Nat := if e.interval = 0 then 400000 else 4000 * e.interval

/-- The oscillator moment at which a timer is due, while it runs. -/
def State.deadline (s : State) : Timer → Option Nat
  | .strobe => some (s.tb.lastStrobeAt +
      (if s.tb.onSchedule then Config.strobePeriod else Config.edgeDeadline))
  | .syncPulse => if s.tb.line = .high then some (s.tb.lastStrobeAt + Config.syncPulse) else none
  | .regain =>
    if s.tb.role = .follower && s.tb.syncLost && 0 < s.tb.regainRun
    then some (s.tb.lastEdgeAt + Config.edgeDeadline) else none
  | .uplink => s.lp.tx.map (·.endsAt)
  | .restart => if s.lp.restart = .due then some s.osc else none
  | .freeScan => if s.se.interval = 0 then none else some s.se.expiryAt
  | .bank b => if s.se.banks[b].outstanding.isSome then some s.se.banks[b].timeoutAt else none
  | .settling b => s.se.banks[b].settlingUntil
  | .delay =>
    match s.sq.timer with
    | .running since => some (since + s.se.delay)
    | .stopped | .runOut => none
  | .loop => some s.cm.nextSampleAt
  | .gap =>
    if s.lp.rx.mode != .hunt && s.lp.line = .mark then some (s.lp.lastByteAt + Config.gapTime)
    else none

/-- The moment that time cannot pass before a timer's command has been taken: its due moment; for the gap
timer 10 microseconds more, since a byte, or the space of a break, that began in time may still be on the
line when its 20 are over (01 R2, R4, R5; log 5). -/
def State.limit (s : State) (t : Timer) : Option Nat :=
  match t with
  | .gap => (s.deadline .gap).map (· + Config.breakTime)
  | t => s.deadline t

/-- The timers of the part. -/
def allTimers : List Timer :=
  [.strobe, .syncPulse, .regain, .uplink, .restart, .freeScan,
   .bank 0, .bank 1, .bank 2, .bank 3, .settling 0, .settling 1, .settling 2, .settling 3,
   .delay, .loop, .gap]

/-- Whether no timer keeps time from reaching the moment `m`. -/
def State.reachable (s : State) (m : Nat) : Bool :=
  allTimers.all fun t => (s.limit t).all fun d => m ≤ d

/-- The state at the moment a timer runs out, if it runs and no other is due before it. -/
def State.expire (s : State) (t : Timer) : Option State :=
  match s.deadline t with
  | none => none
  | some d => if s.reachable d then some { s with osc := max s.osc d } else none

/-- One microsecond of the oscillator with no command waiting: it passes unless a timer is due (log 3). -/
def State.tick (s : State) : State :=
  if s.reachable (s.osc + 1) then { s with osc := s.osc + 1 } else s

/-- Take `f` at the moment the timer runs out; if it does not run out now, nothing happens (log 2). -/
def State.atExpiry (s : State) (t : Timer) (f : State → State) : State :=
  match s.expire t with
  | some s' => f s'
  | none => s

/-! ### The order of events of one moment (log 8) -/

/-- Take the element at place `i` out of a list. -/
def pickAt {α : Type} : Nat → List α → Option (α × List α)
  | _, [] => none
  | 0, x :: xs => some (x, xs)
  | i + 1, x :: xs =>
    match pickAt i xs with
    | some (y, ys) => some (y, x :: ys)
    | none => none

/-- The events of one moment in the order in which they are taken: at each place the free value
chooses among those still waiting; a single event needs no choice. -/
def arrange {α : Type} (seed : Nat) : Nat → List α → List α
  | 0, l => l
  | n + 1, l =>
    match l with
    | [] => []
    | [x] => [x]
    | x :: y :: zs =>
      match pickAt (Config.nextEvent seed n % (zs.length + 2)) (x :: y :: zs) with
      | some (e, rest) => e :: arrange seed n rest
      | none => x :: y :: zs

/-- The events in the order the free value gives them. -/
def State.inOrder {α : Type} (s : State) (l : List α) : List α := arrange s.free l.length l

end Sys2Proof.Machine
end

