-- ==== Sys2Proof/Machine/Operands.lean ====
section
/-! DEFINITION. The operand forms of the part: the fields of a request's payload read from its bytes,
and the fields of replies and reports written to bytes (12 R203 to R205). -/

namespace Sys2Proof.Machine

/-! ### Reading a payload -/

/-- The number that bytes hold, most significant byte first (12 R203). -/
def beNat (l : List Byte) : Nat := l.foldl (fun n b => n * 256 + b.toNat) 0

/-- The `n` bytes of a payload from offset `off`, as an unsigned number. -/
def field (p : List Byte) (off n : Nat) : Nat := beNat ((p.drop off).take n)

/-- The same as a two's complement number of its size. -/
def fieldI (p : List Byte) (off n : Nat) : Int :=
  let v := field p off n
  if v < 256 ^ n / 2 then (v : Int) else (v : Int) - 256 ^ n

/-- The byte at offset `off`. -/
def byteAt (p : List Byte) (off : Nat) : Byte := p.getD off 0

/-- A number as an index below `n`, if it is one. -/
def index? (n v : Nat) : Option (Fin n) := if h : v < n then some ⟨v, h⟩ else none

/-- A yes/no, on/off or presence byte: 0 or 1 (12 R204). -/
def flag? (v : Nat) : Option Bool := if v = 0 then some false else if v = 1 then some true else none

/-! ### Writing results and reports

An absent optional field's bytes are sent and their value is not stated (12 R204): such a byte is
`none` here and is filled with a free value when the reply is formed (log 13). -/

/-- The bytes of a payload, `none` where the spec states no value. -/
abbrev Wire := List (Option Byte)

/-- A number in `n` bytes, most significant first. -/
def beBytes : Nat → Nat → List Byte
  | 0, _ => []
  | n + 1, v => BitVec.ofNat 8 (v / 256 ^ n) :: beBytes n v

def encN (n v : Nat) : Wire := (beBytes n v).map some
/-- A signed number in two's complement of `n` bytes. -/
def encI (n : Nat) (v : Int) : Wire := encN n (v % (256 ^ n : Nat)).toNat
def encFlag (b : Bool) : Wire := encN 1 (if b then 1 else 0)
/-- An optional field of `n` bytes behind its presence byte (12 R204). -/
def encOpt (n : Nat) : Option Wire → Wire
  | some w => encN 1 1 ++ w
  | none => encN 1 0 ++ List.replicate n none
/-- A list of varying length behind its count byte (12 R204). -/
def encList (l : List Wire) : Wire := encN 1 l.length ++ l.flatten
/-- A zone field that may be none: FFh for none (12 R205). -/
def encZone? : Option ZoneId → Wire
  | some z => encN 1 z
  | none => encN 1 255
/-- A 16-bit index field that may be none: FFFFh for none (12 R205). -/
def encIndex? : Option Nat → Wire
  | some n => encN 2 n
  | none => encN 2 65535

/-- Fill the bytes whose value is not stated with the free values of occasion `k`. -/
def fillFrom (k : Nat) : Nat → Wire → List Byte
  | _, [] => []
  | i, some b :: rest => b :: fillFrom k (i + 1) rest
  | i, none :: rest => Config.absentByte k i :: fillFrom k (i + 1) rest

/-! ### Outcomes -/

/-- The reasons of a REFUSED reply (01 R10). -/
inductive Reason where
  | malformed | range | state | full | late | protect | busy
  deriving DecidableEq, Repr

/-- The outcome codes of 12 R204; 00h is ACCEPTED. -/
def Reason.code : Reason → Nat
  | .malformed => 1 | .range => 2 | .state => 3 | .full => 4 | .late => 5 | .protect => 6 | .busy => 7

/-- What an owner answers to a request it is given (01 R10, R12): accepted, with the state after it
and its results; accepted as a deferred request; refused, with the bytes the reply adds (12 R205). -/
inductive Answer where
  | accepted (s : State) (results : Wire)
  | deferred (s : State)
  | refused (r : Reason) (extra : Wire)

/-- Refused with a reason alone. -/
abbrev Answer.no (r : Reason) : Answer := .refused r []

/-! ### Enumerations (12 R204) -/

def SyncRole.code : SyncRole → Nat | .internal => 0 | .master => 1 | .follower => 2
def SyncRole.ofCode : Nat → Option SyncRole
  | 0 => some .internal | 1 => some .master | 2 => some .follower | _ => none
def StrobeSource.code : StrobeSource → Nat | .oscillator => 0 | .edge => 1 | .substitute => 2
def ChannelState.code : ChannelState → Nat | .off => 0 | .standby => 1 | .active => 2 | .fault => 3
def driveCode : DriveStatus → Nat | .normal => 0 | .pressureLow => 1
def EndAction.code : EndAction → Nat | .next => 0 | .holdZone => 1
def ZoneState.code : ZoneState → Nat
  | .idle => 0 | .ready => 1 | .run => 2 | .hold => 3 | .unload => 4 | .safe => 5
def HoldSub.code : HoldSub → Nat | .rampingOut => 0 | .held => 1
def PhaseCapture.code : PhaseCapture → Nat | .none => 0 | .peak => 1 | .valley => 2 | .both => 3
def PhaseCapture.ofCode : Nat → Option PhaseCapture
  | 0 => some .none | 1 => some .peak | 2 => some .valley | 3 => some .both | _ => Option.none
def StartOutcome.code : StartOutcome → Nat
  | .none => 0 | .started => 1 | .late => 2 | .cancelled => 3
def Severity.code : Severity → Nat | .info => 1 | .minor => 2 | .major => 3
def Severity.ofCode : Nat → Option Severity
  | 1 => some .info | 2 => some .minor | 3 => some .major | _ => none
def BridgeType.code : BridgeType → Nat | .quarter => 0 | .half => 1 | .full => 2 | .off => 3
def BridgeType.ofCode : Nat → Option BridgeType
  | 0 => some .quarter | 1 => some .half | 2 => some .full | 3 => some .off | _ => none
def LimitAction.code : LimitAction → Nat | .report => 0 | .hold => 1 | .unload => 2
def LimitAction.ofCode : Nat → Option LimitAction
  | 0 => some .report | 1 => some .hold | 2 => some .unload | _ => none
def LoopLevel.code : LoopLevel → Nat | .closed => 0 | .opened => 1
def TriggerSeverity.code : TriggerSeverity → Nat | .off => 0 | .info => 1 | .minor => 2 | .major => 3
def TriggerSeverity.ofCode : Nat → Option TriggerSeverity
  | 0 => some .off | 1 => some .info | 2 => some .minor | 3 => some .major | _ => none
def BlockState.code : BlockState → Nat | .free => 0 | .recording => 1 | .post => 2 | .locked => 3
def CaptureState.code : CaptureState → Nat | .recording => 0 | .post => 1 | .stalled => 2 | .idle => 3
def RaiseKind.code : RaiseKind → Nat | .newEntry => 1 | .occurrence => 2 | .notStored => 3
/-- Scan kinds where a scan of any kind is named (07 R132). -/
def ScanKind.code : ScanKind → Nat | .free => 0 | .zero => 1 | .peak => 2 | .valley => 3
/-- Record kinds of a STRAIN slice: 00h FREE, 01h PEAK, 02h VALLEY (12 R205). -/
def ScanKind.sliceCode : ScanKind → Nat | .free => 0 | .peak => 1 | .valley => 2 | .zero => 3

/-- Source kind and number (12 R204). -/
def AlarmSource.code : AlarmSource → Nat × Nat
  | .loop n => (1, n) | .ae n => (2, n) | .limit n => (3, n)
  | .actuator n => (4, n) | .total z => (5, z) | .sync z => (6, z)
/-- The source a kind and a number name, if the number is in its range; 07h REQUEST names none. -/
def AlarmSource.ofCode (kind number : Nat) : Option AlarmSource :=
  match kind with
  | 1 => (index? 32 number).map .loop
  | 2 => (index? 8 number).map .ae
  | 3 => (index? 32 number).map .limit
  | 4 => (index? 8 number).map .actuator
  | 5 => (index? 4 number).map .total
  | 6 => (index? 4 number).map .sync
  | _ => none

/-- A capture signal's kind and index (12 R204). -/
def Signal.code : Signal → Nat × Nat
  | .actForce a => (1, a) | .actCommand a => (2, a) | .actStroke a => (3, a)
  | .actValve a => (4, a) | .gauge g => (5, g)
def Signal.ofCode (kind i : Nat) : Option Signal :=
  match kind with
  | 1 => (index? 8 i).map .actForce
  | 2 => (index? 8 i).map .actCommand
  | 3 => (index? 8 i).map .actStroke
  | 4 => (index? 8 i).map .actValve
  | 5 => (index? 256 i).map .gauge
  | _ => none
def Signal.enc (x : Signal) : Wire := encN 1 x.code.1 ++ encN 1 x.code.2

/-! ### Segment records (12 R205) -/

/-- The length of a segment by its kind byte: RAMP 13, DWELL 9, CYCLE 19. -/
def segmentLen : Nat → Option Nat
  | 1 => some 13 | 2 => some 9 | 3 => some 19 | _ => none

/-- Cut `n` segments off the bytes that follow the count; none when a kind is none of the three or the
lengths do not match (12 R204: MALFORMED). -/
def cutSegments : Nat → List Byte → Option (List (List Byte))
  | 0, [] => some []
  | 0, _ :: _ => none
  | n + 1, bytes =>
    match bytes with
    | [] => none
    | k :: _ =>
      match segmentLen k.toNat with
      | none => none
      | some len =>
        if bytes.length < len then none
        else (cutSegments n (bytes.drop len)).map fun rest => bytes.take len :: rest

/-- The tag and end action at the end of a segment, by its presence bits (12 R205): the tag's two
bytes stand at `off`, the end action's byte behind them. None when the end action is out of range. -/
def segmentTail (b : List Byte) (off presence : Nat) : Option (Option Nat × EndAction) :=
  let tag := if presence.testBit 1 then some (field b off 2) else none
  if presence.testBit 2 then
    match field b (off + 2) 1 with
    | 0 => some (tag, .next)
    | 1 => some (tag, .holdZone)
    | _ => none
  else some (tag, .next)

def inForce (x : Int) : Bool := -Config.forceMax ≤ x && x ≤ Config.forceMax

/-- One segment read from its bytes; none when a field lies outside its range or a presence bit stands
that its kind does not allow (03 R37, 12 R204: RANGE). -/
def readSegment (b : List Byte) : Option Segment :=
  let presence := field b 1 1
  match field b 0 1 with
  | 1 =>
    let target := fieldI b 2 4
    let rate := field b 6 4
    if presence < 8 && !presence.testBit 0 && inForce target && 1 ≤ rate && rate ≤ 1000000 then
      (segmentTail b 10 presence).map fun t => .ramp { target, rate, tag := t.1, final := t.2 }
    else none
  | 2 =>
    let duration := field b 2 4
    if presence < 8 && !presence.testBit 0 && 1 ≤ duration && duration ≤ 3600000 then
      (segmentTail b 6 presence).map fun t => .dwell { duration, tag := t.1, final := t.2 }
    else none
  | 3 =>
    let mean := fieldI b 2 4
    let amplitude := field b 6 4
    let offset := if presence.testBit 0 then field b 14 2 else 0
    if presence < 8 && inForce mean && amplitude ≤ 3000000 && offset ≤ 1023 then
      (segmentTail b 16 presence).map fun t =>
        .cycle { mean, amplitude, count := field b 10 4, offset, tag := t.1, final := t.2 }
    else none
  | _ => none

/-- Every element read, or none if one cannot be. -/
def readAll {α β : Type} (f : α → Option β) : List α → Option (List β)
  | [] => some []
  | x :: xs =>
    match f x, readAll f xs with
    | some y, some ys => some (y :: ys)
    | _, _ => none

/-- The actuators an actuator mask selects, in ascending order (01 R11). -/
def maskActs (m : Byte) : List ActId := (List.finRange 8).filter fun a => m.getLsbD a

end Sys2Proof.Machine
end

