-- ==== Sys2Proof/Machine/Flags.lean ====
section
/-! DEFINITION. The part's flag sets and their codes (12 R204): hold reasons, fault causes, strain
flags, limit conditions; and what a set says as a whole. -/

namespace Sys2Proof.Machine

def bitIf (b : Bool) (v : Nat) : Nat := if b then v else 0

/-- 01h REQUEST, 02h SEGMENT, 04h ALARM, 08h SYNC. -/
def HoldReasons.code (r : HoldReasons) : Nat :=
  bitIf r.request 1 + bitIf r.segment 2 + bitIf r.alarm 4 + bitIf r.sync 8

/-- 01h TRACKING, 02h STROKE, 04h FEEDBACK, 08h HYDRAULIC. -/
def FaultCauses.code (c : FaultCauses) : Nat :=
  bitIf c.tracking 1 + bitIf c.stroke 2 + bitIf c.feedback 4 + bitIf c.hydraulic 8

/-- Whether a cause was found (05 R86). -/
def FaultCauses.any (c : FaultCauses) : Bool := c.tracking || c.stroke || c.feedback || c.hydraulic

/-- 01h OVER RANGE, 02h OPEN, 04h NO DATA, 08h DEFAULT. -/
def SampleFlags.code (f : SampleFlags) : Nat :=
  bitIf f.overRange 1 + bitIf f.opened 2 + bitIf f.noData 4 + bitIf f.defaulted 8

/-- 01h BELOW, 02h EQUAL, 04h ABOVE. -/
def LimitMask.code (m : LimitMask) : Nat := bitIf m.below 1 + bitIf m.equal 2 + bitIf m.above 4

/-- A condition mask byte: a non-empty set of its codes (09 R166, 12 R204). -/
def LimitMask.ofCode (v : Nat) : Option LimitMask :=
  if 1 ≤ v && v ≤ 7 then some ⟨v.testBit 0, v.testBit 1, v.testBit 2⟩ else none

/-- A hold reason, as a cause names it (06 R111). -/
inductive HoldReason where
  | request | segment | alarm | sync
  deriving DecidableEq, Repr

/-- A reason added to a set; a reason already in the set stays once (06 R111). -/
def HoldReasons.add (r : HoldReasons) : HoldReason → HoldReasons
  | .request => { r with request := true }
  | .segment => { r with segment := true }
  | .alarm => { r with alarm := true }
  | .sync => { r with sync := true }

/-- The order of severities: INFO below MINOR below MAJOR (10 R178, 11 R194). -/
def Severity.rank : Severity → Nat | .info => 1 | .minor => 2 | .major => 3

/-- The order of limit actions: REPORT weaker than HOLD weaker than UNLOAD (09 R168). -/
def LimitAction.rank : LimitAction → Nat | .report => 0 | .hold => 1 | .unload => 2

/-- The severity of a rule's alarm (09 R166). -/
def LimitAction.severity : LimitAction → Severity
  | .report => .info | .hold => .minor | .unload => .major

/-- Whether a raise's severity is at or above a trigger severity that is not OFF (11 R194). -/
def TriggerSeverity.admits : TriggerSeverity → Severity → Bool
  | .off, _ => false
  | .info, _ => true
  | .minor, x => 2 ≤ x.rank
  | .major, x => 3 ≤ x.rank

/-- Whether a condition mask holds the result of comparing a value with a threshold (09 R169). -/
def LimitMask.holds (m : LimitMask) (value threshold : Int) : Bool :=
  if value < threshold then m.below else if value = threshold then m.equal else m.above

end Sys2Proof.Machine
end

