-- ==== Sys2Proof/Machine/Reports.lean ====
section
/-! DEFINITION. The reports of the part and the records they share with replies, byte by byte
(12 R205): alarm entry and ALARM report, block record and capture frame, STRAIN slice. -/

namespace Sys2Proof.Machine

/-! ### Alarm entry and ALARM report -/

/-- The 20 bytes of an alarm entry. -/
def AlarmEntry.enc (e : AlarmEntry) : Wire :=
  encN 1 e.source.code.1 ++ encN 1 e.source.code.2 ++ encN 1 e.zone ++ encN 1 e.severity.code ++
  encN 8 e.raised ++ encOpt 4 (e.cycle.map (encN 4)) ++ encN 2 e.occurrences ++ encFlag e.reported

/-- The entries an ALARM report shows: the unreported ones, MAJOR first, then MINOR, then INFO, oldest
raising first within one severity (01 R15, 06 R121). -/
def reportOrder (l : List AlarmEntry) : List AlarmEntry :=
  let u := l.filter fun e => !e.reported
  u.filter (·.severity = .major) ++ u.filter (·.severity = .minor) ++ u.filter (·.severity = .info)

/-- A zone's three bytes in the ALARM payload. -/
def Zone.encStatus (z : Zone) : Wire :=
  encN 1 z.state.code ++ encN 1 z.sub.code ++ encN 1 z.reasons.code

/-- The ALARM payload (12 R205). -/
def alarmPayload (s : State) : Wire :=
  ((List.finRange 4).map fun z => (s.zone z).encStatus).flatten ++ encFlag s.zs.overflow ++
  encList ((reportOrder s.zs.alarms).map AlarmEntry.enc)

/-! ### Block record and capture frame -/

/-- First frame time: the hall time of frame 0's strobe, or none (11 R192). -/
def Block.firstTime (b : Block) : Option Nat := b.frames.head?.map (·.hall)

/-- The index of the first frame taken at a strobe that applied a time set, or none (11 R192). -/
def Block.timeSetFrame (b : Block) : Option Nat := b.frames.findIdx? (·.timeSet)

/-- A trigger's source (kind and number, 0 for REQUEST), zone, severity and raise kind. -/
def Trigger.encSource (t : Trigger) : Wire :=
  match t.alarm with
  | some a => encN 1 a.source.code.1 ++ encN 1 a.source.code.2
  | none => encN 1 7 ++ encN 1 0
def Trigger.encKind (t : Trigger) : Wire :=
  match t.alarm with
  | some a => encN 1 a.zone ++ encN 1 a.severity.code ++ encN 1 a.kind.code
  | none => encN 1 255 ++ encN 1 0 ++ encN 1 0

/-- An optional value without a presence byte; its bytes have no stated value when there is none. -/
def encBare (n : Nat) : Option Wire → Wire
  | some w => w
  | none => List.replicate n none

/-- The 48 bytes of the block record. -/
def Block.encRecord (b : Block) : Wire :=
  encN 1 b.signals.length ++
  ((b.signals.map Signal.enc).flatten ++ List.replicate (2 * (8 - b.signals.length)) (some 0)) ++
  encN 2 b.pre ++ encN 2 b.frames.length ++ encBare 8 (b.firstTime.map (encN 8)) ++
  encIndex? b.timeSetFrame ++ encN 2 b.preHeld ++
  encBare 8 (b.trigger.map fun t => encN 8 t.time) ++ encBare 2 (b.trigger.map Trigger.encSource) ++
  encBare 3 (b.trigger.map Trigger.encKind) ++ encN 2 b.further

/-- One signal of a frame: an ACT value in 32 bits; a GAUGE value in 24 behind its mark. -/
def encSignal (x : Signal) (v : SignalValue) : Wire :=
  match x with
  | .gauge _ => encFlag v.mark ++ encI 3 v.value
  | .actForce _ | .actCommand _ | .actStroke _ | .actValve _ => encI 4 v.value

/-- The bytes of a capture frame, in the order of the block's signal list. -/
def encFrame (signals : List Signal) (f : CaptureFrame) : Wire :=
  (List.zipWith encSignal signals f.values).flatten

/-! ### STRAIN slice -/

/-- One byte per two entries, the earlier in the high four bits; the last four bits 0 when odd. -/
def flagTable : List StrainEntry → Wire
  | [] => []
  | [a] => encN 1 (16 * a.flags.code)
  | a :: b :: rest => encN 1 (16 * a.flags.code + b.flags.code) ++ flagTable rest

/-- A force item: actuator, tag presence, measured force, tag. -/
def ForceItem.enc (f : ForceItem) : Wire :=
  encN 1 f.actuator ++ encFlag f.tag.isSome ++ encI 4 f.force ++ encBare 2 (f.tag.map (encN 2))

/-- The header fields of a slice marked first (09 R163, 12 R205). -/
def StrainRecord.encHeader (r : StrainRecord) : Wire :=
  encN 1 r.kind.sliceCode ++ encN 8 r.start ++ encN 1 r.loss ++ encN 2 (r.sent + r.unsent.length) ++
  match r.phase with
  | some p => encN 1 p.zone ++ encN 4 p.cycle ++ encN 4 r.lag ++ encList (p.forces.map ForceItem.enc)
  | none => []

/-- The entries of the record's next slice: its next unsent ones, up to 200 (01 R17). -/
def StrainRecord.sliceEntries (r : StrainRecord) : List StrainEntry := r.unsent.take Config.sliceEntries

/-- Whether the next slice ends the record. -/
def StrainRecord.sliceIsLast (r : StrainRecord) : Bool := r.unsent.length ≤ Config.sliceEntries

/-- The payload of the record's next slice. -/
def StrainRecord.encSlice (r : StrainRecord) : Wire :=
  let es := r.sliceEntries
  encN 2 r.number ++ encN 1 (bitIf (!r.sliced) 1 + bitIf r.sliceIsLast 2) ++ encN 2 r.sent ++
  encN 1 es.length ++ (if r.sliced then [] else r.encHeader) ++
  (es.map fun e => encN 1 e.gauge ++ encI 3 e.value).flatten ++ flagTable es

end Sys2Proof.Machine
end

