-- ==== Sys2Proof/Machine/Link.lean ====
section
/-! DEFINITION. The Link Port (01): frame check and frames, receiver and address filter, request and
reply queues, the taking of requests, the uplink arbiter; and the meanings of the link's own events. -/

namespace Sys2Proof.Machine
open Host

/-! ### Frames (01 R6, 12 R203) -/

/-- One bit of the CRC register's shift: generator x^16 + x^12 + x^5 + 1. -/
def crcShift (c : Word16) : Word16 := if c.msb then (c <<< 1) ^^^ 0x1021#16 else c <<< 1

/-- One byte fed in, most significant bit first. -/
def crcByte (c : Word16) (b : Byte) : Word16 :=
  Nat.repeat crcShift 8 (c ^^^ (b.setWidth 16 <<< 8))

/-- The CRC-16 of bytes, from all ones, with no inversion of the result. -/
def crc16 (l : List Byte) : Word16 := l.foldl crcByte 0xFFFF#16

/-- The start byte. -/
def startByte : Byte := 0xC3

/-- The bytes of a frame: start byte, address, tag, kind, length, payload, check. -/
def frameBytes (addr tag kind : Byte) (payload : List Byte) : List Byte :=
  let inner := [addr, tag, kind] ++ beBytes 2 payload.length ++ payload
  startByte :: inner ++ beBytes 2 (crc16 inner).toNat

/-- Start sending a frame from the node address; its last stop bit ends one byte time per byte later
(01 R2). The free values of this occasion fill the bytes without a stated value. -/
def State.sendFrame (s : State) (kind tag : Byte) (payload : List Byte) (carries : Carries) : State :=
  { s with lp := { s.lp with tx := some {
      bytes := frameBytes (s.lp.nodeAddr.setWidth 8) tag kind payload
      carries
      endsAt := s.osc + Config.byteTime * (8 + payload.length) } } }

/-- A report: tag 0, built from a payload with the free values of this occasion. -/
def State.sendReport (s : State) (kind : Byte) (w : Wire) (carries : Carries) : State :=
  (s.sendFrame kind 0 (fillFrom s.free 0 w) carries).bumpFree

/-! ### The uplink arbiter (01 R14 to R17) -/

/-- The entries the Strain Queue holds: those not yet sent (09 R160). -/
def StrainQueue.entriesHeld (q : StrainQueue) : Nat := (q.records.map fun r => r.unsent.length).sum

/-- Whether the Strain Queue is due (01 R17). -/
def State.strainDue (s : State) : Bool :=
  s.lp.reporting.strain &&
  match s.sq.records with
  | [] => false
  | r :: _ => s.lp.reporting.level ≤ s.sq.entriesHeld || s.sq.timer = .runOut || r.sliced

/-- Build the ALARM report: the snapshot clears ALARM-pending and marks its entries reported (01 R15). -/
def State.buildAlarm (s : State) : State :=
  let t := s.sendReport 0x81 (alarmPayload s) .alarm
  { t with
    lp := { t.lp with alarmPending := false }
    zs := { t.zs with alarms := t.zs.alarms.map fun e => { e with reported := true } } }

/-- Send the oldest reply (01 R14). -/
def State.buildReply (s : State) (r : Reply) (rest : List Reply) : State :=
  { s with lp := { s.lp with replies := rest } }.sendFrame 0x80 r.tag r.payload (.reply r.restart)

/-- Build the CAPTURE report of the block that locked earliest; its announce mark clears (01 R16). -/
def State.buildCapture (s : State) (b : BlockId) (rest : List BlockId) : State :=
  { s with lp := { s.lp with announce := rest } }.sendReport 0x82
    (encN 1 b ++ s.cu.blocks[b].encRecord) .capture

/-- Build the next slice of the oldest record, if the Strain Queue is due (01 R17). -/
def State.buildStrain (s : State) : State :=
  match s.sq.records with
  | [] => s
  | r :: _ =>
    if s.strainDue then
      s.sendReport 0x83 r.encSlice (.strain r.sliceEntries.length r.sliceIsLast)
    else s

/-- The arbiter: with the transmitter idle, the first of ALARM report, reply, CAPTURE report and
STRAIN report that holds is built and sent (01 R14). At the moment a restart takes effect nothing is
built (01 R23). -/
def arbitrate (s : State) : State :=
  if s.lp.tx.isSome || s.lp.restart = .due then s
  else if s.lp.alarmPending then s.buildAlarm
  else
    match s.lp.replies with
    | r :: rest => s.buildReply r rest
    | [] =>
      match s.lp.announce with
      | b :: rest => if s.lp.reporting.capture then s.buildCapture b rest else s.buildStrain
      | [] => s.buildStrain

/-! ### Taking requests (01 R9, R10, R12, R13) -/

/-- A reply joins the tail of the reply queue: the kind answered, the outcome code, what follows
(12 R205). -/
def State.pushReply (s : State) (tag kind : Byte) (code : Nat) (w : Wire) (restart : Bool) : State :=
  { s with
    free := s.free + 1
    lp := { s.lp with replies := s.lp.replies ++
      [{ tag, payload := fillFrom s.free 0 (some kind :: encN 1 code ++ w), restart }] } }

/-- Whether the request at the head may be taken: room for its reply, unless it came by broadcast, and
no RESTART waiting (01 R9). -/
def State.mayTake (s : State) (r : Request) : Bool :=
  s.lp.restart = .idle &&
  (r.cls = .broadcast || s.lp.replies.length + s.lp.reservations < Config.linkQueue)

/-- The end of taking a request: its reply enters the reply queue, or none does for a broadcast; a
refused request changes nothing else (01 R10, R13). -/
def State.answer (s : State) (r : Request) : Answer → State
  | .accepted t w => if r.cls = .broadcast then t else t.pushReply r.tag r.kind 0 w (r.kind = 0x06)
  | .deferred t => t
  | .refused why extra =>
    if r.cls = .broadcast then s else s.pushReply r.tag r.kind why.code extra false

/-- The part with the head request gone from the queue. -/
def State.dequeued (s : State) : State := { s with lp := { s.lp with requests := s.lp.requests.tail } }

/-- Take the request at the head of the queue if its kind satisfies `p` and it may be taken now; it
leaves the queue and its owner `act` answers it. Otherwise nothing is taken (log 2). -/
def State.takeIf (s : State) (p : Byte → Bool) (act : Request → State → Answer) : State :=
  match s.lp.requests with
  | [] => s
  | r :: _ =>
    if p r.kind && s.mayTake r then s.dequeued.answer r (act r s.dequeued) else s

/-- The taking of a request of one kind, and the arbiter after it. -/
def takes (kind : Byte) (act : Request → State → Answer) (s : State) : Outcome State Fault Refusal :=
  .next (arbitrate (s.takeIf (· = kind) act))

/-- One place of the reply queue reserved for a deferred reply, unless by broadcast (01 R12). -/
def State.reserve (s : State) (r : Request) : State :=
  if r.cls = .broadcast then s
  else { s with lp := { s.lp with reservations := s.lp.reservations + 1 } }

/-- The tag a deferred operation keeps for its reply: none by broadcast (01 R12). -/
def Request.deferredTag (r : Request) : Option Byte := if r.cls = .broadcast then none else some r.tag

/-- A deferred operation completes: its reservation becomes a reply at the tail (01 R12). -/
def State.deferredReply (s : State) (tag : Option Byte) (kind : Byte) (w : Wire) : State :=
  match tag with
  | none => s
  | some t =>
    { s with lp := { s.lp with reservations := s.lp.reservations - 1 } }.pushReply t kind 0 w false

/-- The request kinds of the catalogue (12 R203). -/
def requestKinds : List Byte :=
  [0x01, 0x02, 0x03, 0x04, 0x05, 0x06, 0x10, 0x11, 0x12] ++
  [0x20, 0x21, 0x22, 0x23, 0x24, 0x25, 0x26, 0x27] ++
  [0x30, 0x31, 0x32, 0x33, 0x34, 0x35, 0x36, 0x37, 0x38, 0x39, 0x3A, 0x3B] ++
  [0x40, 0x41, 0x42, 0x43, 0x44, 0x45, 0x46, 0x47, 0x48, 0x50, 0x51, 0x52] ++
  [0x60, 0x61, 0x62, 0x63, 0x64]

/-- UNKNOWN_KIND_REQUEST: a request whose kind is none of the catalogue, a reply or report kind
included, is taken and refused with MALFORMED (01 R10). -/
def execUnknownKindRequest (s : State) : Outcome State Fault Refusal :=
  .next (arbitrate (s.takeIf (fun k => !requestKinds.contains k) fun _ _ => .no .malformed))

/-! ### Receiver (01 R2 to R8) -/

/-- The frame in progress is abandoned: HUNT, buffer empty. -/
def LinkPort.hunt (l : LinkPort) : LinkPort := { l with rx := { mode := .hunt, buf := [] } }

def LinkPort.countCheck (l : LinkPort) : LinkPort :=
  { l with counts := { l.counts with check := bump Config.max16 l.counts.check } }

/-- The address class of a frame with this address byte, if the filter accepts it (01 R7). -/
def LinkPort.accepts (l : LinkPort) (addr : Byte) : Option AddrClass :=
  if addr = 255 then some .broadcast
  else if addr = l.nodeAddr.setWidth 8 then some .node
  else if l.groupAddr = some addr then some .group
  else none

/-- An accepted frame joins the request queue, or is dropped and counted when four wait (01 R8). -/
def LinkPort.enqueue (l : LinkPort) (r : Request) : LinkPort :=
  if l.requests.length < Config.linkQueue then { l with requests := l.requests ++ [r] }
  else { l with counts := { l.counts with dropped := bump Config.max16 l.counts.dropped } }

/-- A complete frame: address, tag, kind, length, payload, check (01 R6, R7). -/
def LinkPort.frameDone (l : LinkPort) (buf : List Byte) : LinkPort :=
  let inner := buf.take (buf.length - 2)
  if beNat (buf.drop (buf.length - 2)) ≠ (crc16 inner).toNat then l.hunt.countCheck
  else
    match l.accepts (byteAt buf 0) with
    | none => l.hunt
    | some cls =>
      l.hunt.enqueue { tag := byteAt buf 1, kind := byteAt buf 2, payload := inner.drop 5, cls }

/-- A byte with its stop bit at mark arrives (01 R3). -/
def LinkPort.rxByte (l : LinkPort) (b : Byte) : LinkPort :=
  match l.rx.mode with
  | .hunt => if b = startByte then { l with rx := { mode := .header, buf := [] } } else l
  | .header =>
    let buf := l.rx.buf ++ [b]
    if buf.length < 5 then { l with rx := { mode := .header, buf } }
    else if field buf 3 2 ≤ 1024 then { l with rx := { mode := .body, buf } }
    else
      { l.hunt with counts := { l.counts with length := bump Config.max16 l.counts.length } }
  | .body =>
    let buf := l.rx.buf ++ [b]
    if buf.length < 5 + field buf 3 2 + 2 then { l with rx := { mode := .body, buf } }
    else l.frameDone buf

/-- A byte whose stop bit was at space is discarded; inside a frame the frame is abandoned and the
check count rises (01 R2). The line is back at mark. -/
def LinkPort.framingError (l : LinkPort) : LinkPort :=
  let l := { l with line := .mark }
  match l.rx.mode with
  | .hunt => l
  | .header | .body => l.hunt.countCheck

/-- The line is at mark before a byte begins: a byte with a bad stop bit was a framing error (01 R2),
a break has ended (01 R5). -/
def LinkPort.atMark (l : LinkPort) : LinkPort :=
  match l.line with
  | .mark => l
  | .badStop => l.framingError
  | .brk => { l with line := .mark }

/-- The space inside a frame has run past 20 microseconds: the frame is abandoned, the gap count rises
(01 R4). -/
def LinkPort.gapOut (l : LinkPort) : LinkPort :=
  { l.hunt with counts := { l.counts with gap := bump Config.max16 l.counts.gap } }

/-- The link as something of `len` microseconds that ends now finds it when it began: past the 20
microseconds of a gap inside a frame, with the line at mark, the gap has run out first (01 R4). -/
def LinkPort.timed (l : LinkPort) (now len : Nat) : LinkPort :=
  if l.rx.mode != .hunt && l.line = .mark && l.lastByteAt + Config.gapTime + len < now then l.gapOut
  else l

/-- BYTE_RECEIVED: a byte arrives at the end of its stop bit (01 R3); a late one finds the receiver in
HUNT (01 R4). One whose stop bit is at space waits for LINE_RETURNS_TO_MARK or BREAK (01 R2). -/
def execByteReceived (b : Byte) (stop : StopBit) (s : State) : Outcome State Fault Refusal :=
  let l := { s.lp.atMark.timed s.osc Config.byteTime with lastByteAt := s.osc }
  match stop with
  | .mark => .next { s with lp := l.rxByte b }
  | .space => .next { s with lp := { l with line := .badStop } }

/-- LINE_RETURNS_TO_MARK: after a byte whose stop bit was at space the line returns to mark in time:
a framing error (01 R2). After a break it ends the break (01 R5). -/
def execLineReturnsToMark (s : State) : Outcome State Fault Refusal :=
  .next { s with lp := s.lp.atMark }

/-- GAP: the 20 microseconds between two bytes of a frame run out: the frame is abandoned, the gap
count rises (01 R4). In HUNT the space is not timed; a break stops the timer (01 R5). -/
def execGap (s : State) : Outcome State Fault Refusal :=
  .next (s.atExpiry .gap fun t => { t with lp := t.lp.gapOut })

/-- BREAK: the downlink has been at space for 20 bit times: any frame is abandoned, the break count
rises once for each break (01 R5). A break that began past the 20 microseconds finds the gap counted (01 R4). -/
def execLineBreak (s : State) : Outcome State Fault Refusal :=
  if s.lp.line = .brk then .next s
  else
    let l := s.lp.timed s.osc Config.breakTime
    .next { s with lp :=
      { l.hunt with
        line := .brk
        counts := { l.counts with brk := bump Config.max16 l.counts.brk } } }

/-! ### The end of an uplink frame -/

/-- A slice's frame has been sent: its entries leave the record, a record leaves with its last slice,
the delay timer restarts, or stops when the queue is empty (09 R162, R163). -/
def StrainQueue.sliceSent (q : StrainQueue) (n : Nat) (last : Bool) (now : Nat) : StrainQueue :=
  match q.records with
  | [] => q
  | r :: rest =>
    let records := if last then rest
      else { r with unsent := r.unsent.drop n, sent := r.sent + n, sliced := true } :: rest
    { q with records, timer := if records.isEmpty then .stopped else .running now }

/-- The transmitter finishes a frame: what its end brings, a waiting restart among it (01 R23). -/
def State.frameEnd (s : State) : State :=
  match s.lp.tx with
  | none => s
  | some f =>
    let restart : RestartPhase :=
      if f.carries = .reply true || s.lp.restart = .awaitFrame then .due else s.lp.restart
    let t := { s with lp := { s.lp with tx := none, restart } }
    match f.carries with
    | .strain n last => { t with sq := t.sq.sliceSent n last t.osc }
    | .alarm | .reply _ | .capture => t

/-- UPLINK_FRAME_END: the transmitter finishes its frame and the arbiter chooses the next (01 R14). -/
def execUplinkFrameEnd (s : State) : Outcome State Fault Refusal :=
  .next (s.atExpiry .uplink fun t => arbitrate t.frameEnd)

end Sys2Proof.Machine
end

