-- ==== Sys2Proof/Machine/Capture.lean ====
section
/-! DEFINITION. The Capture Unit's work (11): its state, recording, triggers, frames and the lock. -/

namespace Sys2Proof.Machine

/-- The block that is RECORDING or POST, if any (11 R192). -/
def CaptureUnit.active (u : CaptureUnit) : Option BlockId :=
  (List.finRange 4).find? fun b => u.blocks[b].state = .recording || u.blocks[b].state = .post

/-- CU's state follows the blocks and the stall (11 R192). -/
def CaptureUnit.state (u : CaptureUnit) : CaptureState :=
  match u.active with
  | some b => if u.blocks[b].state = .recording then .recording else .post
  | none => if u.stalled then .stalled else .idle

/-- The lowest-numbered FREE block (11 R189, R197). -/
def CaptureUnit.lowestFree (u : CaptureUnit) : Option BlockId :=
  (List.finRange 4).find? fun b => u.blocks[b].state = .free

/-- The number of LOCKED blocks. -/
def CaptureUnit.lockedCount (u : CaptureUnit) : Nat :=
  ((List.finRange 4).filter fun b => u.blocks[b].state = .locked).length

/-- A block as it enters RECORDING under a configuration (11 R193). -/
def Block.recordingUnder (cfg : CaptureConfig) : Block :=
  { state := .recording, signals := cfg.signals, pre := cfg.pre, frames := [], preHeld := 0,
    trigger := none, further := 0 }

/-- Block `b` enters RECORDING (11 R193). -/
def State.startRecording (s : State) (b : BlockId) : State :=
  let t := s.setBlock b (Block.recordingUnder s.cu.cfg)
  { t with cu := { t.cu with stalled := false } }

/-- A trigger acts by CU's state (11 R196): RECORDING goes to POST with the trigger's record, POST
counts a further trigger, STALLED counts a miss, IDLE does nothing. -/
def State.trigger (s : State) (t : Trigger) : State :=
  match s.cu.active with
  | some b =>
    let x := s.cu.blocks[b]
    if x.state = .recording then
      s.setBlock b { x with state := .post, trigger := some t, preHeld := x.frames.length }
    else s.setBlock b { x with further := bump Config.max16 x.further }
  | none =>
    if s.cu.stalled then { s with cu := { s.cu with missed := bump Config.max16 s.cu.missed } }
    else s

/-- A raise handed over by the Zone Supervisor triggers when it qualifies (11 R194). -/
def State.alarmTrigger (s : State) (time : Nat) (a : AlarmTrigger) : State :=
  if s.cu.cfg.severity.admits a.severity && s.cu.cfg.zoneMask.getLsbD a.zone
  then s.trigger { time, alarm := some a } else s

/-- The value a signal gives (11 R190); `chans` are the channels as the frame finds them, each before or
after its update of this strobe (11 R191). -/
def State.signalValue (s : State) (chans : Vector Channel 8) : Signal → SignalValue
  | .actForce a => { value := chans[a].measured.force, mark := false }
  | .actCommand a => { value := chans[a].prev, mark := false }
  | .actStroke a => { value := chans[a].measured.stroke, mark := false }
  | .actValve a => { value := chans[a].valve, mark := false }
  | .gauge g => { value := s.scv.latest[g].value, mark := s.scv.written.contains g }

/-- The last `n` elements of a list. -/
def lastN {α : Type} (n : Nat) (l : List α) : List α := l.drop (l.length - n)

/-- The block locks: it is announced, and recording goes on in the lowest FREE block, stalls, or ends
(11 R197). -/
def State.lockBlock (s : State) (b : BlockId) : State :=
  let t := s.setBlock b { s.cu.blocks[b] with state := .locked }
  let t := { t with lp := { t.lp with announce := t.lp.announce ++ [b] } }
  if t.cu.cfg.continues then
    match t.cu.lowestFree with
    | some n => t.startRecording n
    | none => { t with cu := { t.cu with stalled := true } }
  else t

/-- One capture frame at a strobe: RECORDING keeps the most recent P frames (11 R193); POST adds, and
locks when it has taken 2048 - P frames (11 R197). The new-value marks are then spent (11 R190). -/
def State.takeFrame (s : State) (chans : Vector Channel 8) (timeSet : Bool) : State :=
  match s.cu.active with
  | none => s
  | some b =>
    let x := s.cu.blocks[b]
    let f : CaptureFrame :=
      { hall := s.hall, timeSet, values := x.signals.map (s.signalValue chans) }
    let s := { s with scv := { s.scv with written := [] } }
    if x.state = .recording then
      s.setBlock b { x with frames := lastN x.pre (x.frames ++ [f]) }
    else
      let frames := x.frames ++ [f]
      let t := s.setBlock b { x with frames }
      if Config.blockFrames - x.pre ≤ frames.length - x.preHeld then t.lockBlock b else t

end Sys2Proof.Machine
end

