-- ==== Sys2Proof/Machine/Alarms.lean ====
section
/-! DEFINITION. The Zone Supervisor's shared operations (06): entry into HOLD, UNLOAD and SAFE, and a
raise into the alarm list with what its severity does. -/

namespace Sys2Proof.Machine

/-- A set of hold reasons changes; ALARM-pending when it does (01 R15). -/
def State.addReason (s : State) (z : ZoneId) (r : HoldReason) : State :=
  let x := s.zone z
  let reasons := x.reasons.add r
  if reasons = x.reasons then s else (s.setZone z { x with reasons }).alarm

/-- A cycling member keeps its effective amplitude as its hold amplitude and restarts its ramp-out
count (03 R50). -/
def Channel.beginHold (c : Channel) : Channel :=
  if c.isCycling then { c with aHold := c.aEff, j := 0 } else c

/-- The members of a zone after `f` on each of them. -/
def State.mapMembers (s : State) (z : ZoneId) (f : Channel → Channel) : State :=
  { s with ac := tabMap (fun a (c : Channel) => if (s.zone z).has a then f c else c) s.ac }

/-- A zone in RUN as it enters HOLD with a reason: RAMPING OUT when a member is cycling, otherwise HELD
with its clock stopped (06 R111). -/
def Zone.enterHold (x : Zone) (ramping : Bool) (r : HoldReason) : Zone :=
  { x with
    state := .hold
    sub := if ramping then .rampingOut else .held
    clockRunning := x.clockRunning && ramping
    reasons := HoldReasons.empty.add r }

/-- A cause of HOLD reaches a zone (06 R111): a zone in RUN enters HOLD with the reason; a zone in HOLD
adds the reason; other states take nothing. -/
def State.holdZone (s : State) (z : ZoneId) (r : HoldReason) : State :=
  let x := s.zone z
  match x.state with
  | .run =>
    let ramping := x.memberList.any fun a => (s.chan a).isCycling
    ((s.setZone z (x.enterHold ramping r)).mapMembers z Channel.beginHold).alarm
  | .hold => s.addReason z r
  | .idle | .ready | .unload | .safe => s

/-- Whether no member of the zone remains outside FAULT (06 R115). -/
def State.allFaulted (s : State) (z : ZoneId) : Bool :=
  (s.zone z).memberList.all fun a => (s.chan a).state = .fault

/-- A zone in UNLOAD with no member outside FAULT enters SAFE at that moment (06 R115). -/
def State.safeIfAllFaulted (s : State) (z : ZoneId) : State :=
  if (s.zone z).state = .unload && s.allFaulted z then
    (s.setZone z { s.zone z with state := .safe }).alarm
  else s

/-- A zone as it enters UNLOAD (06 R114): the clock stops, the reasons empty, a pending start ends;
`byAlarm` tells an alarm from the UNLOAD request. -/
def Zone.enterUnload (x : Zone) (byAlarm : Bool) : Zone :=
  { x with
    state := .unload
    clockRunning := false
    reasons := HoldReasons.empty
    pendingStart := none
    lastStart :=
      if x.pendingStart.isSome then (if byAlarm then .cancelled else .none) else x.lastStart
    unloadFirst := true }

/-- A cause of UNLOAD reaches a zone (06 R114): READY, RUN and HOLD enter UNLOAD. -/
def State.unloadZone (s : State) (z : ZoneId) (byAlarm : Bool) : State :=
  match (s.zone z).state with
  | .ready | .run | .hold =>
    (s.setZone z ((s.zone z).enterUnload byAlarm)).alarm.safeIfAllFaulted z
  | .idle | .unload | .safe => s

/-- A raise as it reaches the Zone Supervisor (06 R118). -/
structure Raise where
  source   : AlarmSource
  zone     : ZoneId
  severity : Severity
  cycle    : Option Nat
  deriving DecidableEq, Repr

/-- A raise between strobes: stamped with the zone's cycle count when a member was cycling at its
latest update (06 R117, R118). -/
def State.raiseNow (s : State) (source : AlarmSource) (zone : ZoneId) (severity : Severity) : Raise :=
  { source, zone, severity,
    cycle := if s.cyclingIn zone then some (s.zone zone).cycleCount else none }

/-- The new entry a raise makes. -/
def Raise.entry (r : Raise) (time : Nat) : AlarmEntry :=
  { source := r.source, zone := r.zone, severity := r.severity, raised := time, cycle := r.cycle,
    occurrences := 1, reported := false }

/-- A standing entry that its source raises again (06 R118). -/
def AlarmEntry.again (e : AlarmEntry) (r : Raise) : AlarmEntry :=
  { e with
    occurrences := bump Config.max16 e.occurrences
    reported := false
    zone := r.zone
    severity := r.severity }

/-- The list without its oldest INFO entry, if it holds one (06 R119). -/
def dropOldestInfo : List AlarmEntry → Option (List AlarmEntry)
  | [] => none
  | e :: es => if e.severity = .info then some es else (dropOldestInfo es).map (e :: ·)

/-- How the alarm list takes a raise (06 R118, R119). -/
def ZoneSupervisor.take (q : ZoneSupervisor) (r : Raise) (time : Nat) : ZoneSupervisor × RaiseKind :=
  if q.alarms.any (·.source = r.source) then
    ({ q with alarms := q.alarms.map fun e => if e.source = r.source then e.again r else e }, .occurrence)
  else if q.alarms.length < Config.alarmCapacity then
    ({ q with alarms := q.alarms ++ [r.entry time] }, .newEntry)
  else
    match dropOldestInfo q.alarms with
    | some l => ({ q with alarms := l ++ [r.entry time] }, .newEntry)
    | none => ({ q with overflow := true }, .notStored)

/-- What a raise's severity does to its zone (06 R120). -/
def State.severityAction (s : State) (z : ZoneId) : Severity → State
  | .info => s
  | .minor => s.holdZone z .alarm
  | .major => s.unloadZone z true

/-- The list takes a raise; ALARM-pending is set unless the raise only finds the overflow flag set
already (06 R118, R119). -/
def State.enlist (s : State) (r : Raise) : State :=
  let taken := s.zs.take r s.hall
  let t := { s with zs := taken.1 }
  if taken.2 = .notStored && s.zs.overflow then t else t.alarm

/-- A raise: the list takes it, its severity acts on its zone, and the Capture Unit is handed it
(06 R118 to R121). -/
def State.raise (s : State) (r : Raise) : State :=
  ((s.enlist r).severityAction r.zone r.severity).alarmTrigger s.hall
    { source := r.source, zone := r.zone, severity := r.severity, kind := (s.zs.take r s.hall).2 }

/-- Several raises of one moment, taken one after the other in either order (06 R118, log 8). -/
def State.raiseAll (s : State) (l : List Raise) : State :=
  (s.inOrder l).foldl State.raise s.bumpFree

/-- Whether the list holds an unacknowledged MINOR or MAJOR entry of the zone (06 R108). -/
def State.standing (s : State) (z : ZoneId) : Bool :=
  s.zs.alarms.any fun e => e.zone = z && e.severity != .info

end Sys2Proof.Machine
end

