-- ==== Sys2Proof/Machine/Strain.lean ====
section
/-! DEFINITION. Strain conversion (08), the Strain Queue and the Limit Watch (09): what the completion
of a scan does. -/

namespace Sys2Proof.Machine

/-! ### Profiles and conversion (08 R143, R148 to R152) -/

/-- Whether a template matches a gauge: gauge AND mask equals match value AND mask (08 R143). -/
def Template.accepts (t : Template) (g : GaugeId) : Bool :=
  t.enabled && (BitVec.ofNat 8 g &&& t.mask) = (t.value &&& t.mask)

/-- The lowest-numbered enabled template that matches, the table being valid (08 R143). -/
def StrainConverter.matching (v : StrainConverter) (g : GaugeId) : Option TemplateId :=
  (List.finRange 8).find? fun t => v.templates[t].accepts g

/-- The template chosen for a gauge now, or none for the default profile (08 R143). -/
def StrainConverter.chosen (v : StrainConverter) (g : GaugeId) : Option TemplateId :=
  if v.tableValid then v.matching g else none

/-- The profile of a chosen template, or the default profile. -/
def StrainConverter.profile (v : StrainConverter) : Option TemplateId → Profile
  | some t => v.templates[t].profile
  | none => v.default

/-- A raw value taken to the nearer front-end limit (08 R148). -/
def limitRaw (raw : Int) : Int := clamp (-Config.rawMax) Config.rawMax raw

/-- Whether a raw value is at a front-end limit (08 R148). -/
def atLimit (raw : Int) : Bool := limitRaw raw = Config.rawMax || limitRaw raw = -Config.rawMax

/-- The strain of a bridge difference, before calibration (08 R148). -/
def bridgeStrain (b : BridgeType) (vr : Int) (gf : Nat) : Int :=
  match b with
  | .quarter => roundDiv (400 * vr * 50000000) (gf * (50000000 - vr))
  | .half => roundDiv (200 * vr) gf
  | .full => roundDiv (100 * vr) gf
  | .off => 0

/-- A sample: its value and flags, the gauge's open-gauge counter after it, and whether the gauge is
left out of the record. -/
structure Sample where
  value    : Int
  flags    : SampleFlags
  opens    : Nat
  leftOut  : Bool
  deriving DecidableEq, Repr

/-- A NO DATA sample: value 0, the counter kept; left out while the counter stands at 8 (08 R149 to R152). -/
def Sample.missing (opens : Nat) (byDefault : Bool) : Sample :=
  { value := 0, opens, leftOut := opens = 8
    flags := { overRange := false, opened := false, noData := true, defaulted := byDefault } }

/-- The sample of one gauge (08 R148 to R152), from its profile, zero and counter. -/
def sampleOf (p : Profile) (byDefault : Bool) (zero : Int) (opens : Nat) : Option Int → Sample
  | none => Sample.missing opens byDefault
  | some raw =>
    if p.bridge = .off then Sample.missing opens byDefault
    else
      let e := roundDiv (bridgeStrain p.bridge (limitRaw raw - zero) p.gf * p.cal) 32768
      let value := clamp (-Config.strainMax) Config.strainMax e
      let opens' := if atLimit raw then bump 8 opens else 0
      { value, opens := opens', leftOut := opens = 8 && opens' = 8
        flags := { overRange := atLimit raw || value ≠ e, opened := opens' = 8, noData := false,
                   defaulted := byDefault } }

/-- The sample of gauge `g` with the converter as it stands (08 R147). -/
def StrainConverter.sample (v : StrainConverter) (g : GaugeId) (raw : Option Int) : Sample :=
  let c := v.chosen g
  sampleOf (v.profile c) c.isNone v.zeros[g] v.openCount[g] raw

/-- A gauge's entry of the latest-values table and its counter after a sample (08 R151, R155). -/
def StrainConverter.write (v : StrainConverter) (time : Nat) (x : GaugeId × Sample) : StrainConverter :=
  { v with
    openCount := v.openCount.set x.1 x.2.opens
    latest := v.latest.set x.1 { value := x.2.value, flags := x.2.flags, time }
    written := x.1 :: v.written }

/-- The raw values of a scan's gauges in ascending gauge order: a bank that answered gives its values
in list order, any other gives NO DATA (07 R134, R136). -/
def Scan.results (x : Scan) : List (GaugeId × Option Int) :=
  ((List.finRange 4).map fun (b : BankId) =>
    let gs := x.gauges.filter fun g => g.val / 64 = b.val
    match x.answers[b] with
    | some vs => List.zipWith (fun g v => (g, some v)) gs vs
    | none => gs.map fun g => (g, none)).flatten

/-! ### The Strain Queue (09 R159 to R162) -/

/-- A record formed from a converted scan; its loss mark and number are given as it enters. -/
def Scan.record (x : Scan) (l : List (GaugeId × Sample)) : StrainRecord :=
  { kind := x.kind, number := 0, start := x.start, loss := 0
    phase := x.phase.map fun p => ⟨p.zone, p.cycle, p.forces⟩
    lag := x.lag
    unsent := (l.filter fun y => !y.2.leftOut).map fun y =>
      { gauge := y.1, value := y.2.value, flags := y.2.flags }
    sent := 0, sliced := false }

/-- A record enters the queue whole or is discarded whole (09 R160, R161); a FREE record with no
entries is not queued (09 R159); the first record of an empty queue restarts the timer (09 R162). -/
def StrainQueue.form (q : StrainQueue) (r : StrainRecord) (now : Nat) : StrainQueue :=
  if r.kind = .free && r.unsent.isEmpty then q
  else if q.entriesHeld + r.unsent.length ≤ Config.strainEntries &&
      q.records.length < Config.strainRecords then
    { records := q.records ++ [{ r with number := q.counter, loss := q.pendingLoss }]
      pendingLoss := 0
      counter := (q.counter + 1) % 65536
      timer := if q.records.isEmpty then .running now else q.timer }
  else { q with pendingLoss := bump Config.max8 q.pendingLoss }

/-! ### The Limit Watch (09 R169 to R171) -/

/-- Whether a sample raises a rule's counter: none to keep it, otherwise yes or back to 0 (09 R169, R170). -/
def LimitRule.counts (r : LimitRule) (x : Sample) : Option Bool :=
  if x.flags.noData || x.flags.opened then (if r.trip then some true else none)
  else some (r.mask.holds x.value r.threshold)

/-- A rule evaluated on its gauge's sample (09 R169 to R171). -/
def LimitRule.evaluate (r : LimitRule) (x : Sample) : LimitRule :=
  match r.counts x with
  | none => r
  | some false => { r with counter := 0 }
  | some true =>
    if r.persistence ≤ r.counter + 1 then { r with counter := 0, latched := true }
    else { r with counter := r.counter + 1 }

/-- A rule at the completion of a scan: evaluated when it is enabled, not latched, and its gauge is in
the scan (09 R169). -/
def LimitRule.atScan (r : LimitRule) (l : List (GaugeId × Sample)) : LimitRule :=
  if r.enabled && !r.latched then
    match l.find? fun y => y.1 = r.gauge with
    | some y => r.evaluate y.2
    | none => r
  else r

/-- The Limit Watch at a completion: its rules after it. -/
def LimitWatch.atScan (w : LimitWatch) (l : List (GaugeId × Sample)) : LimitWatch :=
  { rules := tabMap (fun _ (r : LimitRule) => r.atScan l) w.rules }

/-- The rules that latched between two states of the Limit Watch (09 R171). -/
def newlyLatched (before after : LimitWatch) : List RuleId :=
  (List.finRange 32).filter fun n => after.rules[n].latched && !before.rules[n].latched

/-! ### Completions -/

/-- A FREE, PEAK or VALLEY completion: every gauge converted and written, the record formed, the
rules evaluated, the LIMIT alarms of the rules that latched raised (08 R147; 09 R159, R169, R171). The
model's choice (log 39): of a scan that completes inside a strobe's work the raise is stamped after that
strobe's updates and wrap work (06 R118). -/
def State.convertScan (s : State) (x : Scan) : State :=
  let l := x.results.map fun y => (y.1, s.scv.sample y.1 y.2)
  let lw := s.lw.atScan l
  let t := { s with
    scv := l.foldl (fun v y => v.write x.start y) s.scv
    sq := s.sq.form (x.record l) s.osc
    lw }
  let latched := newlyLatched s.lw lw
  if latched.isEmpty then t
  else t.raiseAll (latched.map fun n =>
    let r := lw.rules[n]
    t.raiseNow (.limit n) r.zone r.action.severity)

/-- One gauge of a zero scan: its zero becomes its raw value; with NO DATA it is kept (08 R154). -/
def StrainConverter.zeroOne (v : StrainConverter) (y : GaugeId × Option Int) : StrainConverter :=
  match y.2 with
  | some raw => { v with zeros := v.zeros.set y.1 (limitRaw raw) }
  | none => v

/-- A ZERO completion: the zero table is written, the operation ends, its deferred reply carries the
numbers zeroed, left unchanged, and zeroed at a limit (08 R154). -/
def State.zeroScan (s : State) (x : Scan) : State :=
  let l := x.results
  let zeroed := l.filterMap (·.2)
  let results := encN 2 zeroed.length ++ encN 2 (l.length - zeroed.length) ++
    encN 2 (zeroed.filter atLimit).length
  let t := { s with scv := { l.foldl StrainConverter.zeroOne s.scv with zeroOp := none } }
  match s.scv.zeroOp with
  | some op => t.deferredReply op.tag 0x45 results
  | none => t

end Sys2Proof.Machine
end

