-- ==== Sys2Proof/Machine/Channel.lean ====
section
/-! DEFINITION. One actuator channel: its program (03), its update (04), its feedback and faults (05);
and the meaning of a feedback arrival. -/

namespace Sys2Proof.Machine
open Host

/-! ### What an update reads of its zone (03 R40, 04 R60) -/

/-- What a member's update reads of its zone at a strobe; `index` is n while the clock runs, `started`
tells the strobe at which the zone enters RUN from READY. -/
structure ZoneView where
  zone        : ZoneId
  state       : ZoneState
  started     : Bool
  index       : Option Nat
  inc         : Nat
  nin         : Nat
  nout        : Nat
  unloadRate  : Nat
  unloadFirst : Bool
  deriving DecidableEq, Repr

/-- The strobe is a wrap of the zone. -/
def ZoneView.wrap (v : ZoneView) : Bool :=
  match v.index with
  | some n => isWrap v.inc n
  | none => false

/-- The strobe is the first in RUN after a RESUME: the restarted clock has n = 0 (06 R113). -/
def ZoneView.resumed (v : ZoneView) : Bool := v.state = .run && v.index = some 0 && !v.started

/-- The zone's phase index, while its clock runs. -/
def ZoneView.phase (v : ZoneView) : Option Nat := v.index.map (phaseIndex v.inc)

/-! ### Shared operations on a channel -/

/-- The pipeline as ENABLE ACTUATOR and CLEAR FAULT set it, and the channel in STANDBY (04 R56,
05 R87, R89). -/
def Channel.toStandby (c : Channel) : Channel :=
  { c with
    state := .standby
    prev := c.measured.force
    integrator := 0
    gain := 16384
    track := none
    aligned := false
    unloadRem := 0
    staleRun := 0
    trackRun := 0
    causes := FaultCauses.empty }

/-- The current segment is dropped, if there is one (03 R52). The model's choice (log 33): k, j and
`aHold` keep the values of the stretch or ramp-out that ends. -/
def Channel.drop (c : Channel) : Channel :=
  if c.current.isSome then
    { c with current := none, dropped := bump Config.max32 c.dropped, afterCycle := false }
  else c

/-- Entry into FAULT with its causes (05 R86): the record, the count, valve output 0, the drop. -/
def Channel.fail (c : Channel) (causes : FaultCauses) (hall : Nat) (zone : Option ZoneId) : Channel :=
  { c with
    state := .fault
    causes
    lastFault := some { causes, hall, zone, prev := c.prev, force := c.measured.force }
    faultCount := bump Config.max32 c.faultCount
    valve := 0 }.drop

/-- The safe load brought into the limits in force (04 R63). -/
def Channel.target (c : Channel) : Int := clamp c.cfg.fMin c.cfg.fMax c.cfg.safeLoad

/-! ### Stage 1: wrap work (04 R73, R74) -/

/-- Peak compensation at a qualifying wrap. -/
def Channel.compensate (c : Channel) : Channel :=
  match c.track with
  | none => c
  | some (hi, lo) =>
    let rt : Int := 2 * c.aEff
    if !(c.wasCycling && c.aligned) || rt = 0 || c.cfg.adapt = 0 then c
    else
      let g := c.gain + roundDiv (c.cfg.adapt * (rt - (hi - lo)) * 16384) (rt * 256)
      let gain := clamp 8192 32768 g
      { c with gain, gainFlag := c.gainFlag || gain ≠ g }

/-- Before stage 2: at a wrap, compensation and then an empty peak tracking record; at the first update in
RUN after a RESUME an empty record and its cycle-aligned mark. -/
def Channel.wrapWork (c : Channel) (v : ZoneView) : Channel :=
  if v.wrap then { c.compensate with track := none }
  else if v.resumed then { c with track := none, aligned := c.isCycling }
  else c

/-! ### Stage 2: the profile value (03 R42 to R51, 04 R61 to R66) -/

/-- What stage 2 gives: the channel with its program moved on, the profile value, and whether a
segment with end action HOLD ZONE completed. -/
structure Profile2 where
  chan     : Channel
  p0       : Int
  holdZone : Bool

/-- A segment completes (03 R47). The model's choice (log 33): k, j and `aHold` keep the values of the
stretch or ramp-out that ends. -/
def Channel.complete (c : Channel) (tag : Option Nat) : Channel :=
  { c with current := none, completed := bump Config.max32 c.completed, lastTag := tag }

/-- The cycle profile before its saturation (04 R66), at the zone's phase index. -/
def Channel.cycleProfile (c : Channel) (g : CycleSegment) (phase : Nat) : Int :=
  g.mean + roundDiv (roundDiv (c.aEff * c.gain) 16384 * sine (phase + g.offset)) 32767

/-- The cycle profile at this update; with no clock every cycling member has ramped out and gives its
mean (04 R61). -/
def Channel.drive (c : Channel) (v : ZoneView) (g : CycleSegment) : Int :=
  match v.phase with
  | some phase => c.cycleProfile g phase
  | none => g.mean

/-- A CYCLE begins cycling as the cycle numbered `k` of its stretch (03 R45, R49; 04 R64). -/
def Channel.beginCycle (c : Channel) (v : ZoneView) (g : CycleSegment) (k : Nat) : Profile2 :=
  let c := { c with current := some (.cycle g (.cycling 0)), k, aEff := stretchAmp g.amplitude k v.nin }
  { chan := c, p0 := c.drive v g, holdZone := false }

/-- A RAMP's update in RUN (03 R43). -/
def Channel.advanceRamp (c : Channel) (g : RampSegment) (remainder : Nat) : Profile2 :=
  let step := rampStep g.rate remainder
  let p0 := moveToward c.programValue g.target step.1
  if p0 = g.target then
    { chan := c.complete g.tag, p0, holdZone := g.final = .holdZone }
  else { chan := { c with current := some (.ramp g step.2) }, p0, holdZone := false }

/-- A DWELL's update in RUN (03 R44). -/
def Channel.advanceDwell (c : Channel) (g : DwellSegment) (left : Nat) : Profile2 :=
  if left ≤ 1 then
    { chan := c.complete g.tag, p0 := c.programValue, holdZone := g.final = .holdZone }
  else { chan := { c with current := some (.dwell g (left - 1)) }, p0 := c.programValue, holdZone := false }

/-- A CYCLE's update in RUN (03 R45, R46). -/
def Channel.advanceCycle (c : Channel) (v : ZoneView) (g : CycleSegment) : CycleProgress → Profile2
  | .waiting =>
    if v.wrap then c.beginCycle v g 0
    else { chan := { c with current := some (.cycle g .waiting) }, p0 := c.programValue, holdZone := false }
  | .cycling n =>
    if v.wrap then
      let n := bump Config.max32 n
      let k := bump Config.max8 c.k
      if g.count ≠ 0 && g.count ≤ n then
        { chan := { c.complete g.tag with k, afterCycle := g.final = .next }, p0 := g.mean
          holdZone := g.final = .holdZone }
      else
        let c := { c with
          current := some (.cycle g (.cycling n)), k, aEff := stretchAmp g.amplitude k v.nin }
        { chan := c, p0 := c.drive v g, holdZone := false }
    else { chan := c, p0 := c.drive v g, holdZone := false }

/-- The current segment's update in RUN. -/
def Channel.advance (c : Channel) (v : ZoneView) : Current → Profile2
  | .ramp g r => c.advanceRamp g r
  | .dwell g left => c.advanceDwell g left
  | .cycle g p => c.advanceCycle v g p

/-- The head of the queue becomes current and gives the profile value of the same update (03 R42); a CYCLE
directly after a completed CYCLE begins cycling at once, in its predecessor's stretch (03 R45, R49), any
other waits at that update, a wrap or not, and begins at a later wrap (03 R42, R48; log 17). -/
def Channel.take (c : Channel) (v : ZoneView) (afterCycle : Bool) : Segment → Profile2
  | .ramp g => c.advanceRamp g 0
  | .dwell g => c.advanceDwell g (2 * g.duration)
  | .cycle g =>
    if afterCycle then c.beginCycle v g c.k
    else { chan := { c with current := some (.cycle g .waiting) }, p0 := c.programValue, holdZone := false }

/-- Underrun: the count and the flag once for each entry (03 R48). -/
def Channel.underrun (c : Channel) : Channel :=
  if c.inUnderrun then c
  else
    { c with inUnderrun := true, underruns := bump Config.max32 c.underruns, underrunFlag := true }

/-- The program's step at an update in RUN (03 R42). -/
def Channel.consume (c : Channel) (v : ZoneView) : Profile2 :=
  let after := c.afterCycle
  let c := { c with afterCycle := false }
  match c.current with
  | some seg => c.advance v seg
  | none =>
    match c.queued with
    | seg :: rest => { c with queued := rest, inUnderrun := false }.take v after seg
    | [] => { chan := c.underrun, p0 := c.programValue, holdZone := false }

/-- The first update in RUN: after READY the program value is the previous command (03 R41); after a
RESUME a cycling member begins a new stretch (03 R49, R51). A CYCLE that becomes current at the update after
a completed CYCLE does not wait even if a HOLD and a RESUME came between the two strobes (03 R45, log 18). -/
def Channel.enterRun (c : Channel) (v : ZoneView) : Channel :=
  if v.started then { c with programValue := c.prev, inUnderrun := false, afterCycle := false }
  else if v.resumed then
    let c := { c with inUnderrun := false }
    match c.current with
    | some (.cycle g (.cycling _)) =>
      { c with k := 0, j := 0, aHold := 0, aEff := stretchAmp g.amplitude 0 v.nin }
    | _ => c
  else c

/-- The profile value at an update in HOLD (03 R50, 04 R61, R65). -/
def Channel.holdProfile (c : Channel) (v : ZoneView) : Profile2 :=
  let c := { c with inUnderrun := false, afterCycle := false }
  match c.current with
  | some (.cycle g (.cycling _)) =>
    let j := if v.wrap then c.j + 1 else c.j
    let c := { c with j, aEff := rampOutAmp c.aHold j v.nout }
    { chan := c, p0 := if rampedOut j v.nout then g.mean else c.drive v g, holdZone := false }
  | _ => { chan := c, p0 := c.programValue, holdZone := false }

/-- The unload profile (04 R63); the current segment is dropped (03 R52). -/
def Channel.unloadProfile (c : Channel) (v : ZoneView) : Profile2 :=
  let c := { c.drop with inUnderrun := false, afterCycle := false }
  let step := rampStep v.unloadRate (if v.unloadFirst then 0 else c.unloadRem)
  { chan := { c with unloadRem := step.2 }, p0 := moveToward c.prev c.target step.1, holdZone := false }

/-- Stage 2 by the command source (04 R61). -/
def Channel.profile (c : Channel) : Option ZoneView → Profile2
  | none => { chan := c, p0 := c.prev, holdZone := false }
  | some v =>
    match v.state with
    | .idle | .ready => { chan := c, p0 := c.prev, holdZone := false }
    | .run => (c.enterRun v).consume v
    | .hold => c.holdProfile v
    | .unload => c.unloadProfile v
    | .safe => { chan := c, p0 := c.target, holdZone := false }

/-- The cycle-aligned mark of a wrap, which asks whether the channel is cycling at this update (04 R73). -/
def Channel.alignMark (c : Channel) (v : ZoneView) : Channel :=
  if v.wrap then { c with aligned := c.wasCycling || c.isCycling } else c

/-! ### Stages 3 and 4: the clamps (04 R67, R68) -/

/-- The profile value within the force range; a cycle profile alone can lie outside it (04 R66). -/
def saturateForce (x : Int) : Int := clamp (-Config.forceMax) Config.forceMax x

/-- P0 saturated, the rate clamp and the limit clamp, with their flags and counts. -/
def Channel.clamps (c : Channel) (p : Int) : Channel × Int :=
  let p0 := saturateForce p
  let p1 := clamp (c.prev - c.cfg.rateStep) (c.prev + c.cfg.rateStep) p0
  let cmd := clamp c.cfg.fMin c.cfg.fMax p1
  let rated : Bool := p1 ≠ p0
  let limited : Bool := p0 ≠ p || cmd ≠ p1
  ({ c with
      p0, p1
      rateFlag := c.rateFlag || rated
      rateClamps := if rated then bump Config.max32 c.rateClamps else c.rateClamps
      limitFlag := c.limitFlag || limited
      limitClamps := if limited then bump Config.max32 c.limitClamps else c.limitClamps }, cmd)

/-! ### Stage 5: the servo (04 R69 to R71) -/

/-- F_meas of the update. -/
def Channel.fMeas (c : Channel) : Int := if c.dryRun then c.prev else c.measured.force

/-- The error of the update, saturated. -/
def Channel.errorOf (c : Channel) (cmd : Int) : Int :=
  clamp (-Config.rawMax) Config.rawMax (cmd - c.fMeas)

/-- The terms, the servo output and the integrator by conditional integration. -/
def Channel.servo (c : Channel) (e : Int) : Channel :=
  let bound : Int := c.cfg.iLimit * 4096
  let pTerm := roundDiv (c.cfg.kp * e) 4096
  let cand := clamp (-bound) bound (c.integrator + c.cfg.ki * e)
  let iTerm := roundDiv cand 4096
  let sum := pTerm + iTerm
  let v := clamp (-Config.valveMax) Config.valveMax sum
  let kept : Bool := (v < sum && 0 < e) || (sum < v && e < 0)
  { c with
    err := e, pTerm, iTerm, v
    driveFlag := c.driveFlag || v ≠ sum
    integrator := if kept then clamp (-bound) bound c.integrator else cand }

/-! ### The checks of the feedback (05 R82 to R84) -/

/-- R82: the fresh mark is taken; without it the update is stale. In dry run the run stays 0. -/
def Channel.judgeFresh (c : Channel) : Channel :=
  if c.dryRun then { c with fresh := false, staleRun := 0 }
  else if c.fresh then { c with fresh := false, staleRun := 0 }
  else { c with staleRun := bump 4 c.staleRun, staleCount := bump Config.max32 c.staleCount }

/-- R83: the tracking run. -/
def Channel.judgeTracking (c : Channel) (e : Int) : Channel :=
  if c.dryRun || c.cfg.tolerance = 0 || e.natAbs ≤ c.cfg.tolerance then { c with trackRun := 0 }
  else { c with trackRun := bump 2001 c.trackRun }

/-- The causes found at the update, after R82 and R83 have been judged. -/
def Channel.findCauses (c : Channel) : FaultCauses :=
  if c.dryRun then FaultCauses.empty
  else
    { tracking := c.cfg.trackCount < c.trackRun
      stroke := c.measured.stroke < c.cfg.strokeMin || c.cfg.strokeMax < c.measured.stroke
      feedback := 4 ≤ c.staleRun
      hydraulic := false }

/-! ### Stages 6 and 7, and the whole update -/

/-- The measured force joins the peak tracking record (04 R73). -/
def Channel.trackForce (c : Channel) (f : Int) : Channel :=
  { c with track := match c.track with
    | some (hi, lo) => some (max hi f, min lo f)
    | none => some (f, f) }

/-- The close: the command becomes the previous command; in dry run it is looped back (05 R91) and
the valve output is 0 (04 R72). -/
def Channel.close (c : Channel) (cmd : Int) : Channel :=
  { c with
    prev := cmd
    valve := if c.dryRun then 0 else c.v
    measured := if c.dryRun then { c.measured with force := cmd } else c.measured }

/-- The program value after an update: P0 in RUN and HOLD (03 R41). -/
def Channel.keepProgramValue (c : Channel) : Option ZoneView → Channel
  | some v => if v.state = .run || v.state = .hold then { c with programValue := c.p0 } else c
  | none => c

/-- What an update hands to the Zone Supervisor (05 R97). -/
structure Outcomes where
  fault     : Bool
  holdZone  : Bool
  atSafe    : Bool
  rampedOut : Bool
  deriving DecidableEq, Repr

/-- No update, nothing handed over. -/
def Outcomes.none : Outcomes := ⟨false, false, false, false⟩

/-- STANDBY becomes ACTIVE at the update that reads its zone in RUN, HOLD, UNLOAD or SAFE (05 R79). -/
def Channel.activate (c : Channel) : Option ZoneView → Channel
  | some v =>
    match v.state with
    | .run | .hold | .unload | .safe => { c with state := .active }
    | .idle | .ready => c
  | none => c

/-- Stages 1 and 2. -/
def Channel.program (c : Channel) (view : Option ZoneView) : Profile2 :=
  match view with
  | none => c.profile none
  | some v =>
    let r := (c.wrapWork v).profile (some v)
    { r with chan := r.chan.alignMark v }

/-- One update of a channel in STANDBY or ACTIVE at the strobe of hall time `hall` (04 R57). An update that
finds a fault cause sets the program value too (03 R41), though it does not reach the close: log 41. -/
def Channel.updateOn (c : Channel) (view : Option ZoneView) (hall : Nat) : Channel × Outcomes :=
  let r := (c.activate view).program view
  let clamped := r.chan.clamps r.p0
  let cmd := clamped.2
  let e := clamped.1.errorOf cmd
  let judged := ((clamped.1.judgeFresh).judgeTracking e).keepProgramValue view
  let causes := judged.findCauses
  let unloading : Bool := match view with
    | some v => v.state = .unload
    | none => false
  if causes.any then
    let d := { judged with prev := cmd, err := e }.fail causes hall (view.map ZoneView.zone)
    ({ d with wasCycling := false },
      { fault := true, holdZone := r.holdZone, atSafe := false, rampedOut := false })
  else
    let f := judged.fMeas
    let d := ((judged.servo e).trackForce f).close cmd
    ({ d with wasCycling := d.isCycling },
      { fault := false, holdZone := r.holdZone
        atSafe := unloading && cmd = d.target
        rampedOut := match view with
          | some v => v.wrap && v.state = .hold && d.isCycling && rampedOut d.j v.nout
          | none => false })

/-- The channel's work at a strobe: an update in STANDBY and ACTIVE, none in OFF and FAULT (04 R56). -/
def Channel.update (c : Channel) (view : Option ZoneView) (hall : Nat) : Channel × Outcomes :=
  match c.state with
  | .standby | .active => c.updateOn view hall
  | .off | .fault => (c, Outcomes.none)

/-! ### Feedback arrivals (05 R81, R85, R86) -/

/-- The record of an arrival, saturated. -/
def Feedback.ofArrival (force stroke : Int) (status : DriveStatus) : Feedback :=
  { force := saturateForce force
    stroke := clamp (-Config.strokeMax) Config.strokeMax stroke
    status }

/-- What an arrival does in every channel state (05 R81). -/
def Channel.arrive (c : Channel) (f : Feedback) : Channel :=
  { c with
    port := f
    seen := true
    arrivals := bump Config.max32 c.arrivals
    fresh := true
    measured := if c.dryRun then c.measured else f }

/-- Whether an arrival with this drive status puts the channel into FAULT (05 R85). -/
def Channel.losesPressure (c : Channel) (status : DriveStatus) : Bool :=
  status = .pressureLow && !c.dryRun && (c.state = .standby || c.state = .active)

/-- A member's fault, told to the Zone Supervisor: ACTUATOR n, MAJOR, against its zone (05 R86); the
zone in UNLOAD may thereby have no member left outside FAULT (06 R115). -/
def State.memberFault (s : State) (a : ActId) : State :=
  match s.zoneOf a with
  | none => s
  | some z => (s.raise (s.raiseNow (.actuator a) z .major)).safeIfAllFaulted z

/-- FEEDBACK_ARRIVAL: the record is stored; PRESSURE LOW in STANDBY or ACTIVE without dry run puts the
channel into FAULT with HYDRAULIC (05 R81, R85). -/
def execFeedbackArrival (a : ActId) (force stroke : Int) (status : DriveStatus) (s : State) :
    Outcome State Fault Refusal :=
  let c := (s.chan a).arrive (Feedback.ofArrival force stroke status)
  if c.losesPressure status then
    let failed := c.fail { FaultCauses.empty with hydraulic := true } s.hall (s.zoneOf a)
    .next (arbitrate ((s.setChan a failed).memberFault a))
  else .next (s.setChan a c)

end Sys2Proof.Machine
end

