-- ==== Sys2Proof/Machine/ActuatorRequests.lean ====
section
/-! DEFINITION. The actuator channels' requests (03 R38, R39; 05 R87 to R95). -/

namespace Sys2Proof.Machine
open Host

/-- A request whose payload is one byte, a channel number (05): its length, its range, then `f`. -/
def onChannel (r : Request) (f : ActId → Answer) : Answer :=
  if r.payload.length ≠ 1 then .no .malformed
  else
    match index? 8 (field r.payload 0 1) with
    | some a => f a
    | none => .no .range

/-- The channels of an actuator mask after `f` on each of them (01 R11). -/
def State.onMask (s : State) (m : Byte) (f : Channel → Channel) : State :=
  { s with ac := tabMap (fun a (c : Channel) => if m.getLsbD a then f c else c) s.ac }

/-- Whether a channel is a member of a zone in a state that satisfies `p`. -/
def State.inZone (s : State) (a : ActId) (p : ZoneState → Bool) : Bool :=
  match s.zoneOf a with
  | some z => p (s.zone z).state
  | none => false

/-! ### CONFIGURE ACTUATOR (05 R92 to R94) -/

/-- The configuration a payload carries behind its mask, the safe load as R93 stores it. -/
def readConfig (p : List Byte) : ChannelConfig :=
  { fMin := fieldI p 1 4, fMax := fieldI p 5 4, rateStep := field p 9 4, kp := field p 13 2
    ki := field p 15 2, iLimit := field p 17 2, tolerance := field p 19 4, trackCount := field p 23 2
    strokeMin := fieldI p 25 4, strokeMax := fieldI p 29 4
    safeLoad := clamp (fieldI p 1 4) (fieldI p 5 4) (fieldI p 33 4), adapt := field p 37 1 }

def inStroke (x : Int) : Bool := -Config.strokeMax ≤ x && x ≤ Config.strokeMax

/-- The range tests of 05 R92; `safe` is the safe load as sent. -/
def ChannelConfig.inRange (c : ChannelConfig) (safe : Int) : Bool :=
  inForce c.fMin && inForce c.fMax && c.fMin ≤ c.fMax && 1 ≤ c.rateStep && c.rateStep ≤ 100000 &&
  c.iLimit ≤ 32767 && c.tolerance ≤ 3000000 && 1 ≤ c.trackCount && c.trackCount ≤ 2000 &&
  inStroke c.strokeMin && inStroke c.strokeMax && c.strokeMin ≤ c.strokeMax && inForce safe

/-- Whether a new configuration would widen a window or move the stored safe load (05 R94). -/
def ChannelConfig.widens (old new : ChannelConfig) : Bool :=
  new.fMin < old.fMin || old.fMax < new.fMax || new.strokeMin < old.strokeMin ||
  old.strokeMax < new.strokeMax || new.safeLoad ≠ old.safeLoad

/-- The answer to CONFIGURE ACTUATOR. -/
def answerConfigureActuator (r : Request) (s : State) : Answer :=
  let p := r.payload
  let m := byteAt p 0
  let cfg := readConfig p
  let safe := fieldI p 33 4
  if p.length ≠ 38 then .no .malformed
  else if m = 0 || !cfg.inRange safe then .no .range
  else if (maskActs m).any fun a => s.inZone a ZoneState.busy && (s.chan a).cfg.widens cfg then .no .protect
  else
    .accepted (s.onMask m fun c => { c with cfg })
      (encList ((maskActs m).map fun _ => encI 4 cfg.safeLoad ++ encFlag (cfg.safeLoad ≠ safe)))

/-- CONFIGURE ACTUATOR (05 R92 to R94). -/
def execConfigureActuator (s : State) : Outcome State Fault Refusal := takes 0x20 answerConfigureActuator s

/-! ### Requests that move a channel (05 R87 to R90) -/

/-- The answer to ENABLE ACTUATOR. -/
def answerEnableActuator (r : Request) (s : State) : Answer :=
  onChannel r fun a =>
    let c := s.chan a
    if c.state ≠ .off || !c.seen then .no .state
    else .accepted (s.setChan a c.toStandby) (encI 4 c.toStandby.prev)

/-- ENABLE ACTUATOR (05 R87). -/
def execEnableActuator (s : State) : Outcome State Fault Refusal := takes 0x21 answerEnableActuator s

/-- A channel after DISABLE ACTUATOR (05 R88, 03 R53). -/
def Channel.disable (c : Channel) : Channel :=
  { c with state := .off, valve := 0, current := none, queued := [], causes := FaultCauses.empty }

/-- The answer to DISABLE ACTUATOR. -/
def answerDisableActuator (r : Request) (s : State) : Answer :=
  onChannel r fun a =>
    let c := s.chan a
    if s.inZone a (· ≠ .idle) then .no .state
    else .accepted (s.setChan a c.disable) (encN 1 c.state.code ++ encN 1 c.queueLen)

/-- DISABLE ACTUATOR (05 R88). -/
def execDisableActuator (s : State) : Outcome State Fault Refusal := takes 0x22 answerDisableActuator s

/-- A channel after SET DRY RUN (05 R90): on, the measured record is frozen; from on to off it takes the
port record. -/
def Channel.setDryRun (c : Channel) (on : Bool) : Channel :=
  { c with dryRun := on, measured := if c.dryRun && !on then c.port else c.measured }

/-- The answer to SET DRY RUN. -/
def answerSetDryRun (r : Request) (s : State) : Answer :=
  let p := r.payload
  if p.length ≠ 2 then .no .malformed
  else
    match index? 8 (field p 0 1), flag? (field p 1 1) with
    | some a, some on =>
      if (s.chan a).state ≠ .off then .no .state
      else .accepted (s.setChan a ((s.chan a).setDryRun on)) (encFlag (s.chan a).dryRun)
    | _, _ => .no .range

/-- SET DRY RUN (05 R90). -/
def execSetDryRun (s : State) : Outcome State Fault Refusal := takes 0x23 answerSetDryRun s

/-- The answer to CLEAR FAULT. -/
def answerClearFault (r : Request) (s : State) : Answer :=
  onChannel r fun a =>
    if (s.chan a).state ≠ .fault || s.inZone a ZoneState.busy then .no .state
    else .accepted (s.setChan a (s.chan a).toStandby) []

/-- CLEAR FAULT (05 R89). -/
def execClearFault (s : State) : Outcome State Fault Refusal := takes 0x26 answerClearFault s

/-! ### The program queue (03 R38, R39) -/

/-- The answer to LOAD SEGMENTS. -/
def answerLoadSegments (r : Request) (s : State) : Answer :=
  let p := r.payload
  let m := byteAt p 0
  let n := field p 1 1
  if p.length < 2 then .no .malformed
  else
    match cutSegments n (p.drop 2) with
    | none => .no .malformed
    | some cuts =>
      match readAll readSegment cuts with
      | none => .no .range
      | some segs =>
        if m = 0 || n < 1 || 8 < n then .no .range
        else if (maskActs m).any fun a => Config.programQueue - n < (s.chan a).queueLen then .no .full
        else
          .accepted (s.onMask m fun c => { c with queued := c.queued ++ segs })
            (encList ((maskActs m).map fun a => encN 1 ((s.chan a).queueLen + n)))

/-- LOAD SEGMENTS (03 R38). -/
def execLoadSegments (s : State) : Outcome State Fault Refusal := takes 0x24 answerLoadSegments s

/-- A channel after FLUSH PROGRAM (03 R39). The model's choice (log 33): with abort current, k, j and
`aHold` keep the values of the stretch that ends. -/
def Channel.flush (c : Channel) (abort : Bool) : Channel :=
  if abort then { c with queued := [], current := none, afterCycle := false } else { c with queued := [] }

/-- The answer to FLUSH PROGRAM. -/
def answerFlushProgram (r : Request) (s : State) : Answer :=
  let p := r.payload
  let m := byteAt p 0
  if p.length ≠ 2 then .no .malformed
  else
    match flag? (field p 1 1) with
    | none => .no .range
    | some abort =>
      if m = 0 then .no .range
      else if abort && (maskActs m).any fun a => s.inZone a (fun x => x = .run || x = .hold) then .no .state
      else
        .accepted (s.onMask m fun c => c.flush abort)
          (encList ((maskActs m).map fun a =>
            let c := s.chan a
            encN 1 (if abort then c.queueLen else c.queued.length) ++ encFlag (abort && c.current.isSome)))

/-- FLUSH PROGRAM (03 R39). -/
def execFlushProgram (s : State) : Outcome State Fault Refusal := takes 0x25 answerFlushProgram s

/-! ### READ ACTUATOR (05 R95, 03 R54, 04 R77) -/

def Feedback.enc (f : Feedback) : Wire := encI 4 f.force ++ encI 4 f.stroke ++ encN 1 (driveCode f.status)

def ChannelConfig.enc (c : ChannelConfig) : Wire :=
  encI 4 c.fMin ++ encI 4 c.fMax ++ encN 4 c.rateStep ++ encN 2 c.kp ++ encN 2 c.ki ++ encN 2 c.iLimit ++
  encN 4 c.tolerance ++ encN 2 c.trackCount ++ encI 4 c.strokeMin ++ encI 4 c.strokeMax ++
  encI 4 c.safeLoad ++ encN 1 c.adapt

def LastFault.enc (f : LastFault) : Wire :=
  encN 1 f.causes.code ++ encN 8 f.hall ++ encZone? f.zone ++ encI 4 f.prev ++ encI 4 f.force

/-- The channel items (05 R95). -/
def Channel.encItems (c : Channel) (zone : Option ZoneId) : Wire :=
  encN 1 c.state.code ++ encFlag c.dryRun ++ encZone? zone ++ c.cfg.enc ++ c.measured.enc ++ c.port.enc ++
  encFlag c.seen ++ encFlag c.fresh ++ encN 4 c.arrivals ++ encN 4 c.staleCount ++ encN 1 c.staleRun ++
  encN 2 c.trackRun ++ encN 1 c.causes.code ++ encOpt 18 (c.lastFault.map LastFault.enc) ++
  encN 4 c.faultCount

def encTag (t : Option Nat) : Wire := encOpt 2 (t.map (encN 2))

/-- The kind of a current segment. -/
def Current.kind : Current → Nat
  | .ramp _ _ => 1 | .dwell _ _ => 2 | .cycle _ _ => 3

/-- The progress of the current segment (03 R54); `held` tells that the zone is in HOLD. The model's choice
(log 34): a CYCLE sends a state byte (0 WAITING, 1 CYCLING) before its count, a WAITING one the count 0; j and
`aHold` are sent only in HOLD, without a presence byte. -/
def Channel.encProgress (c : Channel) (held : Bool) : Wire :=
  match c.current with
  | none => []
  | some (.ramp _ _) => encI 4 c.programValue
  | some (.dwell _ left) => encN 4 left
  | some (.cycle _ p) =>
    (match p with
      | .waiting => encN 1 0 ++ encN 4 0
      | .cycling n => encN 1 1 ++ encN 4 n) ++
    encN 1 c.k ++ (if held then encN 1 c.j ++ encN 4 c.aHold else [])

/-- The program items (03 R54). -/
def Channel.encProgram (c : Channel) (held : Bool) : Wire :=
  encN 1 c.queueLen ++ encOpt 4 (c.current.map fun x => encN 1 x.kind ++ encTag c.currentTag) ++
  c.encProgress held ++ encI 4 c.programValue ++ encN 4 c.completed ++ encTag c.lastTag ++
  encN 4 c.underruns ++ encN 4 c.dropped ++ encFlag c.underrunFlag

/-- The pipeline items (04 R77). -/
def Channel.encPipeline (c : Channel) : Wire :=
  encI 4 c.prev ++ encI 4 c.p0 ++ encI 4 c.p1 ++ encI 4 c.err ++ encI 4 c.pTerm ++ encI 2 c.iTerm ++
  encI 2 c.v ++ encI 4 c.integrator ++ encI 2 c.valve ++ encI 2 c.gain ++
  encOpt 8 (c.track.map fun t => encI 4 t.1 ++ encI 4 t.2) ++ encFlag c.aligned ++ encN 2 c.unloadRem ++
  encFlag c.rateFlag ++ encFlag c.limitFlag ++ encFlag c.driveFlag ++ encFlag c.gainFlag ++
  encN 4 c.rateClamps ++ encN 4 c.limitClamps

/-- The five sticky flags cleared by a read (05 R95). -/
def Channel.clearFlags (c : Channel) : Channel :=
  { c with rateFlag := false, limitFlag := false, driveFlag := false, gainFlag := false
           underrunFlag := false }

/-- The answer to READ ACTUATOR. -/
def answerReadActuator (r : Request) (s : State) : Answer :=
  onChannel r fun a =>
    let c := s.chan a
    .accepted (s.setChan a c.clearFlags)
      (c.encItems (s.zoneOf a) ++ c.encProgram (s.inZone a (· = .hold)) ++ c.encPipeline)

/-- READ ACTUATOR (05 R95). -/
def execReadActuator (s : State) : Outcome State Fault Refusal := takes 0x27 answerReadActuator s

end Sys2Proof.Machine
end

