-- ==== Sys2Proof/Machine/CaptureRequests.lean ====
section
/-! DEFINITION. The Capture Unit's requests (11 R189, R195, R199 to R201). -/

namespace Sys2Proof.Machine
open Host

/-! ### CONFIGURE CAPTURE (11 R189) -/

/-- A configuration read from a payload whose signal list has `n` items; none when a field is out of
range. The zone mask has a bit for each of the four zones (log 16). -/
def readCapture (p : List Byte) (n : Nat) : Option CaptureConfig :=
  let off := 1 + 2 * n
  let pre := field p off 2
  let mask := field p (off + 3) 1
  match readAll (fun i => Signal.ofCode (field p (1 + 2 * i) 1) (field p (2 + 2 * i) 1)) (List.range n),
    TriggerSeverity.ofCode (field p (off + 2) 1), flag? (field p (off + 4) 1) with
  | some signals, some severity, some continues =>
    if 1 ≤ n && n ≤ 8 && pre ≤ 2047 && mask < 16 then
      some { signals, pre, severity, zoneMask := BitVec.ofNat 4 mask, continues }
    else none
  | _, _, _ => none

/-- The capture configuration in a reply. -/
def CaptureConfig.enc (c : CaptureConfig) : Wire :=
  encList (c.signals.map Signal.enc) ++ encN 2 c.pre ++ encN 1 c.severity.code ++
  encN 1 c.zoneMask.toNat ++ encFlag c.continues

/-- The answer to CONFIGURE CAPTURE. -/
def answerConfigureCapture (r : Request) (s : State) : Answer :=
  let p := r.payload
  let n := field p 0 1
  if p.length ≠ 1 + 2 * n + 6 then .no .malformed
  else
    match readCapture p n, flag? (field p (1 + 2 * n + 5) 1) with
    | some cfg, some start =>
      let t := { s with cu := { s.cu with cfg } }
      if s.cu.state ≠ .idle then .no .state
      else if start then
        match s.cu.lowestFree with
        | none => .no .full
        | some b => .accepted (t.startRecording b) (s.cu.cfg.enc ++ encN 1 b)
      else .accepted t s.cu.cfg.enc
    | _, _ => .no .range

/-- CONFIGURE CAPTURE (11 R189). -/
def execConfigureCapture (s : State) : Outcome State Fault Refusal := takes 0x60 answerConfigureCapture s

/-! ### TRIGGER (11 R195) -/

/-- The outcome of a TRIGGER: TRIGGERED with the block, FURTHER with the block and its count, MISSED with
the missed count; `t` is the part after it. The model's choice (log 37): each outcome sends its own items
alone, without presence bytes. -/
def State.triggerOutcome (s t : State) : Wire :=
  match s.cu.active with
  | some b =>
    if s.cu.blocks[b].state = .recording then encN 1 0 ++ encN 1 b
    else encN 1 1 ++ encN 1 b ++ encN 2 t.cu.blocks[b].further
  | none => encN 1 2 ++ encN 2 t.cu.missed

/-- The answer to TRIGGER. -/
def answerTrigger (r : Request) (s : State) : Answer :=
  if r.payload.length ≠ 0 then .no .malformed
  else if s.cu.state = .idle then .no .state
  else
    let t := s.trigger { time := s.hall, alarm := none }
    .accepted t (s.triggerOutcome t)

/-- TRIGGER (11 R195). -/
def execTrigger (s : State) : Outcome State Fault Refusal := takes 0x61 answerTrigger s

/-! ### READ CAPTURE and RELEASE BLOCK (11 R199, R200) -/

/-- The results of READ CAPTURE for frames `first` to `last` of a block, at most 30 of them (12 R205). -/
def Block.encRead (b : Block) (n : BlockId) (first last : Nat) : Wire :=
  let count := min (last + 1 - first) 30
  encN 1 n ++ b.encRecord ++ encN 2 first ++ encN 1 count ++
  encIndex? (if 30 < last + 1 - first then some (first + 30) else none) ++
  (((b.frames.drop first).take count).map (encFrame b.signals)).flatten

/-- The answer to READ CAPTURE. -/
def answerReadCapture (r : Request) (s : State) : Answer :=
  let p := r.payload
  let first := field p 1 2
  let last := field p 3 2
  if p.length ≠ 5 then .no .malformed
  else
    match index? 4 (field p 0 1) with
    | none => .no .range
    | some n =>
      let b := s.cu.blocks[n]
      let final := min last (b.frames.length - 1)
      if 2047 < first || 2047 < last then .no .range
      else if b.state ≠ .locked then .no .state
      else if final < first then .no .range
      else .accepted s (b.encRead n first final)

/-- READ CAPTURE (11 R199). -/
def execReadCapture (s : State) : Outcome State Fault Refusal := takes 0x62 answerReadCapture s

/-- A LOCKED block released: FREE, its announce mark gone; in a stall it enters RECORDING (11 R198, R200).
The model's choice (log 44): the FREE block holds no frames. -/
def State.freeLocked (s : State) (n : BlockId) : State :=
  let t := { s.setBlock n Block.reset with
    lp := { s.lp with announce := s.lp.announce.filter (· ≠ n) } }
  if s.cu.stalled then t.startRecording n else t

/-- The answer to RELEASE BLOCK. The model's choice (log 44): an abandoned RECORDING block, now FREE, holds no
frames. -/
def answerReleaseBlock (r : Request) (s : State) : Answer :=
  if r.payload.length ≠ 1 then .no .malformed
  else
    match index? 4 (field r.payload 0 1) with
    | none => .no .range
    | some n =>
      let reply (t : State) : Answer :=
        .accepted t (encN 1 s.cu.blocks[n].state.code ++ encN 1 t.cu.state.code)
      match s.cu.blocks[n].state with
      | .locked => reply (s.freeLocked n)
      | .recording => reply (s.setBlock n Block.reset)
      | .post | .free => .no .state

/-- RELEASE BLOCK (11 R200). -/
def execReleaseBlock (s : State) : Outcome State Fault Refusal := takes 0x63 answerReleaseBlock s

/-! ### CAPTURE STATUS (11 R201) -/

/-- One block in CAPTURE STATUS: state, frames held, announce mark, and the trigger's time and source. The
model's choice (log 43): the pair stands behind one presence byte. -/
def State.encBlockStatus (s : State) (n : BlockId) : Wire :=
  let b := s.cu.blocks[n]
  let shown := if b.state = .locked || b.state = .post then b.trigger else none
  encN 1 b.state.code ++ encN 2 b.frames.length ++ encFlag (s.lp.announce.contains n) ++
  encOpt 10 (shown.map fun t => encN 8 t.time ++ t.encSource)

/-- What CAPTURE STATUS returns. -/
def State.captureStatus (s : State) : Wire :=
  encN 1 4 ++ encN 2 Config.blockFrames ++ encN 1 s.cu.lockedCount ++ encN 1 s.cu.state.code ++
  ((List.finRange 4).map s.encBlockStatus).flatten ++ encN 2 s.cu.missed ++ s.cu.cfg.enc

/-- The answer to CAPTURE STATUS. -/
def answerCaptureStatus (r : Request) (s : State) : Answer :=
  if r.payload.length ≠ 0 then .no .malformed else .accepted s s.captureStatus

/-- CAPTURE STATUS (11 R201). -/
def execCaptureStatus (s : State) : Outcome State Fault Refusal := takes 0x64 answerCaptureStatus s

end Sys2Proof.Machine
end

