-- ==== Sys2Proof/Machine/Crack.lean ====
section
/-! DEFINITION. The Crack Monitor (10): the loop samples, the acoustic-emission hits, its three
requests. -/

namespace Sys2Proof.Machine
open Host

/-! ### Loops (10 R175, R176) -/

/-- The sampled level of an input. -/
def LoopLevel.ofBit (b : Bool) : LoopLevel := if b then .opened else .closed

/-- One loop's action on a sample taken at the hall time `hall`: its record, and whether it raises. -/
def LoopRecord.sample (r : LoopRecord) (level : LoopLevel) (hall : Nat) : LoopRecord × Bool :=
  let r := { r with latest := level }
  if level = r.accepted then ({ r with run := 0 }, false)
  else if r.debounce ≤ r.run + 1 then
    ({ r with accepted := level, run := 0, changed := true, lastChange := some hall },
      r.enabled && level = .opened)
  else ({ r with run := r.run + 1 }, false)

/-- LOOP_SAMPLE: every millisecond of the oscillator all 32 inputs are sampled (10 R175); a bit of 1 is
an OPEN loop. The LOOP alarms of the loops that opened are raised (10 R176, R187). -/
def execLoopSample (levels : BitVec 32) (s : State) : Outcome State Fault Refusal :=
  .next (s.atExpiry .loop fun t =>
    let sampled : Vector (LoopRecord × Bool) 32 :=
      tabMap (fun n (r : LoopRecord) => r.sample (LoopLevel.ofBit (levels.getLsbD n)) t.hall) t.cm.loops
    let u := { t with cm := { t.cm with
      loops := tabMap (fun _ (x : LoopRecord × Bool) => x.1) sampled
      nextSampleAt := t.cm.nextSampleAt + Config.loopPeriod } }
    let raised := tabFilter (fun _ (x : LoopRecord × Bool) => x.2) sampled
    if raised.isEmpty then u
    else arbitrate (u.raiseAll (raised.map fun n =>
      u.raiseNow (.loop n) u.cm.loops[n].zone u.cm.loops[n].severity)))

/-! ### Hits (10 R180, R181) -/

/-- Whether a hit at the oscillator moment `now` falls within the lockout of the last accepted one. -/
def AeRecord.lockedAt (e : AeRecord) (now : Nat) : Bool :=
  match e.lastHit with
  | some h => now - h.moment < e.lockout
  | none => false

/-- Whether a phase index lies in the correlation window. -/
def AeRecord.inWindow (e : AeRecord) (i : Nat) : Bool :=
  if e.winStart ≤ e.winEnd then e.winStart ≤ i && i ≤ e.winEnd
  else e.winStart ≤ i || i ≤ e.winEnd

/-- An accepted hit: counted and remembered. -/
def AeRecord.accept (e : AeRecord) (now hall : Nat) : AeRecord :=
  { e with total := bump Config.max32 e.total, lastHit := some { moment := now, hall } }

/-- The zone's phase index at the latest strobe (10 R181); when the clock did not run at it and a RESUME
has started it since, the spec gives none (log 12). -/
def State.hitIndex (s : State) (z : ZoneId) : Nat :=
  match (s.zone z).latestN with
  | some n => phaseIndex (s.zone z).inc n
  | none => Config.restartedIndex s.free

/-- AE_HIT: a hit arrives; a disabled channel ignores it, a hit within the lockout is counted, any other
is accepted, and counted in the current cycle when it is correlated and in the window. -/
def execAeHit (ch : AeId) (s : State) : Outcome State Fault Refusal :=
  let e := s.cm.aes[ch]
  if !e.enabled then .next s
  else if e.lockedAt s.osc then
    .next (s.setAe ch { e with lockedOut := bump Config.max16 e.lockedOut })
  else
    let a := e.accept s.osc s.hall
    if (s.zone e.zone).clockRunning && s.cyclingIn e.zone && e.inWindow (s.hitIndex e.zone) then
      .next (s.bumpFree.setAe ch { a with cycle := bump Config.max16 e.cycle })
    else .next (s.bumpFree.setAe ch a)

/-! ### Protection (10 R178) -/

/-- Whether a zone's present state protects the configuration that acts on it. -/
def State.zoneBusy (s : State) (z : ZoneId) : Bool := (s.zone z).state.busy

/-- What a change of a watch asks: to disable it, to move it, and to weaken its severity; `weaker` tells
a raised debounce or threshold. -/
def State.protects (s : State) (enabledNow enabledThen : Bool) (zNow zThen : ZoneId)
    (sevNow sevThen : Severity) (weaker : Bool) : Bool :=
  enabledNow && (s.zoneBusy zNow || s.zoneBusy zThen) &&
  (!enabledThen || (s.zoneBusy zNow && zThen ≠ zNow) || sevThen.rank < sevNow.rank || weaker)

/-! ### The requests (10 R177, R185, R186) -/

/-- A loop after a CONFIGURE LOOP (10 R177). -/
def LoopRecord.configure (r : LoopRecord) (enabled : Bool) (zone : ZoneId) (severity : Severity)
    (debounce : Nat) : LoopRecord :=
  if !r.enabled && enabled then
    { r with enabled, zone, severity, debounce, accepted := r.latest, run := 0 }
  else { r with enabled, zone, severity, debounce }

/-- The four configured fields of a loop. -/
def LoopRecord.encFields (r : LoopRecord) : Wire :=
  encFlag r.enabled ++ encN 1 r.zone ++ encN 1 r.severity.code ++ encN 1 r.debounce

/-- The answer to CONFIGURE LOOP. -/
def answerConfigureLoop (r : Request) (s : State) : Answer :=
  let p := r.payload
  let debounce := field p 4 1
  if p.length ≠ 5 then .no .malformed
  else
    match index? 32 (field p 0 1), flag? (field p 1 1), index? 4 (field p 2 1),
      Severity.ofCode (field p 3 1) with
    | some n, some enabled, some zone, some severity =>
      let l := s.cm.loops[n]
      if severity = .info || debounce = 0 then .no .range
      else if s.protects l.enabled enabled l.zone zone l.severity severity (l.debounce < debounce) then
        .no .protect
      else
        let m := l.configure enabled zone severity debounce
        .accepted (s.setLoop n m) (l.encFields ++ encN 1 m.accepted.code)
    | _, _, _, _ => .no .range

/-- CONFIGURE LOOP (10 R177). -/
def execConfigureLoop (s : State) : Outcome State Fault Refusal := takes 0x50 answerConfigureLoop s

/-- The configured fields of an AE channel. -/
def AeRecord.encFields (e : AeRecord) : Wire :=
  encFlag e.enabled ++ encN 1 e.zone ++ encN 1 e.severity.code ++ encN 2 e.lockout ++
  encN 2 e.winStart ++ encN 2 e.winEnd ++ encN 1 e.ringLen ++ encN 2 e.threshold

/-- The answer to CONFIGURE AE. -/
def answerConfigureAe (r : Request) (s : State) : Answer :=
  let p := r.payload
  let lockout := field p 4 2
  let winStart := field p 6 2
  let winEnd := field p 8 2
  let ringLen := field p 10 1
  let threshold := field p 11 2
  if p.length ≠ 13 then .no .malformed
  else
    match index? 8 (field p 0 1), flag? (field p 1 1), index? 4 (field p 2 1),
      Severity.ofCode (field p 3 1) with
    | some n, some enabled, some zone, some severity =>
      let e := s.cm.aes[n]
      if lockout < 10 || 10000 < lockout || 1023 < winStart || 1023 < winEnd ||
          ringLen < 1 || 64 < ringLen || threshold < 1 then .no .range
      else if s.protects e.enabled enabled e.zone zone e.severity severity (e.threshold < threshold) then
        .no .protect
      else
        .accepted
          (s.setAe n { enabled, zone, severity, lockout, winStart, winEnd, ringLen, threshold,
                       total := 0, lockedOut := 0, cycle := 0, ring := [], lastHit := none })
          (e.encFields ++ encN 4 e.total ++ encN 2 e.cycle ++ encN 4 e.ring.sum)
    | _, _, _, _ => .no .range

/-- CONFIGURE AE (10 R185). -/
def execConfigureAe (s : State) : Outcome State Fault Refusal := takes 0x51 answerConfigureAe s

/-- A loop in READ CRACK STATUS (10 R186). -/
def LoopRecord.enc (r : LoopRecord) : Wire :=
  r.encFields ++ encN 1 r.latest.code ++ encN 1 r.accepted.code ++ encN 1 r.run ++ encFlag r.changed ++
  encOpt 8 (r.lastChange.map (encN 8))

/-- An AE channel in READ CRACK STATUS (10 R186). -/
def AeRecord.enc (e : AeRecord) : Wire :=
  e.encFields ++ encN 4 e.total ++ encN 2 e.lockedOut ++ encN 2 e.cycle ++ encN 1 e.ring.length ++
  encN 4 e.ring.sum ++ encOpt 8 (e.lastHit.map fun h => encN 8 h.hall)

/-- Every loop's change flag cleared (10 R186). -/
def State.clearChanges (s : State) : State :=
  { s with cm := { s.cm with
    loops := tabMap (fun _ (r : LoopRecord) => { r with changed := false }) s.cm.loops } }

/-- The results of READ CRACK STATUS, with the ring of a named channel (log 14). -/
def State.crackStatus (s : State) (named : Option AeId) : Wire :=
  (s.cm.loops.toList.map LoopRecord.enc).flatten ++ (s.cm.aes.toList.map AeRecord.enc).flatten ++
  match named with
  | some n => encList (s.cm.aes[n].ring.map (encN 2))
  | none => []

/-- The answer to READ CRACK STATUS. -/
def answerReadCrackStatus (r : Request) (s : State) : Answer :=
  let p := r.payload
  if p.length ≠ 2 then .no .malformed
  else
    match flag? (field p 0 1) with
    | none => .no .range
    | some false => .accepted s.clearChanges (s.crackStatus none)
    | some true =>
      match index? 8 (field p 1 1) with
      | some n => .accepted s.clearChanges (s.crackStatus (some n))
      | none => .no .range

/-- READ CRACK STATUS (10 R186). -/
def execReadCrackStatus (s : State) : Outcome State Fault Refusal := takes 0x52 answerReadCrackStatus s

end Sys2Proof.Machine
end

