-- ==== Sys2Proof/Machine/LinkRequests.lean ====
section
/-! DEFINITION. The Link Port's own requests (01 R18 to R23). -/

namespace Sys2Proof.Machine
open Host

/-- The group address as an optional field. -/
def LinkPort.encGroup (l : LinkPort) : Wire := encOpt 1 (l.groupAddr.map fun b => [some b])

/-- The reporting settings (01 R18). -/
def Reporting.enc (x : Reporting) : Wire := encN 2 x.level ++ encFlag x.strain ++ encFlag x.capture

/-- The part name JK-816 and the revision letter A, in ASCII (01 R20, log 14). -/
def partName : List Byte := [0x4A, 0x4B, 0x2D, 0x38, 0x31, 0x36, 0x41]

/-- The capacities in the order of the table of 01 R20. -/
def encCapacities : Wire :=
  encN 1 8 ++ encN 1 4 ++ encN 2 256 ++ encN 1 4 ++ encN 1 64 ++ encN 1 32 ++ encN 1 8 ++ encN 1 32 ++
  encN 1 8 ++ encN 1 Config.programQueue ++ encN 1 Config.alarmCapacity ++ encN 2 Config.strainEntries ++
  encN 2 Config.strainRecords ++ encN 1 4 ++ encN 2 Config.blockFrames ++ encN 1 Config.linkQueue ++
  encN 1 Config.linkQueue ++ encN 2 1024

/-- What IDENTIFY returns (01 R20). -/
def State.identity (s : State) : Wire :=
  partName.map some ++ encN 1 s.lp.nodeAddr.toNat ++ s.lp.encGroup ++ encCapacities

/-- The answer to a request that takes no fields and only reads. -/
def answerRead (results : State → Wire) (r : Request) (s : State) : Answer :=
  if r.payload.length ≠ 0 then .no .malformed else .accepted s (results s)

/-- IDENTIFY (01 R20). -/
def execIdentify (s : State) : Outcome State Fault Refusal := takes 0x01 (answerRead State.identity) s

/-- What STATUS returns (01 R21). -/
def State.snapshot (s : State) : Wire :=
  encN 8 s.hall ++ encN 1 s.tb.role.code ++ encFlag s.tb.syncLost ++
  (s.zs.zones.toList.map fun (z : Zone) => z.encStatus ++ encFlag z.pendingStart.isSome).flatten ++
  (s.ac.toList.map fun (c : Channel) => encN 1 c.state.code ++ encFlag c.dryRun).flatten ++
  (s.se.banks.toList.map fun (b : Bank) => encFlag !b.online).flatten ++
  encN 1 s.zs.alarms.length ++ encN 1 (s.zs.alarms.filter fun e => !e.reported).length ++
  encFlag s.zs.overflow ++ encN 2 s.sq.entriesHeld ++ encN 2 s.sq.records.length ++
  encN 1 s.cu.state.code ++ encN 1 s.cu.lockedCount ++ s.lp.encGroup ++ s.lp.reporting.enc

/-- STATUS (01 R21). -/
def execStatus (s : State) : Outcome State Fault Refusal := takes 0x02 (answerRead State.snapshot) s

/-- The answer to SET GROUP. -/
def answerSetGroup (r : Request) (s : State) : Answer :=
  let p := r.payload
  if p.length ≠ 2 then .no .malformed
  else
    match flag? (field p 0 1) with
    | none => .no .range
    | some false => .accepted { s with lp := { s.lp with groupAddr := none } } s.lp.encGroup
    | some true =>
      if field p 1 1 < 64 || 254 < field p 1 1 then .no .range
      else .accepted { s with lp := { s.lp with groupAddr := some (byteAt p 1) } } s.lp.encGroup

/-- SET GROUP (01 R22). -/
def execSetGroup (s : State) : Outcome State Fault Refusal := takes 0x03 answerSetGroup s

/-- The answer to SET REPORTING. -/
def answerSetReporting (r : Request) (s : State) : Answer :=
  let p := r.payload
  let level := field p 0 2
  if p.length ≠ 4 then .no .malformed
  else
    match flag? (field p 2 1), flag? (field p 3 1) with
    | some strain, some capture =>
      if level = 64 || level = 256 || level = 1024 || level = 2048 then
        .accepted { s with lp := { s.lp with reporting := { level, strain, capture } } } s.lp.reporting.enc
      else .no .range
    | _, _ => .no .range

/-- SET REPORTING (01 R18). -/
def execSetReporting (s : State) : Outcome State Fault Refusal := takes 0x04 answerSetReporting s

/-- The five link counts (01 R19). -/
def LinkCounts.enc (c : LinkCounts) : Wire :=
  encN 2 c.check ++ encN 2 c.gap ++ encN 2 c.brk ++ encN 2 c.length ++ encN 2 c.dropped

/-- The answer to READ LINK COUNTS: the counts are returned and set to 0 in the same act. -/
def answerReadLinkCounts (r : Request) (s : State) : Answer :=
  if r.payload.length ≠ 0 then .no .malformed
  else
    .accepted
      { s with lp := { s.lp with counts := { check := 0, gap := 0, brk := 0, length := 0, dropped := 0 } } }
      s.lp.counts.enc

/-- READ LINK COUNTS (01 R19). -/
def execReadLinkCounts (s : State) : Outcome State Fault Refusal := takes 0x05 answerReadLinkCounts s

/-- Whether every zone is IDLE or SAFE (01 R23). -/
def State.quiet (s : State) : Bool :=
  (List.finRange 4).all fun z => (s.zone z).state = .idle || (s.zone z).state = .safe

/-- What an accepted RESTART waits for (01 R23): its reply; by broadcast, the frame being sent, if any. -/
def State.restartWait (s : State) (cls : AddrClass) : RestartPhase :=
  if cls = .broadcast then (if s.lp.tx.isSome then .awaitFrame else .due) else .awaitReply

/-- The answer to RESTART. -/
def answerRestart (r : Request) (s : State) : Answer :=
  if r.payload.length ≠ 0 then .no .malformed
  else if s.quiet then
    .accepted { s with lp := { s.lp with restart := s.restartWait r.cls } } []
  else .no .state

/-- RESTART (01 R23). -/
def execRestart (s : State) : Outcome State Fault Refusal := takes 0x06 answerRestart s

end Sys2Proof.Machine
end

