-- ==== Sys2Proof/Machine/Scan.lean ====
section
/-! DEFINITION. The Scan Engine (07): scan set, requests and arbiter, bank ports, completion; and the
meanings of the bank ports' and the free-scan timer's events. -/

namespace Sys2Proof.Machine
open Host

/-! ### The scan set (07 R126) -/

/-- Whether a range names a gauge: same bank, and within `count` places of the base, wrapping in the bank. -/
def ScanRange.names (r : ScanRange) (g : GaugeId) : Bool :=
  g.val / 64 = r.base.val / 64 && (g.val % 64 + 64 - r.base.val % 64) % 64 < r.count

/-- The scan set: each gauge the list names once, in ascending order. -/
def scanSet (l : List ScanRange) : List GaugeId :=
  (List.finRange 256).filter fun g => l.any fun r => r.names g

/-! ### Bank ports (07 R133) -/

/-- A conversion given to a port: sent at once when none is outstanding and the port is not settling,
otherwise waiting. -/
def Bank.give (b : Bank) (c : Conversion) (now : Nat) : Bank :=
  if b.outstanding.isNone && b.settlingUntil.isNone then
    { b with outstanding := some c, timeoutAt := now + Config.bankTime }
  else { b with waiting := b.waiting ++ [c] }

/-- The waiting conversion that was given first is sent, when the port is free for it. -/
def Bank.sendWaiting (b : Bank) (now : Nat) : Bank :=
  match b.waiting with
  | [] => b
  | c :: rest =>
    if b.outstanding.isNone && b.settlingUntil.isNone then
      { b with outstanding := some c, waiting := rest, timeoutAt := now + Config.bankTime }
    else b

/-- The list of a conversion, as the port sends it (07 R133, R137). -/
def Conversion.gauges : Conversion → List GaugeId
  | .scan gs => gs
  | .test g => [g]

/-- Whether a conversion is the test of BANK RESET. -/
def Conversion.isTest : Conversion → Bool
  | .scan _ => false
  | .test _ => true

/-- The first gauge of a bank, which its test converts (07 R137). -/
def firstGauge (b : BankId) : GaugeId := ⟨b.val * 64, by omega⟩

/-! ### Requests and the arbiter (07 R129 to R132) -/

/-- The first of the slots looked at so far, as zone `z` is looked at too: a later zone's request comes first
only with an earlier crossing. -/
def ScanEngine.earlierSlot (e : ScanEngine) (best : Option (ZoneId × PhaseRequest)) (z : ZoneId) :
    Option (ZoneId × PhaseRequest) :=
  match e.slots[z], best with
  | none, _ => best
  | some x, none => some (z, x)
  | some x, some b => if x.crossing < b.2.crossing then some (z, x) else best

/-- The slot of the waiting phase-locked request with the earliest crossing, the lowest zone among equals,
and the request. -/
def ScanEngine.firstSlot (e : ScanEngine) : Option (ZoneId × PhaseRequest) :=
  (List.finRange 4).foldl e.earlierSlot none

/-- What the arbiter starts next: its kind and its phase-locked request with the slot (07 R131). -/
def ScanEngine.choice (e : ScanEngine) : Option (ScanKind × Option (ZoneId × PhaseRequest)) :=
  match e.firstSlot with
  | some x => some (if x.2.peak then .peak else .valley, some x)
  | none => if e.zeroRequest then some (.zero, none) else if e.freeRequest then some (.free, none) else none

/-- The request leaves its place as its scan starts (07 R132). -/
def ScanEngine.leave (e : ScanEngine) (kind : ScanKind) (phase : Option (ZoneId × PhaseRequest)) :
    ScanEngine :=
  match phase with
  | some x => { e with slots := e.slots.set x.1 none }
  | none => if kind = .zero then { e with zeroRequest := false } else { e with freeRequest := false }

/-- A scan's gauges in one bank (07 R126). -/
def bankPart (gauges : List GaugeId) (b : BankId) : List GaugeId :=
  gauges.filter fun g => g.val / 64 = b.val

/-- A scan starts: its data are fixed, each ONLINE bank with gauges is given its list (07 R132, R133). -/
def State.startScan (s : State) (kind : ScanKind) (phase : Option (ZoneId × PhaseRequest)) : State :=
  let gauges := scanSet s.se.scanList
  let involved (b : BankId) : Bool := s.se.banks[b].online && !(bankPart gauges b).isEmpty
  let e := s.se.leave kind phase
  let scan : Scan :=
    { kind, start := s.hall, gauges, phase := phase.map Prod.snd
      lag := match phase with
        | some x => min (s.hall - x.2.crossing) Config.max32
        | none => 0
      awaiting := tabMap (fun b _ => involved b) s.se.banks
      answers := Vector.replicate 4 none }
  { s with se := { e with
      scan := some scan
      banks := tabMap (fun b (x : Bank) =>
        if involved b then x.give (.scan (bankPart gauges b)) s.osc else x) e.banks } }

/-- Whether the scan in flight has no bank left to answer (07 R136). -/
def Scan.done (x : Scan) : Bool := (List.finRange 4).all fun b => !x.awaiting[b]

/-- A completed scan's result is handed over and the scan is no longer in flight (07 R136). -/
def State.finishScan (s : State) (x : Scan) : State :=
  let t := { s with se := { s.se with scan := none } }
  if x.kind = .zero then t.zeroScan x else t.convertScan x

/-- The arbiter, consulted: a scan in flight that is done completes; with none in flight the first
waiting request starts one; a scan that involves no bank completes at its start and the arbiter is
consulted again (07 R131, R132). At most six requests wait at one moment. -/
def State.runScans : Nat → State → State
  | 0, s => s
  | n + 1, s =>
    match s.se.scan with
    | some x => if x.done then State.runScans n (s.finishScan x) else s
    | none =>
      match s.se.choice with
      | some (kind, phase) => State.runScans n (s.startScan kind phase)
      | none => s

/-- Fuel for the arbiter: a completion, then a start and a completion for each of six requests. -/
def State.consult (s : State) : State := s.runScans 14

/-- A phase-locked request arrives: it enters its zone's slot; one it replaces is a miss of that zone
(07 R129). The arbiter is then consulted. -/
def State.phaseRequest (s : State) (p : PhaseRequest) : State :=
  let t := { s with se := { s.se with slots := s.se.slots.set p.zone (some p) } }
  let t :=
    if s.se.slots[p.zone].isSome then
      let x := t.zone p.zone
      t.setZone p.zone { x with missed := bump Config.max16 x.missed }
    else t
  t.consult

/-! ### Conversions that end (07 R134, R135, R138) -/

/-- A bank has answered for the scan in flight: raw values, or none for NO DATA. -/
def State.scanAnswer (s : State) (b : BankId) (values : Option (List Int)) : State :=
  match s.se.scan with
  | none => s
  | some x => { s with se := { s.se with scan := some { x with
      awaiting := x.awaiting.set b false
      answers := x.answers.set b values } } }

/-- The BANK RESET operation completes with its deferred reply (07 R138), the raw value within the range
of 12 R205. The model's choice (log 35): the reply after a timeout still sends the raw value's four bytes,
free values without a presence byte. -/
def State.testEnd (s : State) (b : BankId) (raw : Option Int) : State :=
  match s.se.bankReset with
  | none => s
  | some op =>
    let x := s.se.banks[b]
    let t := { s with se := { s.se with bankReset := none } }
    t.deferredReply op.tag 0x46
      (encN 1 b ++ encFlag raw.isNone ++ encBare 4 (raw.map fun v => encI 4 (limitRaw v)) ++
        encFlag (!x.online) ++ encN 1 x.consecutive)

/-- The outstanding conversion of a port ends with its values, or none for a timeout: the bank or the
BANK RESET has its answer, the waiting conversion is sent, and the scan in flight may complete. -/
def State.conversionEnd (s : State) (b : BankId) (c : Conversion) (values : Option (List Int)) : State :=
  let t :=
    match c with
    | .scan _ => s.scanAnswer b values
    | .test _ => s.testEnd b (values.bind List.head?)
  (t.setBank b (t.se.banks[b].sendWaiting t.osc)).consult

/-- BANK_ANSWER: an answer with one value per listed gauge ends the outstanding conversion; any other
is stray (07 R134). -/
def execBankAnswer (bank : BankId) (values : List Int) (s : State) : Outcome State Fault Refusal :=
  let b := s.se.banks[bank]
  let stray := .next (arbitrate (s.setBank bank { b with strays := bump Config.max16 b.strays }))
  if b.settlingUntil.isSome then stray
  else
    match b.outstanding with
    | none => stray
    | some c =>
      if values.length = c.gauges.length then
        .next (arbitrate ((s.setBank bank { b with outstanding := none, consecutive := 0 }).conversionEnd
          bank c (some values)))
      else stray

/-- A port after a timeout: counted, OFFLINE at the third in a row (07 R135). -/
def Bank.timedOut (b : Bank) : Bank :=
  let n := bump 3 b.consecutive
  { b with
    outstanding := none
    consecutive := n
    timeouts := bump Config.max32 b.timeouts
    online := b.online && n < 3 }

/-- A scan part waiting at a port that has gone OFFLINE is not sent: its gauges get NO DATA (07 R135). -/
def State.dropWaitingScan (s : State) (b : BankId) : State :=
  let x := s.se.banks[b]
  if x.online || x.waiting.all Conversion.isTest then s
  else (s.setBank b { x with waiting := x.waiting.filter Conversion.isTest }).scanAnswer b none

/-- BANK_TIMEOUT: the port's 5 ms run out with a conversion outstanding (07 R135). -/
def execBankTimeout (bank : BankId) (s : State) : Outcome State Fault Refusal :=
  .next (s.atExpiry (.bank bank) fun t =>
    match t.se.banks[bank].outstanding with
    | none => t
    | some c =>
      arbitrate (((t.setBank bank t.se.banks[bank].timedOut).dropWaitingScan bank).conversionEnd bank c none))

/-- BANK_SETTLING_END: the 5 ms after reset or restart are over; a waiting conversion is sent (07 R133). -/
def execBankSettlingEnd (bank : BankId) (s : State) : Outcome State Fault Refusal :=
  .next (s.atExpiry (.settling bank) fun t =>
    t.setBank bank ({ t.se.banks[bank] with settlingUntil := none }.sendWaiting t.osc))

/-- FREE_SCAN_EXPIRY: the timer runs out and is set for the next interval; the expiry is skipped while
a free request is pending or a free scan in flight, otherwise a free request becomes pending (07 R128). -/
def execFreeScanExpiry (s : State) : Outcome State Fault Refusal :=
  .next (s.atExpiry .freeScan fun t =>
    let e := { t.se with expiryAt := t.se.expiryAt + 1000 * t.se.interval }
    let inFlight := match e.scan with
      | some x => x.kind = .free
      | none => false
    if e.freeRequest || inFlight then
      { t with se := { e with skipped := bump Config.max32 e.skipped } }
    else arbitrate { t with se := { e with freeRequest := true } }.consult)

/-- REPORT_DELAY_RUN_OUT: the delay timer runs out and the queue is due (09 R162, 01 R17). -/
def execReportDelayRunOut (s : State) : Outcome State Fault Refusal :=
  .next (s.atExpiry .delay fun t => arbitrate { t with sq := { t.sq with timer := .runOut } })

end Sys2Proof.Machine
end

