-- ==== Sys2Proof/Machine/GaugeRequests.lean ====
section
/-! DEFINITION. The requests of the Scan Engine, the Strain Converter and the Limit Watch (07 R125, R127,
R137, R140; 08 R144 to R146, R153, R156; 09 R167, R168, R173). -/

namespace Sys2Proof.Machine
open Host

/-! ### Scan list and interval (07 R125, R127) -/

/-- A range of the scan list from its two bytes: base and count 1 to 64. -/
def readRange (p : List Byte) (i : Nat) : Option ScanRange :=
  let count := field p (2 + 2 * i) 1
  if count < 1 || 64 < count then none
  else (index? 256 (field p (1 + 2 * i) 1)).map fun base => { base, count }

/-- The answer to SET SCAN LIST. -/
def answerSetScanList (r : Request) (s : State) : Answer :=
  let p := r.payload
  let n := field p 0 1
  if p.length ≠ 1 + 2 * n then .no .malformed
  else if 16 < n then .no .range
  else
    match readAll (readRange p) (List.range n) with
    | none => .no .range
    | some l =>
      .accepted { s with se := { s.se with scanList := l } }
        (encN 2 (scanSet l).length ++ encN 1 s.se.scanList.length)

/-- SET SCAN LIST (07 R125). -/
def execSetScanList (s : State) : Outcome State Fault Refusal := takes 0x40 answerSetScanList s

/-- The Scan Engine with a new interval at the moment `now`: the timer restarts, or stops and a free
request is removed (07 R127). -/
def ScanEngine.setInterval (e : ScanEngine) (interval now : Nat) : ScanEngine :=
  { e with
    interval
    expiryAt := now + 1000 * interval
    freeRequest := interval ≠ 0 && e.freeRequest }

/-- The delay timer judged against a delay at the moment `now` (09 R162). -/
def DelayTimer.judge (t : DelayTimer) (delay now : Nat) : DelayTimer :=
  match t with
  | .running since => if since + delay ≤ now then .runOut else .running since
  | .stopped => .stopped
  | .runOut => .runOut

/-- The answer to SET SCAN INTERVAL. -/
def answerSetScanInterval (r : Request) (s : State) : Answer :=
  let interval := field r.payload 0 2
  if r.payload.length ≠ 2 then .no .malformed
  else if 1000 < interval then .no .range
  else
    let se := s.se.setInterval interval s.osc
    .accepted { s with se, sq := { s.sq with timer := s.sq.timer.judge se.delay s.osc } }
      (encN 2 s.se.interval)

/-- SET SCAN INTERVAL (07 R127, 09 R162). -/
def execSetScanInterval (s : State) : Outcome State Fault Refusal := takes 0x41 answerSetScanInterval s

/-! ### BANK RESET and ZERO GAUGES, the deferred requests (07 R137, 08 R153) -/

/-- A port at BANK RESET: ONLINE, its run of timeouts over, the test of a gauge given (07 R137). -/
def Bank.resetTest (b : Bank) (g : GaugeId) (now : Nat) : Bank :=
  { b with online := true, consecutive := 0 }.give (.test g) now

/-- The BANK RESET operation starts: the port is given the test of its bank's first gauge. -/
def State.startTest (s : State) (b : BankId) (tag : Option Byte) : State :=
  let t := s.setBank b (s.se.banks[b].resetTest (firstGauge b) s.osc)
  { t with se := { t.se with bankReset := some { bank := b, tag } } }

/-- The answer to BANK RESET. -/
def answerBankReset (r : Request) (s : State) : Answer :=
  if r.payload.length ≠ 1 then .no .malformed
  else
    match index? 4 (field r.payload 0 1) with
    | none => .no .range
    | some b =>
      if s.se.bankReset.isSome then .no .busy
      else .deferred ((s.reserve r).startTest b r.deferredTag)

/-- BANK RESET (07 R137). -/
def execBankReset (s : State) : Outcome State Fault Refusal := takes 0x46 answerBankReset s

/-- The ZERO GAUGES operation starts: the zero request is pending and the arbiter is consulted. -/
def State.startZero (s : State) (tag : Option Byte) : State :=
  { s with scv := { s.scv with zeroOp := some { tag } }, se := { s.se with zeroRequest := true } }.consult

/-- The answer to ZERO GAUGES. -/
def answerZeroGauges (r : Request) (s : State) : Answer :=
  if r.payload.length ≠ 0 then .no .malformed
  else if s.anyZone ZoneState.busy then .no .state
  else if s.scv.zeroOp.isSome then .no .busy
  else .deferred ((s.reserve r).startZero r.deferredTag)

/-- ZERO GAUGES (08 R153). -/
def execZeroGauges (s : State) : Outcome State Fault Refusal := takes 0x45 answerZeroGauges s

/-! ### Templates and the default profile (08 R144 to R146) -/

/-- A profile read from five bytes at `off`; none when a field is out of range. -/
def readProfile (p : List Byte) (off : Nat) : Option Profile :=
  let gf := field p (off + 1) 2
  let cal := field p (off + 3) 2
  match BridgeType.ofCode (field p off 1) with
  | none => none
  | some bridge =>
    if 1000 ≤ gf && gf ≤ 5000 && 16384 ≤ cal then some { bridge, gf, cal } else none

def Profile.enc (x : Profile) : Wire := encN 1 x.bridge.code ++ encN 2 x.gf ++ encN 2 x.cal

def Template.enc (t : Template) : Wire :=
  encFlag t.enabled ++ [some t.value, some t.mask] ++ t.profile.enc

/-- The answer to WRITE TEMPLATE. -/
def answerWriteTemplate (r : Request) (s : State) : Answer :=
  let p := r.payload
  if p.length ≠ 9 then .no .malformed
  else
    match index? 8 (field p 0 1), flag? (field p 1 1), readProfile p 4 with
    | some n, some enabled, some profile =>
      if s.anyZone ZoneState.busy then .no .protect
      else
        let t : Template := { enabled, value := byteAt p 2, mask := byteAt p 3, profile }
        .accepted
          { s with scv := { s.scv with templates := s.scv.templates.set n t, tableValid := false } }
          (s.scv.templates[n].enc ++ encFlag s.scv.tableValid)
    | _, _, _ => .no .range

/-- WRITE TEMPLATE (08 R144). -/
def execWriteTemplate (s : State) : Outcome State Fault Refusal := takes 0x42 answerWriteTemplate s

/-- The answer to SET DEFAULT PROFILE. -/
def answerSetDefaultProfile (r : Request) (s : State) : Answer :=
  if r.payload.length ≠ 5 then .no .malformed
  else
    match readProfile r.payload 0 with
    | none => .no .range
    | some profile =>
      if s.anyZone ZoneState.busy then .no .protect
      else .accepted { s with scv := { s.scv with default := profile } } s.scv.default.enc

/-- SET DEFAULT PROFILE (08 R145). -/
def execSetDefaultProfile (s : State) : Outcome State Fault Refusal := takes 0x43 answerSetDefaultProfile s

/-- The number of gauges for which selection with the flag set gives `c` (08 R146). -/
def StrainConverter.countOf (v : StrainConverter) (c : Option TemplateId) : Nat :=
  ((List.finRange 256).filter fun g => v.matching g = c).length

/-- The answer to VALIDATE TEMPLATES. -/
def answerValidateTemplates (r : Request) (s : State) : Answer :=
  if r.payload.length ≠ 0 then .no .malformed
  else if !s.scv.tableValid && s.anyZone ZoneState.busy then .no .protect
  else
    .accepted { s with scv := { s.scv with tableValid := true } }
      (((List.finRange 8).map fun t => encN 2 (s.scv.countOf (some t))).flatten ++
        encN 2 (s.scv.countOf none) ++ encFlag s.scv.tableValid)

/-- VALIDATE TEMPLATES (08 R146). -/
def execValidateTemplates (s : State) : Outcome State Fault Refusal := takes 0x44 answerValidateTemplates s

/-! ### READ GAUGES (08 R156, 07 R140, 09 R173) -/

/-- One gauge: entry, zero, counter, the template that would be chosen now or none for the default. The
model's choice (log 36): the default is an absent optional number, a presence byte 0 and one free byte. -/
def StrainConverter.encGauge (v : StrainConverter) (g : GaugeId) : Wire :=
  encI 4 v.latest[g].value ++ encN 1 v.latest[g].flags.code ++ encN 8 v.latest[g].time ++
  encI 4 v.zeros[g] ++ encN 1 v.openCount[g] ++ encOpt 1 ((v.chosen g).map fun t => encN 1 t)

def ScanRange.enc (r : ScanRange) : Wire := encN 1 r.base ++ encN 1 r.count

/-- A phase-locked slot: kind (0 PEAK, 1 VALLEY, in the order of 07 R129), cycle count, crossing time. -/
def PhaseRequest.encSlot (p : PhaseRequest) : Wire :=
  encN 1 (if p.peak then 0 else 1) ++ encN 4 p.cycle ++ encN 8 p.crossing

/-- The scan in flight: kind, start time, and for PEAK and VALLEY its zone and lag. The model's choice (log
43): the pair stands behind one presence byte, absent for FREE and ZERO. -/
def Scan.enc (x : Scan) : Wire :=
  encN 1 x.kind.code ++ encN 8 x.start ++ encOpt 5 (x.phase.map fun p => encN 1 p.zone ++ encN 4 x.lag)

/-- The code of an outstanding conversion: none, SCAN, TEST. -/
def Conversion.code : Option Conversion → Nat
  | none => 0
  | some (.scan _) => 1
  | some (.test _) => 2

/-- The code of the conversions waiting: none, SCAN, TEST, or one of each. -/
def waitingCode (l : List Conversion) : Nat :=
  bitIf (l.any fun c => !c.isTest) 1 + bitIf (l.any Conversion.isTest) 2

/-- A bank (07 R140). -/
def Bank.enc (b : Bank) : Wire :=
  encFlag (!b.online) ++ encN 1 (Conversion.code b.outstanding) ++ encN 1 (waitingCode b.waiting) ++
  encN 1 b.consecutive ++ encN 4 b.timeouts ++ encN 2 b.strays

/-- The items of the Scan Engine (07 R140). -/
def ScanEngine.enc (e : ScanEngine) : Wire :=
  encList (e.scanList.map ScanRange.enc) ++ encN 2 (scanSet e.scanList).length ++ encN 2 e.interval ++
  encFlag e.freeRequest ++ encN 4 e.skipped ++
  (e.slots.toList.map fun x => encOpt 13 (x.map PhaseRequest.encSlot)).flatten ++ encFlag e.zeroRequest ++
  encOpt 15 (e.scan.map Scan.enc) ++ (e.banks.toList.map Bank.enc).flatten ++
  encOpt 1 (e.bankReset.map fun x => encN 1 x.bank)

/-- A rule: its number, its fields, its counter and its latch (09 R173). -/
def LimitRule.enc (r : LimitRule) (n : RuleId) : Wire :=
  encN 1 n ++ encFlag r.enabled ++ encN 1 r.gauge ++ encI 4 r.threshold ++ encN 1 r.mask.code ++
  encN 1 r.persistence ++ encN 1 r.action.code ++ encN 1 r.zone ++ encFlag r.trip ++ encN 1 r.counter ++
  encFlag r.latched

/-- The rules whose gauge lies in a range of `count` gauges from `first`, in ascending number. -/
def LimitWatch.inRange (w : LimitWatch) (first count : Nat) : List RuleId :=
  tabFilter (fun _ (r : LimitRule) => first ≤ r.gauge.val && r.gauge.val < first + count) w.rules

/-- The rule items of a READ GAUGES reply whose other results take `used` bytes: as many as fit in 1024
with the reply's two bytes and the two counts, then the number left out (12 R205). -/
def LimitWatch.encRules (w : LimitWatch) (l : List RuleId) (used : Nat) : Wire :=
  let fit := (1024 - (2 + used + 1 + 1)) / 14
  encList ((l.take fit).map fun n => w.rules[n].enc n) ++ encN 1 (l.length - fit)

/-- The results of READ GAUGES before the rule items. -/
def State.gaugeReading (s : State) (gauges : List GaugeId) : Wire :=
  encList (gauges.map fun g => s.scv.encGauge g) ++ encFlag s.scv.tableValid ++ s.scv.default.enc ++
  encFlag s.scv.zeroOp.isSome ++ s.se.enc

/-- The answer to READ GAUGES. -/
def answerReadGauges (r : Request) (s : State) : Answer :=
  let first := field r.payload 0 1
  let count := field r.payload 1 1
  if r.payload.length ≠ 2 then .no .malformed
  else if count < 1 || 32 < count || 256 < first + count then .no .range
  else
    let gauges := (List.finRange 256).filter fun g => first ≤ g.val && g.val < first + count
    let w := s.gaugeReading gauges
    .accepted s (w ++ s.lw.encRules (s.lw.inRange first count) w.length)

/-- READ GAUGES (08 R156). -/
def execReadGauges (s : State) : Outcome State Fault Refusal := takes 0x47 answerReadGauges s

/-! ### SET LIMIT RULE (09 R167, R168) -/

/-- A rule read from a payload, its counter 0 and its latch clear; none when a field is out of range. -/
def readRule (p : List Byte) : Option LimitRule :=
  let threshold := fieldI p 3 4
  let persistence := field p 8 1
  match flag? (field p 1 1), index? 256 (field p 2 1), LimitMask.ofCode (field p 7 1),
    LimitAction.ofCode (field p 9 1), index? 4 (field p 10 1), flag? (field p 11 1) with
  | some enabled, some gauge, some mask, some action, some zone, some trip =>
    if -Config.strainMax ≤ threshold && threshold ≤ Config.strainMax && 1 ≤ persistence then
      some { enabled, gauge, threshold, mask, persistence, action, zone, trip, counter := 0, latched := false }
    else none
  | _, _, _, _, _, _ => none

/-- Whether the change of a rule is protected (09 R168). -/
def State.protectsRule (s : State) (old new : LimitRule) : Bool :=
  let busy (z : ZoneId) : Bool := (s.zone z).state.busy
  old.enabled && (busy old.zone || busy new.zone) &&
  (!new.enabled || (busy old.zone && new.zone ≠ old.zone) || old.persistence < new.persistence ||
    new.action.rank < old.action.rank)

/-- The answer to SET LIMIT RULE. -/
def answerSetLimitRule (r : Request) (s : State) : Answer :=
  if r.payload.length ≠ 12 then .no .malformed
  else
    match index? 32 (field r.payload 0 1), readRule r.payload with
    | some n, some new =>
      if s.protectsRule s.lw.rules[n] new then .no .protect
      else .accepted (s.setRule n new) (s.lw.rules[n].enc n)
    | _, _ => .no .range

/-- SET LIMIT RULE (09 R167). -/
def execSetLimitRule (s : State) : Outcome State Fault Refusal := takes 0x48 answerSetLimitRule s

end Sys2Proof.Machine
end

