-- ==== Sys2Proof/Machine/Reset.lean ====
section
/-! DEFINITION. Reset and restart of the part (01 R23, R24; 02 R35), as whole-state operations; and the
meanings of the commands that bring them about. -/

namespace Sys2Proof.Machine
open Host

/-- The part right after a reset whose ADDR pins give `addr`; the model's queue of commands and its
free-value counter are not the part's and stay (log 31). -/
def State.afterReset (s : State) (addr : Nat) : State :=
  { State.reset with
    lp := { LinkPort.reset with nodeAddr := BitVec.ofNat 6 addr }
    free := s.free
    pending := s.pending }

/-- RESET: power-on or the RESET pin; the ADDR pins are sampled (01 R24). -/
def execReset (addr : Nat) (s : State) : Outcome State Fault Refusal := .next (s.afterReset addr)

/-- The Link Port after a restart: the node address and the link counts are kept (01 R23, R24), and the
downlink is as the line has it. -/
def LinkPort.restarted (l : LinkPort) : LinkPort :=
  { LinkPort.reset with
    nodeAddr := l.nodeAddr, counts := l.counts, line := l.line, lastByteAt := l.lastByteAt }

/-- The Time Base after a restart: hall time, role and latest source are kept and the schedule runs on;
the SYNC line is driven by a MASTER (02 R35). -/
def TimeBase.restarted (t : TimeBase) : TimeBase :=
  { TimeBase.reset with
    strobeNumber := t.strobeNumber
    lastStrobeAt := t.lastStrobeAt
    role := t.role
    source := t.source
    line := if t.role = .master then (if t.line = .high then .high else .low) else .released }

/-- The part right after a restart (01 R23): every other block at its reset values. -/
def State.afterRestart (s : State) : State :=
  { State.reset with
    lp := s.lp.restarted
    tb := s.tb.restarted
    se := ScanEngine.reset s.osc
    cm := CrackMonitor.reset s.osc
    osc := s.osc
    free := s.free
    pending := s.pending }

/-- RESTART_EFFECT: a restart that is due takes effect (01 R23, log 21). -/
def execRestartEffect (s : State) : Outcome State Fault Refusal :=
  .next (s.atExpiry .restart State.afterRestart)

end Sys2Proof.Machine
end

