-- ==== Sys2Proof/Machine/Strobe.lean ====
section
/-! DEFINITION. The servo strobe (02 R26): the start decisions, the updates of the channels, the Zone
Supervisor's strobe work, the AE windows, the capture frame; and the meanings of the events that
make a strobe or concern the SYNC line (02 R27 to R30). -/

namespace Sys2Proof.Machine
open Host

/-! ### The Time Base's part and the start decisions -/

/-- The strobe's number, moment and source; a pending time set is applied; a MASTER drives SYNC high
(02 R26, R27). -/
def TimeBase.strobe (t : TimeBase) (src : StrobeSource) (now : Nat) : TimeBase :=
  { t with
    strobeNumber := match t.pendingSet with
      | some T => T / 500
      | none => t.strobeNumber + 1
    lastStrobeAt := now
    pendingSet := none
    source := src
    line := if t.role = .master then .high else t.line }

/-- The Time Base's part of a strobe. New-value marks that no frame of this strobe will carry are
spent (11 R190, log 25). -/
def State.tbStrobe (s : State) (src : StrobeSource) : State :=
  { s with
    tb := s.tb.strobe src s.osc
    scv := if s.cu.active.isSome then s.scv else { s.scv with written := [] } }

/-- A zone that enters RUN from READY at this strobe (06 R102, R109). -/
def Zone.enterRun (x : Zone) (hall : Nat) : Zone :=
  { x with
    state := .run
    clockRunning := true
    origin := hall
    reasons := HoldReasons.empty
    counter := 0
    guardRun := 0
    pendingStart := none
    lastStart := .started }

/-- Whether this strobe is the start strobe of a zone (06 R109). -/
def Zone.startsAt (x : Zone) (hall : Nat) : Bool :=
  x.state = .ready && match x.pendingStart with
    | some t => t ≤ hall
    | none => false

/-- The start strobe's outcome for one zone (06 R109). -/
def State.decideStart (s : State) (z : ZoneId) : State :=
  let x := s.zone z
  if x.startsAt s.strobeHall then
    if s.scv.zeroOp.isSome then s.setZone z { x with pendingStart := none, lastStart := .late }
    else if s.standing z || s.zs.overflow then
      s.setZone z { x with pendingStart := none, lastStart := .cancelled }
    else (s.setZone z (x.enterRun s.strobeHall)).alarm
  else s

/-- The start decisions of the four zones. -/
def State.decideStarts (s : State) : State := (List.finRange 4).foldl State.decideStart s

/-! ### The updates -/

/-- What a member's update reads of its zone. -/
def State.viewOf (s : State) (started : ZoneId → Bool) (a : ActId) : Option ZoneView :=
  (s.zoneOf a).map fun z =>
    let x := s.zone z
    { zone := z, state := x.state, started := started z
      index := x.strobeIndex s.strobeHall, inc := x.inc, nin := x.nin, nout := x.nout
      unloadRate := x.unloadRate, unloadFirst := x.unloadFirst }

/-- The updates of the eight channels, with what each hands over. -/
def State.updates (s : State) (started : ZoneId → Bool) : Vector (Channel × Outcomes) 8 :=
  tabMap (fun a (c : Channel) => c.update (s.viewOf started a) s.strobeHall) s.ac

/-! ### The Zone Supervisor's strobe work (06 R103 to R105, R112, R115) -/

/-- Wrap work; `cycled` tells whether a member was cycling at its update before. A saturated cycle count does
not rise, and the phase-capture counter then keeps its value (06 R103). -/
def Zone.wrapWork (x : Zone) (cycled : Bool) : Zone :=
  if cycled && x.cycleCount < Config.max32 then
    { x with
      cycleCount := x.cycleCount + 1
      counter := if x.everyNth ≤ x.counter + 1 then 0 else x.counter + 1 }
  else x

/-- The crossing at the n-th strobe: true for a peak, false for a valley (06 R104). -/
def Zone.crossing (x : Zone) (n : Nat) : Option Bool :=
  if n = 0 then none
  else
    let before := phaseIndex x.inc (n - 1)
    let here := phaseIndex x.inc n
    if before < 256 && 256 ≤ here then some true
    else if before < 768 && 768 ≤ here then some false
    else none

/-- Whether the zone captures crossings of a kind (06 R104). -/
def PhaseCapture.selects : PhaseCapture → Bool → Bool
  | .none, _ => false
  | .peak, k => k
  | .valley, k => !k
  | .both, _ => true

/-- The guard with its sum: the zone after it, and whether TOTAL is raised (06 R105). -/
def Zone.guard (x : Zone) (lo hi sum : Int) : Zone × Bool :=
  let y := { x with guardSum := some sum }
  if sum < lo || hi < sum then
    if 3 ≤ x.guardRun then ({ y with guardRun := 0 }, true)
    else ({ y with guardRun := x.guardRun + 1 }, false)
  else ({ y with guardRun := 0 }, false)

/-- A value that stood before or after some other work of the same moment: the free choice decides,
where the two differ. -/
def either {α : Type} [DecidableEq α] (after : Bool) (old new : α) : α :=
  if old = new then new else if after then new else old

/-- The force list of a crossing: each member in ascending order, its measured force and its tag
(06 R104); a member is read before or after its update (log 9). -/
def State.forceList (s : State) (old : Vector Channel 8) (z : ZoneId) : List ForceItem :=
  (s.zone z).memberList.map fun a =>
    let c := either (Config.crossingAfterUpdate s.free z a) old[a] s.ac[a]
    { actuator := a, force := c.measured.force, tag := c.currentTag }

/-- The sum of the total-force guard (06 R105); a member is read before or after its update (log 9). -/
def State.totalForce (s : State) (old : Vector Channel 8) (z : ZoneId) : Int :=
  ((s.zone z).memberList.map fun a =>
    either (Config.guardAfterUpdate s.free z a) old[a].measured.force s.ac[a].measured.force).sum

/-- The request of a captured crossing at this strobe, if there is one (06 R104). `x` is the zone's
record after its wrap work. -/
def State.captured (s : State) (old : Vector Channel 8) (z : ZoneId) (x : Zone) (n : Nat) :
    Option PhaseRequest :=
  match x.crossing n with
  | none => none
  | some peak =>
    if s.cyclingIn z && x.capture.selects peak && x.counter = 0 then
      some { zone := z, peak, cycle := x.cycleCount, crossing := s.strobeHall, forces := s.forceList old z }
    else none

/-- What the clock's strobe work of one zone gives: its record, the captured crossing, and whether
TOTAL is raised. -/
structure ZoneWork where
  zone    : Zone
  capture : Option PhaseRequest
  total   : Bool

/-- The strobe work of a zone's clock: n is kept (06 R123), wrap, crossing, guard; none of the work while
the clock is stopped. -/
def State.clockWork (s : State) (old : Vector Channel 8) (z : ZoneId) : ZoneWork :=
  let x := s.zone z
  match x.strobeIndex s.strobeHall with
  | none => { zone := { x with guardSum := none, latestN := none }, capture := none, total := false }
  | some n =>
    let x := { x with latestN := some n }
    let y := if isWrap x.inc n then x.wrapWork (x.memberList.any fun a => old[a].wasCycling) else x
    let capture := s.captured old z y n
    match y.window with
    | none => { zone := { y with guardSum := none, guardRun := 0 }, capture, total := false }
    | some (lo, hi) =>
      let g := y.guard lo hi (s.totalForce old z)
      { zone := g.1, capture, total := g.2 }

/-- Whether this strobe is a wrap of a zone (04 R60). -/
def State.wrapsAt (s : State) (z : ZoneId) : Bool :=
  match (s.zone z).strobeIndex s.strobeHall with
  | some n => isWrap (s.zone z).inc n
  | none => false

/-- A zone in HOLD RAMPING OUT moves to HELD at the wrap at which every member that is cycling has
ramped out (06 R112). -/
def State.ramped (s : State) (z : ZoneId) : Bool :=
  let x := s.zone z
  x.state = .hold && x.sub = .rampingOut && s.wrapsAt z &&
  x.memberList.all fun a => !(s.chan a).isCycling || rampedOut (s.chan a).j x.nout

/-- A zone in UNLOAD enters SAFE when every member outside FAULT has reported "at safe load" (06 R115). -/
def State.atSafe (s : State) (outs : Vector Outcomes 8) (z : ZoneId) : Bool :=
  let x := s.zone z
  x.state = .unload && x.memberList.all fun a => (s.chan a).state = .fault || outs[a].atSafe

/-- A zone's own moves at a strobe: HELD, SAFE, and HOLD by an end action (06 R111, R112, R115). -/
def State.zoneMoves (s : State) (outs : Vector Outcomes 8) (z : ZoneId) : State :=
  let x := s.zone z
  if s.ramped z then (s.setZone z { x with sub := .held, clockRunning := false }).alarm
  else if s.atSafe outs z then (s.setZone z { x with state := .safe, unloadFirst := false }).alarm
  else if x.memberList.any fun a => outs[a].holdZone then s.holdZone z .segment
  else if x.state = .unload then s.setZone z { x with unloadFirst := false }
  else s

/-! ### The Crack Monitor's window work (10 R182, R183) -/

/-- The window work of one AE channel at a wrap of its zone: its record, and whether it raises. -/
def AeRecord.windowWork (e : AeRecord) : AeRecord × Bool :=
  let ring := lastN e.ringLen (e.ring ++ [e.cycle])
  if e.threshold ≤ ring.sum then ({ e with ring := [], cycle := 0 }, true)
  else ({ e with ring, cycle := 0 }, false)

/-- Whether an AE channel takes window work at this strobe. -/
def State.windowDue (s : State) (e : AeRecord) : Bool := e.enabled && s.wrapsAt e.zone

/-! ### The events of a strobe's work (log 8 to 11)

The updates, the zones' work, the windows and the frame of one strobe are not ordered among themselves. What
they hand to another block is taken event by event; which updates and which wrap work an event comes after
is open, but for those it needs, and an update or wrap work that one event comes after, each later one
comes after too. -/

/-- What a strobe's work hands to another block. -/
inductive StrobeTask where
  /-- A raise: an ACTUATOR fault, TOTAL, or an AE window. -/
  | raise (source : AlarmSource) (zone : ZoneId) (severity : Severity)
  /-- The sync loss, for one zone (06 R116). -/
  | loss (zone : ZoneId)
  /-- The captured crossings, in zone order (07 R131). -/
  | scans (l : List PhaseRequest)
  /-- The capture frame (11 R191). -/
  | frame (timeSet : Bool)
  deriving DecidableEq, Repr

/-- An event of a strobe's work: what is handed over, and the updates and the zones' wrap work that it
cannot come before. -/
structure StrobeEvent where
  task    : StrobeTask
  updated : List ActId
  wrapped : List ZoneId
  deriving DecidableEq, Repr

/-- The channels and the cycle counts as an event of a strobe's work finds them. -/
structure Seen where
  chans  : Vector Channel 8
  counts : Vector Nat 4
  deriving DecidableEq, Repr

/-- What the i-th event finds: beside what the event before it found, what it cannot come before, and what
the free values say (06 R118, 11 R191; log 10). -/
def Seen.advance (q : Seen) (s : State) (seed i : Nat) (e : StrobeEvent) : Seen :=
  { chans := tabMap (fun a (c : Channel) =>
      if e.updated.contains a || Config.updateSeen seed i a then s.ac[a] else c) q.chans
    counts := tabMap (fun z (n : Nat) =>
      if e.wrapped.contains z || Config.wrapSeen seed i z then (s.zone z).cycleCount else n) q.counts }

/-- A raise of a strobe's work with its stamp: the cycle count when a member is cycling, both as the raise
finds them (06 R117, R118). -/
def Seen.stamp (q : Seen) (s : State) (source : AlarmSource) (z : ZoneId) (severity : Severity) : Raise :=
  { source, zone := z, severity
    cycle := if (s.zone z).memberList.any fun a => q.chans[a].wasCycling then some q.counts[z] else none }

/-- A sync loss reaches one zone (06 R116). -/
def State.syncLoss (s : State) (r : Raise) : State :=
  if (s.zone r.zone).state = .run || (s.zone r.zone).state = .hold then (s.raise r).holdZone r.zone .sync
  else s

/-- What one event hands over is taken. -/
def State.strobeEvent (s : State) (q : Seen) : StrobeTask → State
  | .raise source z severity => s.raise (q.stamp s source z severity)
  | .loss z => s.syncLoss (q.stamp s (.sync z) z .info)
  | .scans l => l.foldl State.phaseRequest s
  | .frame timeSet => s.takeFrame q.chans timeSet

/-- The events of a strobe's work, one after the other. -/
def State.strobeEvents (s : State) (seed i : Nat) (q : Seen) : List StrobeEvent → State
  | [] => s
  | e :: es =>
    let q := q.advance s seed i e
    (s.strobeEvent q e.task).strobeEvents seed (i + 1) q es

/-- The members whose measured force some work of this strobe reads after their update. -/
def State.readAfter (s : State) (after : Nat → ZoneId → ActId → Bool) (z : ZoneId) : List ActId :=
  (s.zone z).memberList.filter fun a => after s.free z a

/-- ACTUATOR raises: of the members that faulted at their update, which they come after (05 R86). -/
def State.faultEvents (s : State) (outs : Vector Outcomes 8) : List StrobeEvent :=
  (tabFilter (fun _ (o : Outcomes) => o.fault) outs).filterMap fun a =>
    (s.zoneOf a).map fun z =>
      { task := .raise (.actuator a) z .major, updated := [a], wrapped := [] }

/-- TOTAL raises (06 R105), after the updates the guard has read. -/
def State.totalEvents (s : State) (works : Vector ZoneWork 4) : List StrobeEvent :=
  (tabFilter (fun _ (w : ZoneWork) => w.total) works).map fun z =>
    { task := .raise (.total z) z .major, updated := s.readAfter Config.guardAfterUpdate z, wrapped := [] }

/-- AE raises (10 R183). -/
def State.windowEvents (s : State) (windows : Vector (AeRecord × Bool) 8) : List StrobeEvent :=
  (tabFilter (fun _ (w : AeRecord × Bool) => w.2) windows).map fun n =>
    { task := .raise (.ae n) s.cm.aes[n].zone s.cm.aes[n].severity, updated := [], wrapped := [] }

/-- The sync loss for each zone that it can reach: a zone started at this strobe may be told of it before
its start, and then it is no zone in RUN (06 R116, log 11). -/
def State.lossEvents (s : State) (started : ZoneId → Bool) (lost : Bool) : List StrobeEvent :=
  if lost then
    ((List.finRange 4).filter fun z => !started z || Config.lossAfterStart s.free z).map fun z =>
      { task := .loss z, updated := [], wrapped := [] }
  else []

/-- The captured crossings, after the wrap work that gave their counts and the updates their force lists
have read (06 R104). -/
def State.scanEvents (s : State) (works : Vector ZoneWork 4) : List StrobeEvent :=
  let zones := tabFilter (fun _ (w : ZoneWork) => w.capture.isSome) works
  if zones.isEmpty then []
  else
    [{ task := .scans (works.toList.filterMap ZoneWork.capture)
       updated := (zones.map (s.readAfter Config.crossingAfterUpdate)).flatten, wrapped := zones }]

/-- The capture frame, when a block takes one (11 R191). -/
def State.frameEvents (s : State) (timeSet : Bool) : List StrobeEvent :=
  if s.cu.active.isSome then [{ task := .frame timeSet, updated := [], wrapped := [] }] else []

/-! ### The strobe -/

/-- The part after the updates of a strobe. -/
def State.updated (s : State) (started : ZoneId → Bool) : State :=
  { s with ac := tabMap (fun _ (u : Channel × Outcomes) => u.1) (s.updates started) }

/-- The strobe's work after the Time Base's part and the start decisions: the updates, the clocks' work, the
windows, the zones' own moves, the events. The model's choices: a zone's own move comes before the raises of
the same strobe (log 40), and so does its clock's work, which a raise that stops the clock does not undo (log
42). -/
def State.strobeWork (s : State) (started : ZoneId → Bool) (lost timeSet : Bool) : State :=
  let outs : Vector Outcomes 8 := tabMap (fun _ (u : Channel × Outcomes) => u.2) (s.updates started)
  let t := s.updated started
  let works : Vector ZoneWork 4 := tabMap (fun z _ => t.clockWork s.ac z) t.zs.zones
  let windows : Vector (AeRecord × Bool) 8 :=
    tabMap (fun _ (e : AeRecord) => if t.windowDue e then e.windowWork else (e, false)) t.cm.aes
  let t := { t with
    zs := { t.zs with zones := tabMap (fun _ (w : ZoneWork) => w.zone) works }
    cm := { t.cm with aes := tabMap (fun _ (w : AeRecord × Bool) => w.1) windows } }
  let events := t.faultEvents outs ++ t.totalEvents works ++ t.windowEvents windows ++
    t.lossEvents started lost ++ t.scanEvents works ++ t.frameEvents timeSet
  let moved := (List.finRange 4).foldl (fun u z => u.zoneMoves outs z) t
  moved.bumpFree.strobeEvents moved.free 0
    { chans := s.ac, counts := tabMap (fun _ (x : Zone) => x.cycleCount) s.zs.zones }
    (moved.inOrder events)

/-- A servo strobe (02 R26); `lost` tells that sync is lost at it (02 R29). -/
def State.strobe (s : State) (src : StrobeSource) (lost : Bool) : State :=
  let t := s.tbStrobe src
  let u := t.decideStarts
  let started (z : ZoneId) : Bool := (t.zone z).state = .ready && (u.zone z).state = .run
  u.strobeWork started lost s.tb.pendingSet.isSome

/-- OSCILLATOR_STROBE: the oscillator schedule issues a strobe (02 R27, R29). -/
def execOscillatorStrobe (s : State) : Outcome State Fault Refusal :=
  if s.tb.onSchedule then .next (s.atExpiry .strobe fun t => arbitrate (t.strobe .oscillator false))
  else .next s

/-- The Time Base at a substitute strobe: the counts, and sync lost at the eighth in a row (02 R28, R29). -/
def TimeBase.substitute (t : TimeBase) : TimeBase :=
  let run := bump 8 t.subRun
  { t with missCount := bump Config.max32 t.missCount, subRun := run, syncLost := 8 ≤ run, regainRun := 0 }

/-- SUBSTITUTE_STROBE: the 750 microseconds run out with no strobe-making edge (02 R28). -/
def execSubstituteStrobe (s : State) : Outcome State Fault Refusal :=
  if s.tb.onSchedule then .next s
  else
    .next (s.atExpiry .strobe fun t =>
      let tb := t.tb.substitute
      arbitrate ({ t with tb }.strobe .substitute tb.syncLost))

/-- An early edge is ignored and counted (02 R28, R30). -/
def TimeBase.early (t : TimeBase) : TimeBase := { t with earlyCount := bump Config.max16 t.earlyCount }

/-- The Zone Supervisor is told that sync is regained: SYNC leaves the reasons of every zone (06 R116). -/
def State.dropSyncReason (s : State) (z : ZoneId) : State :=
  let x := s.zone z
  if x.reasons.sync then (s.setZone z { x with reasons := { x.reasons with sync := false } }).alarm else s

/-- Sync is regained by the sixteenth edge, which is itself a strobe unless the oscillator strobe of
the same moment has been taken (02 R30). -/
def State.regain (s : State) : State :=
  let t := { s with tb := { s.tb with syncLost := false, regainRun := 0, subRun := 0 } }
  let u := (List.finRange 4).foldl State.dropSyncReason t
  if s.osc = s.tb.lastStrobeAt then u else u.strobe .edge false

/-- A SYNC edge while sync is lost (02 R30). -/
def State.lostEdge (s : State) : State :=
  if s.tb.regainRun = 0 then { s with tb := { s.tb with regainRun := 1, lastEdgeAt := s.osc } }
  else if s.osc - s.tb.lastEdgeAt < Config.edgeMin then { s with tb := s.tb.early }
  else if 15 ≤ s.tb.regainRun then s.regain
  else { s with tb := { s.tb with regainRun := s.tb.regainRun + 1, lastEdgeAt := s.osc } }

/-- SYNC_EDGE: a rising edge on SYNC; only a FOLLOWER looks at it (02 R27, R28, R30). -/
def execSyncEdge (s : State) : Outcome State Fault Refusal :=
  match s.tb.role with
  | .internal | .master => .next s
  | .follower =>
    if s.tb.syncLost then .next (arbitrate s.lostEdge)
    else if s.osc - s.tb.lastStrobeAt < Config.edgeMin then .next { s with tb := s.tb.early }
    else .next (arbitrate ({ s with tb := { s.tb with subRun := 0 } }.strobe .edge false))

/-- SYNC_PULSE_END: a MASTER drives SYNC low again 20 microseconds after its strobe (02 R27). -/
def execSyncPulseEnd (s : State) : Outcome State Fault Refusal :=
  .next (s.atExpiry .syncPulse fun t => { t with tb := { t.tb with line := .low } })

/-- REGAIN_RUN_TIMEOUT: 750 microseconds after the previous counted edge the run returns to 0 (02 R30). -/
def execRegainRunTimeout (s : State) : Outcome State Fault Refusal :=
  .next (s.atExpiry .regain fun t => { t with tb := { t.tb with regainRun := 0 } })

end Sys2Proof.Machine
end

