-- ==== Sys2Proof/Machine/TimeRequests.lean ====
section
/-! DEFINITION. The Time Base's requests (02 R32 to R34). -/

namespace Sys2Proof.Machine
open Host

/-- Whether some zone holds a pending start time. -/
def State.startPending (s : State) : Bool :=
  (List.finRange 4).any fun z => (s.zone z).pendingStart.isSome

/-- The answer to SET TIME. -/
def answerSetTime (r : Request) (s : State) : Answer :=
  let T := field r.payload 0 8
  if r.payload.length ≠ 8 then .no .malformed
  else if T % 500 ≠ 0 || 9000000000000000000 < T then .no .range
  else if s.anyZone ZoneState.busy || s.startPending then .no .state
  else if T ≤ s.hall then .no .late
  else
    .accepted { s with tb := { s.tb with pendingSet := some T } } (encOpt 8 (s.tb.pendingSet.map (encN 8)))

/-- SET TIME (02 R32). -/
def execSetTime (s : State) : Outcome State Fault Refusal := takes 0x10 answerSetTime s

/-- What READ TIME returns (02 R33). -/
def State.timeReading (s : State) : Wire :=
  encN 8 s.hall ++ encN 8 s.tb.strobeNumber ++ encN 2 s.subPeriod ++ encN 1 s.tb.role.code ++
  encFlag s.tb.syncLost ++ encN 1 s.tb.source.code ++ encN 1 s.tb.subRun ++ encN 1 s.tb.regainRun ++
  encN 4 s.tb.missCount ++ encN 2 s.tb.earlyCount ++ encOpt 8 (s.tb.pendingSet.map (encN 8))

/-- READ TIME (02 R33). -/
def execReadTime (s : State) : Outcome State Fault Refusal := takes 0x11 (answerRead State.timeReading) s

/-- The Time Base in a new role (02 R34): a part that was MASTER and stays so goes on driving SYNC; any
other releases it, and a new MASTER begins to drive it at its next strobe. -/
def TimeBase.inRole (t : TimeBase) (role : SyncRole) : TimeBase :=
  { t with
    role
    line := if t.role = .master && role = .master then t.line else .released
    syncLost := false
    subRun := 0
    regainRun := 0
    missCount := 0
    earlyCount := 0 }

/-- The answer to SET SYNC ROLE. -/
def answerSetSyncRole (r : Request) (s : State) : Answer :=
  if r.payload.length ≠ 1 then .no .malformed
  else
    match SyncRole.ofCode (field r.payload 0 1) with
    | none => .no .range
    | some role =>
      if s.anyZone (· ≠ .idle) then .no .state
      else .accepted { s with tb := s.tb.inRole role } (encN 1 s.tb.role.code)

/-- SET SYNC ROLE (02 R34). -/
def execSetSyncRole (s : State) : Outcome State Fault Refusal := takes 0x12 answerSetSyncRole s

end Sys2Proof.Machine
end

