-- ==== Sys2Proof/Machine/ZoneRequests.lean ====
section
/-! DEFINITION. The Zone Supervisor's requests (06 R99 to R101, R106 to R114, R122, R123). The reply of
an accepted zone request begins with the zone's state after it (06 R106, log 14). -/

namespace Sys2Proof.Machine
open Host

/-- A request whose payload has `len` bytes and begins with a zone number: its tests, then `f`. -/
def onZone (len : Nat) (r : Request) (f : ZoneId → Answer) : Answer :=
  if r.payload.length ≠ len then .no .malformed
  else
    match index? 4 (field r.payload 0 1) with
    | some z => f z
    | none => .no .range

/-- A zone request accepted: the state after it, the zone's state first, then its results. -/
def zoneReply (t : State) (z : ZoneId) (results : Wire) : Answer :=
  .accepted t (encN 1 (t.zone z).state.code ++ results)

/-! ### Configuration (06 R99 to R101) -/

/-- The fields of DEFINE ZONE. -/
structure ZoneConfig where
  members    : Byte
  nin        : Nat
  nout       : Nat
  unloadRate : Nat
  window     : Option (Int × Int)
  capture    : PhaseCapture
  everyNth   : Nat

def inTotal (x : Int) : Bool := -24000000 ≤ x && x ≤ 24000000

/-- The total-force window of a payload: its presence byte stands at offset 8; none when out of range. -/
def readWindow (p : List Byte) : Option (Option (Int × Int)) :=
  match flag? (field p 8 1) with
  | none => none
  | some false => some none
  | some true =>
    let lo := fieldI p 9 4
    let hi := fieldI p 13 4
    if inTotal lo && inTotal hi && lo ≤ hi then some (some (lo, hi)) else none

/-- The fields read from a payload; none when one is out of range. -/
def readZoneConfig (p : List Byte) : Option ZoneConfig :=
  let unloadRate := field p 4 4
  let everyNth := field p 18 2
  match readWindow p, PhaseCapture.ofCode (field p 17 1) with
  | some window, some capture =>
    if 1 ≤ unloadRate && unloadRate ≤ 1000000 && 1 ≤ everyNth then
      some { members := byteAt p 1, nin := field p 2 1, nout := field p 3 1, unloadRate, window
             capture, everyNth }
    else none
  | _, _ => none

/-- A zone after DEFINE ZONE. -/
def Zone.define (x : Zone) (c : ZoneConfig) : Zone :=
  { x with
    members := c.members, nin := c.nin, nout := c.nout, unloadRate := c.unloadRate, window := c.window
    capture := c.capture, everyNth := c.everyNth, counter := 0, guardRun := 0 }

/-- Whether a mask selects an actuator that is a member of another zone. -/
def State.takenElsewhere (s : State) (z : ZoneId) (m : Byte) : Bool :=
  (List.finRange 4).any fun y => y ≠ z && (s.zone y).members &&& m ≠ 0

/-- The answer to DEFINE ZONE. -/
def answerDefineZone (r : Request) (s : State) : Answer :=
  onZone 20 r fun z =>
    match readZoneConfig r.payload with
    | none => .no .range
    | some c =>
      if (s.zone z).state ≠ .idle || s.takenElsewhere z c.members then .no .state
      else
        zoneReply (s.setZone z ((s.zone z).define c)) z [some (s.zone z).members]

/-- DEFINE ZONE (06 R99). -/
def execDefineZone (s : State) : Outcome State Fault Refusal := takes 0x30 answerDefineZone s

/-- The answer to SET CYCLE RATE. -/
def answerSetCycleRate (r : Request) (s : State) : Answer :=
  onZone 3 r fun z =>
    let rate := field r.payload 1 2
    if rate < 10 || 20000 < rate then .no .range
    else if (s.zone z).state.busy then .no .state
    else zoneReply (s.setZone z { s.zone z with rate, inc := phaseInc rate }) z (encN 2 (s.zone z).rate)

/-- SET CYCLE RATE (06 R100). -/
def execSetCycleRate (s : State) : Outcome State Fault Refusal := takes 0x31 answerSetCycleRate s

/-- The answer to RESET CYCLE COUNT. -/
def answerResetCycleCount (r : Request) (s : State) : Answer :=
  onZone 1 r fun z =>
    if (s.zone z).state ≠ .idle then .no .state
    else
      zoneReply (s.setZone z { s.zone z with cycleCount := 0, missed := 0 }) z
        (encN 4 (s.zone z).cycleCount ++ encN 2 (s.zone z).missed)

/-- RESET CYCLE COUNT (06 R101). -/
def execResetCycleCount (s : State) : Outcome State Fault Refusal := takes 0x38 answerResetCycleCount s

/-! ### Preparing and starting (06 R107, R108) -/

/-- A zone after PREPARE. -/
def Zone.prepare (x : Zone) : Zone :=
  { x with state := .ready, reasons := HoldReasons.empty, pendingStart := none, clockRunning := false }

/-- A member as PREPARE leaves it: enabled when it is OFF. -/
def Channel.prepare (c : Channel) : Channel := if c.state = .off then c.toStandby else c

/-- A zone prepared: READY, and each member that is OFF enabled (06 R107). -/
def State.prepareZone (s : State) (z : ZoneId) : State :=
  ((s.setZone z (s.zone z).prepare).mapMembers z Channel.prepare).alarm

/-- The answer to PREPARE. -/
def answerPrepare (r : Request) (s : State) : Answer :=
  onZone 1 r fun z =>
    let ms := (s.zone z).memberList
    if (s.zone z).state ≠ .idle || ms.isEmpty ||
        ms.any (fun a => (s.chan a).state = .fault || !(s.chan a).seen) then .no .state
    else if s.scv.zeroOp.isSome then .no .busy
    else
      let t := s.prepareZone z
      zoneReply t z (encList (ms.map fun a =>
        encFlag ((s.chan a).state = .off) ++ encI 4 (t.chan a).prev))

/-- PREPARE (06 R107). -/
def execPrepare (s : State) : Outcome State Fault Refusal := takes 0x32 answerPrepare s

/-- The answer to START: at the time T of its payload, or NOW. -/
def answerStart (r : Request) (s : State) : Answer :=
  onZone 10 r fun z =>
    match flag? (field r.payload 1 1) with
    | none => .no .range
    | some named =>
      let T := field r.payload 2 8
      let x := s.zone z
      if named && (T % 500 ≠ 0 || s.hall + 60000000 < T) then .no .range
      else if x.state ≠ .ready || s.standing z || s.zs.overflow then .no .state
      else if x.pendingStart.isSome || s.scv.zeroOp.isSome || (named && s.tb.pendingSet.isSome) then
        .no .busy
      else if named && T ≤ s.hall then .no .late
      else
        let at' := if named then T else s.nextHall
        zoneReply (s.setZone z { x with pendingStart := some at', lastStart := .none }) z (encN 8 at')

/-- START (06 R108). -/
def execStart (s : State) : Outcome State Fault Refusal := takes 0x33 answerStart s

/-! ### Hold, resume, unload, release (06 R110 to R114) -/

/-- The answer to HOLD. The model's choice (log 38): the reply sends the reasons for a HOLD taken in RUN too. -/
def answerHold (r : Request) (s : State) : Answer :=
  onZone 1 r fun z =>
    if (s.zone z).state = .run || (s.zone z).state = .hold then
      let t := s.holdZone z .request
      zoneReply t z (encN 1 (t.zone z).reasons.code)
    else .no .state

/-- HOLD (06 R111). -/
def execHold (s : State) : Outcome State Fault Refusal := takes 0x34 answerHold s

/-- The reasons that would remain at a RESUME (06 R113). -/
def State.remaining (s : State) (z : ZoneId) : HoldReasons :=
  let x := s.zone z
  { request := false
    segment := false
    alarm := x.reasons.alarm && (s.standing z || s.zs.overflow)
    sync := x.reasons.sync && s.tb.syncLost }

/-- A zone after RESUME: RUN, its clock restarted with its origin at the next strobe (06 R102, R113). -/
def Zone.resume (x : Zone) (next : Nat) : Zone :=
  { x with
    state := .run, reasons := HoldReasons.empty, clockRunning := true, origin := next, guardRun := 0 }

/-- The answer to RESUME. -/
def answerResume (r : Request) (s : State) : Answer :=
  onZone 1 r fun z =>
    let left := s.remaining z
    if (s.zone z).state ≠ .hold then .no .state
    else if left ≠ HoldReasons.empty || s.standing z || s.zs.overflow then
      .refused .state (encN 1 left.code)
    else zoneReply (s.setZone z ((s.zone z).resume s.nextHall)).alarm z []

/-- RESUME (06 R113). -/
def execResume (s : State) : Outcome State Fault Refusal := takes 0x35 answerResume s

/-- The answer to UNLOAD. -/
def answerUnload (r : Request) (s : State) : Answer :=
  onZone 1 r fun z =>
    let x := (s.zone z).state
    if x = .ready || x = .run || x = .hold then zoneReply (s.unloadZone z false) z (encN 1 x.code)
    else .no .state

/-- UNLOAD (06 R114). -/
def execUnload (s : State) : Outcome State Fault Refusal := takes 0x36 answerUnload s

/-- A member as RELEASE from SAFE leaves it: STANDBY when it is ACTIVE. -/
def Channel.release (c : Channel) : Channel := if c.state = .active then { c with state := .standby } else c

/-- A zone released from READY, its pending start ended, or from SAFE, its ACTIVE members in STANDBY
(06 R110). -/
def State.releaseZone (s : State) (z : ZoneId) : State :=
  let x := s.zone z
  if x.state = .ready then
    (s.setZone z { x with state := .idle, pendingStart := none, lastStart := .none }).alarm
  else ((s.setZone z { x with state := .idle }).mapMembers z Channel.release).alarm

/-- The answer to RELEASE. -/
def answerRelease (r : Request) (s : State) : Answer :=
  onZone 1 r fun z =>
    let x := (s.zone z).state
    if x = .ready || x = .safe then zoneReply (s.releaseZone z) z (encN 1 x.code)
    else .no .state

/-- RELEASE (06 R110). -/
def execRelease (s : State) : Outcome State Fault Refusal := takes 0x37 answerRelease s

/-! ### Readings (06 R123) -/

/-- n, the phase index and the wrap number at the latest strobe, while the clock runs and ran at that
strobe (06 R123, log 12). -/
def State.encClock (s : State) (z : ZoneId) : Wire :=
  let x := s.zone z
  encOpt 18 ((if x.clockRunning then x.latestN else none).map fun n =>
    encN 8 n ++ encN 2 (phaseIndex x.inc n) ++ encN 8 (wrapNumber x.inc n))

/-- The fields of the zone record, in the order of 06 R98. -/
def Zone.enc (x : Zone) : Wire :=
  encN 1 x.state.code ++ encN 1 x.sub.code ++ [some x.members] ++ encN 2 x.rate ++ encN 4 x.inc ++
  encN 1 x.nin ++ encN 1 x.nout ++ encN 4 x.unloadRate ++
  encOpt 8 (x.window.map fun w => encI 4 w.1 ++ encI 4 w.2) ++ encN 1 x.capture.code ++
  encN 2 x.everyNth ++ encN 2 x.counter ++ encN 1 (if x.clockRunning then 0 else 1) ++ encN 8 x.origin ++
  encN 4 x.cycleCount ++ encN 1 x.reasons.code ++ encOpt 8 (x.pendingStart.map (encN 8)) ++
  encN 1 x.lastStart.code ++ encN 2 x.missed ++ encN 1 x.guardRun

/-- The number of members that were cycling at their latest update. -/
def State.cyclingCount (s : State) (z : ZoneId) : Nat :=
  ((s.zone z).memberList.filter fun a => (s.chan a).wasCycling).length

/-- The answer to READ ZONE. -/
def answerReadZone (r : Request) (s : State) : Answer :=
  onZone 1 r fun z =>
    let x := s.zone z
    .accepted s (x.enc ++ encList (x.memberList.map fun a => encN 1 a) ++ s.encClock z ++
      encN 1 (s.cyclingCount z) ++ encOpt 4 (x.guardSum.map (encI 4)))

/-- READ ZONE (06 R123). -/
def execReadZone (s : State) : Outcome State Fault Refusal := takes 0x39 answerReadZone s

/-- The answer to READ ALARMS. -/
def answerReadAlarms (r : Request) (s : State) : Answer :=
  if r.payload.length ≠ 0 then .no .malformed
  else .accepted s (encList (s.zs.alarms.map AlarmEntry.enc) ++ encFlag s.zs.overflow)

/-- READ ALARMS (06 R123). -/
def execReadAlarms (s : State) : Outcome State Fault Refusal := takes 0x3A answerReadAlarms s

/-! ### ACK ALARM (06 R122) -/

/-- A rule's latch cleared (09 R172). -/
def State.clearLatch (s : State) (n : RuleId) : State :=
  s.setRule n { s.lw.rules[n] with latched := false }

/-- The latch of an acknowledged source is cleared when it is LIMIT n. -/
def State.clearLatchOf (s : State) : AlarmSource → State
  | .limit n => s.clearLatch n
  | .loop _ | .ae _ | .actuator _ | .total _ | .sync _ => s

/-- The entries that satisfy `p` leave the list. -/
def State.removeAlarms (s : State) (p : AlarmEntry → Bool) : State :=
  { s with zs := { s.zs with alarms := s.zs.alarms.filter fun e => !p e } }

/-- The reply of ACK ALARM: the number removed, and the overflow flag after it. -/
def ackReply (s t : State) : Answer :=
  .accepted t (encN 1 (s.zs.alarms.length - t.zs.alarms.length) ++ encFlag t.zs.overflow)

/-- One source acknowledged. -/
def State.ackSource (s : State) (x : AlarmSource) : State :=
  (s.removeAlarms fun e => e.source = x).clearLatchOf x

/-- Every entry of a zone acknowledged. -/
def State.ackZone (s : State) (z : ZoneId) : State :=
  (s.zs.alarms.filter fun e => e.zone = z).foldl (fun t e => t.clearLatchOf e.source)
    (s.removeAlarms fun e => e.zone = z)

/-- The overflow flag cleared; ALARM-pending when it was set (01 R15). -/
def State.ackOverflow (s : State) : State :=
  let t := { s with zs := { s.zs with overflow := false } }
  if s.zs.overflow then t.alarm else t

/-- The answer to ACK ALARM. -/
def answerAckAlarm (r : Request) (s : State) : Answer :=
  let p := r.payload
  if p.length ≠ 4 then .no .malformed
  else
    match field p 0 1 with
    | 0 =>
      match AlarmSource.ofCode (field p 1 1) (field p 2 1) with
      | some x => ackReply s (s.ackSource x)
      | none => .no .range
    | 1 =>
      match index? 4 (field p 3 1) with
      | some z => ackReply s (s.ackZone z)
      | none => .no .range
    | 2 => ackReply s s.ackOverflow
    | _ => .no .range

/-- ACK ALARM (06 R122). -/
def execAckAlarm (s : State) : Outcome State Fault Refusal := takes 0x3B answerAckAlarm s

end Sys2Proof.Machine
end

