-- ==== Sys2Proof/Machine/Dispatch.lean ====
section
/-! DEFINITION. The dispatch: one arm per command, each one direct call of the command's meaning. -/

namespace Sys2Proof.Machine
open Host

/-- The effect of a command on everything but the queue of waiting commands. -/
def exec (i : Instr) (s : State) : Host.Outcome State Fault Refusal :=
  match i with
  | .byteReceived b stop => Sys2Proof.Machine.execByteReceived b stop s
  | .gap => Sys2Proof.Machine.execGap s
  | .lineBreak => Sys2Proof.Machine.execLineBreak s
  | .unknownKindRequest => Sys2Proof.Machine.execUnknownKindRequest s
  | .uplinkFrameEnd => Sys2Proof.Machine.execUplinkFrameEnd s
  | .restartEffect => Sys2Proof.Machine.execRestartEffect s
  | .reset addr => Sys2Proof.Machine.execReset addr s
  | .identify => Sys2Proof.Machine.execIdentify s
  | .status => Sys2Proof.Machine.execStatus s
  | .setGroup => Sys2Proof.Machine.execSetGroup s
  | .setReporting => Sys2Proof.Machine.execSetReporting s
  | .readLinkCounts => Sys2Proof.Machine.execReadLinkCounts s
  | .restart => Sys2Proof.Machine.execRestart s
  | .oscillatorStrobe => Sys2Proof.Machine.execOscillatorStrobe s
  | .syncPulseEnd => Sys2Proof.Machine.execSyncPulseEnd s
  | .syncEdge => Sys2Proof.Machine.execSyncEdge s
  | .substituteStrobe => Sys2Proof.Machine.execSubstituteStrobe s
  | .regainRunTimeout => Sys2Proof.Machine.execRegainRunTimeout s
  | .setTime => Sys2Proof.Machine.execSetTime s
  | .readTime => Sys2Proof.Machine.execReadTime s
  | .setSyncRole => Sys2Proof.Machine.execSetSyncRole s
  | .feedbackArrival a force stroke status => Sys2Proof.Machine.execFeedbackArrival a force stroke status s
  | .configureActuator => Sys2Proof.Machine.execConfigureActuator s
  | .enableActuator => Sys2Proof.Machine.execEnableActuator s
  | .disableActuator => Sys2Proof.Machine.execDisableActuator s
  | .setDryRun => Sys2Proof.Machine.execSetDryRun s
  | .loadSegments => Sys2Proof.Machine.execLoadSegments s
  | .flushProgram => Sys2Proof.Machine.execFlushProgram s
  | .clearFault => Sys2Proof.Machine.execClearFault s
  | .readActuator => Sys2Proof.Machine.execReadActuator s
  | .defineZone => Sys2Proof.Machine.execDefineZone s
  | .setCycleRate => Sys2Proof.Machine.execSetCycleRate s
  | .prepare => Sys2Proof.Machine.execPrepare s
  | .start => Sys2Proof.Machine.execStart s
  | .hold => Sys2Proof.Machine.execHold s
  | .resume => Sys2Proof.Machine.execResume s
  | .unload => Sys2Proof.Machine.execUnload s
  | .release => Sys2Proof.Machine.execRelease s
  | .resetCycleCount => Sys2Proof.Machine.execResetCycleCount s
  | .readZone => Sys2Proof.Machine.execReadZone s
  | .readAlarms => Sys2Proof.Machine.execReadAlarms s
  | .ackAlarm => Sys2Proof.Machine.execAckAlarm s
  | .freeScanExpiry => Sys2Proof.Machine.execFreeScanExpiry s
  | .bankAnswer bank values => Sys2Proof.Machine.execBankAnswer bank values s
  | .bankTimeout bank => Sys2Proof.Machine.execBankTimeout bank s
  | .bankSettlingEnd bank => Sys2Proof.Machine.execBankSettlingEnd bank s
  | .setScanList => Sys2Proof.Machine.execSetScanList s
  | .setScanInterval => Sys2Proof.Machine.execSetScanInterval s
  | .bankReset => Sys2Proof.Machine.execBankReset s
  | .writeTemplate => Sys2Proof.Machine.execWriteTemplate s
  | .setDefaultProfile => Sys2Proof.Machine.execSetDefaultProfile s
  | .validateTemplates => Sys2Proof.Machine.execValidateTemplates s
  | .zeroGauges => Sys2Proof.Machine.execZeroGauges s
  | .readGauges => Sys2Proof.Machine.execReadGauges s
  | .reportDelayRunOut => Sys2Proof.Machine.execReportDelayRunOut s
  | .setLimitRule => Sys2Proof.Machine.execSetLimitRule s
  | .loopSample levels => Sys2Proof.Machine.execLoopSample levels s
  | .aeHit ch => Sys2Proof.Machine.execAeHit ch s
  | .configureLoop => Sys2Proof.Machine.execConfigureLoop s
  | .configureAe => Sys2Proof.Machine.execConfigureAe s
  | .readCrackStatus => Sys2Proof.Machine.execReadCrackStatus s
  | .configureCapture => Sys2Proof.Machine.execConfigureCapture s
  | .trigger => Sys2Proof.Machine.execTrigger s
  | .readCapture => Sys2Proof.Machine.execReadCapture s
  | .releaseBlock => Sys2Proof.Machine.execReleaseBlock s
  | .captureStatus => Sys2Proof.Machine.execCaptureStatus s
  | .lineReturnsToMark => Sys2Proof.Machine.execLineReturnsToMark s

end Sys2Proof.Machine
end

