-- ==== Sys2Proof/Machine/Step.lean ====
section
/-! DEFINITION. One step of the part: the command at the front of the queue is taken; with no command
waiting, one microsecond of the oscillator passes (log 3). -/

namespace Sys2Proof.Machine

/-- Take the command at the front of the queue, with the queue's rest behind it. With no command
waiting the block issues nothing and its oscillator runs on by a microsecond, but not past the due
moment of a timer (02 R25, log 3 and 4). -/
def step (s : State) : Host.Outcome State Fault Refusal :=
  match s.pending with
  | [] => .next s.tick
  | c :: rest => exec c { s with pending := rest }

/-- `s` with the command that the word spells put at the front of its queue; `s` itself where the
word spells none, which is every word, since no row of the table gives bits. -/
def State.withFetchWord (s : State) (nbits w : Nat) : State :=
  match decodeTableWord nbits w with
  | some c => { s with pending := c :: s.pending }
  | none => s

end Sys2Proof.Machine
end

