-- ==== Sys2Proof/Safety.lean ====
section
/-! DEFINITION. What counts as a safe run of the part: it never stops; and the invariants that every
step keeps. -/

namespace Sys2Proof.Machine

/-- The outcome is a next state. -/
def Goes (o : Host.Outcome State Fault Refusal) : Prop := ∃ t, o = .next t

/-- `n` steps from `s` neither fault nor are refused. -/
def RunsFor (n : Nat) (s : State) : Prop := Goes (Sys2Proof.core.run n s)

/-- The alarm list holds at most 16 entries, no two with the same source (06 R117). -/
def AlarmListOk (s : State) : Prop :=
  s.zs.alarms.length ≤ Config.alarmCapacity ∧ (s.zs.alarms.map AlarmEntry.source).Nodup

/-- No zone is in RUN while the list holds a MINOR or MAJOR entry for it (06 R113). -/
def NoRunUnderAlarm (s : State) : Prop := ∀ z, (s.zone z).state = .run → s.standing z = false

/-- The hold-reason set is empty in every state except HOLD (06 R98). -/
def ReasonsOnlyInHold (s : State) : Prop :=
  ∀ z, (s.zone z).state ≠ .hold → (s.zone z).reasons = HoldReasons.empty

/-- An actuator is a member of at most one zone (06 R99). -/
def OneZoneEach (s : State) : Prop :=
  ∀ y z : ZoneId, y ≠ z → (s.zone y).members &&& (s.zone z).members = 0

/-- The gain stays within its bounds (04 R74), the queue within 32 segments (03 R36), the valve output
within its 32,767 units (04 R70, R72); it is 0 in OFF, in FAULT and in dry run (04 R72); and F min does not
pass F max (05 R92). -/
structure ChannelOk (c : Channel) : Prop where
  gainLow : 8192 ≤ c.gain
  gainHigh : c.gain ≤ 32768
  queue : c.queueLen ≤ Config.programQueue
  limits : c.cfg.fMin ≤ c.cfg.fMax
  valveLow : -Config.valveMax ≤ c.valve
  valveHigh : c.valve ≤ Config.valveMax
  valve : c.state = .off ∨ c.state = .fault ∨ c.dryRun = true → c.valve = 0

/-- Every channel is as `ChannelOk` says. -/
def ChannelsOk (s : State) : Prop := ∀ a, ChannelOk (s.chan a)

/-- The request queue holds at most four requests (01 R8); the reply queue, its reservations counted, at
most four places (01 R9, R12); each reservation belongs to a deferred operation in flight. -/
structure LinkOk (s : State) : Prop where
  requests : s.lp.requests.length ≤ Config.linkQueue
  replies : s.lp.replies.length + s.lp.reservations ≤ Config.linkQueue
  reserved : s.lp.reservations =
    (match s.scv.zeroOp with
      | some ⟨some _⟩ => 1
      | _ => 0) +
    (match s.se.bankReset with
      | some ⟨_, some _⟩ => 1
      | _ => 0)

/-- The Strain Queue's capacity (09 R160). -/
def StrainOk (s : State) : Prop :=
  s.sq.entriesHeld ≤ Config.strainEntries ∧ s.sq.records.length ≤ Config.strainRecords

/-- A block is RECORDING or POST. -/
def Block.isActive (b : Block) : Prop := b.state = .recording ∨ b.state = .post

/-- At most one block is RECORDING or POST, and none is in a stall (11 R192, R198). -/
structure CaptureOk (s : State) : Prop where
  one : ∀ a b : BlockId, s.cu.blocks[a].isActive → s.cu.blocks[b].isActive → a = b
  stall : s.cu.stalled = true → ∀ b : BlockId, ¬ s.cu.blocks[b].isActive

end Sys2Proof.Machine
end

