-- ==== Sys2Proof/Certificates/Slice0/Obligations.lean ====
section
/-! DEFINITION. The statements for the provers. A request's statement gives its answer as a whole state:
`accepted`, `refused` and `deferred` are the next state with that answer given, `RepliesAndWaitingRequests`
says what giving it does, and `ArbiterPriority` what the arbiter behind it does. -/

namespace Sys2Proof.Statements
open Sys2Proof Sys2Proof.Machine Host

/-- What a command answers. -/
abbrev Result := Outcome State Fault Refusal

/-- The request `r`, of kind `k`, stands at the head of the request queue and may be taken now (01 R9). -/
def AtHead (s : State) (k : Byte) (r : Request) : Prop :=
  (∃ rest, s.lp.requests = r :: rest) ∧ r.kind = k ∧ s.lp.restart = .idle ∧
  (r.cls = .broadcast ∨ s.lp.replies.length + s.lp.reservations < 4)

/-- The head request `r` taken and accepted with the results `w`; `t` is the part after its effect. -/
def accepted (s : State) (r : Request) (t : State) (w : Wire) : Result :=
  .next (arbitrate (s.dequeued.answer r (.accepted t w)))

/-- The head request `r` taken and refused; `extra` is what the reply adds (12 R205). -/
def refusedWith (s : State) (r : Request) (why : Reason) (extra : Wire) : Result :=
  .next (arbitrate (s.dequeued.answer r (.refused why extra)))

/-- The head request `r` taken and refused with the reason alone. -/
def refused (s : State) (r : Request) (why : Reason) : Result := refusedWith s r why []

/-- The head request `r` taken and its operation started; `t` is the part after that. -/
def deferred (s : State) (r : Request) (t : State) : Result :=
  .next (arbitrate (s.dequeued.answer r (.deferred t)))

/-- A zone that is RUN, HOLD or UNLOAD. -/
def Busy (s : State) (z : ZoneId) : Prop :=
  (s.zone z).state = .run ∨ (s.zone z).state = .hold ∨ (s.zone z).state = .unload

/-- An unacknowledged MINOR or MAJOR entry of the zone stands, or the overflow flag is set (06 R108, R113).
-/
def Blocked (s : State) (z : ZoneId) : Prop :=
  (∃ e ∈ s.zs.alarms, e.zone = z ∧ e.severity ≠ .info) ∨ s.zs.overflow = true

/-- The place reserved for a deferred reply, unless the request came by broadcast (01 R12). -/
def reserved (s : State) (r : Request) : State :=
  if r.cls = .broadcast then s
  else { s with lp := { s.lp with reservations := s.lp.reservations + 1 } }

/-- The tag kept for a deferred reply: none by broadcast (01 R12). -/
def keptTag (r : Request) : Option Byte := if r.cls = .broadcast then none else some r.tag

/-- The part after a deferred operation's reply of kind `kind` with the results `w`: by broadcast nothing;
otherwise the reserved place becomes a reply at the tail (01 R12). -/
def deferredReplied (s : State) (tag : Option Byte) (kind : Byte) (w : Wire) : State :=
  match tag with
  | none => s
  | some n => { s with
      free := s.free + 1
      lp := { s.lp with
        reservations := s.lp.reservations - 1
        replies := s.lp.replies ++ [⟨n, kind :: 0 :: fillFrom s.free 2 w, false⟩] } }

/-- The Time Base after a strobe from `src` at the moment `now` (02 R26, R27). -/
def strobed (t : TimeBase) (src : StrobeSource) (now : Nat) : TimeBase :=
  { t with
    strobeNumber := match t.pendingSet with
      | some T => T / 500
      | none => t.strobeNumber + 1
    lastStrobeAt := now
    pendingSet := none
    source := src
    line := if t.role = .master then .high else t.line }

/-- A channel as it enters STANDBY at its measured force (05 R87). -/
def standby (c : Channel) : Channel :=
  { c with
    state := .standby, prev := c.measured.force, integrator := 0, gain := 16384, track := none
    aligned := false, unloadRem := 0, staleRun := 0, trackRun := 0
    causes := ⟨false, false, false, false⟩ }

/-- The commands that are the running out of a timer, each with its timer (log 4). -/
def timerCommands (b : BankId) (levels : BitVec 32) : List (Instr × Timer) :=
  [(.oscillatorStrobe, .strobe), (.substituteStrobe, .strobe), (.syncPulseEnd, .syncPulse),
   (.regainRunTimeout, .regain), (.uplinkFrameEnd, .uplink), (.restartEffect, .restart),
   (.freeScanExpiry, .freeScan), (.bankTimeout b, .bank b), (.bankSettlingEnd b, .settling b),
   (.reportDelayRunOut, .delay), (.loopSample levels, .loop), (.gap, .gap)]

/-- ALARM-pending set (01 R15). -/
def alarmed (s : State) : State := { s with lp := { s.lp with alarmPending := true } }

/-- A member as its zone's entry into HOLD leaves it: a cycling one keeps its amplitude and starts its
ramp-out count (03 R50). -/
def heldMember (c : Channel) : Channel := if c.isCycling then { c with aHold := c.aEff, j := 0 } else c

/-- Whether a member of zone `z` is cycling. -/
def ramps (s : State) (z : ZoneId) : Bool :=
  (List.finRange 8).any fun a => (s.zone z).members.getLsbD a && (s.chan a).isCycling

/-- A zone in RUN as it enters HOLD with the reasons `q`: RAMPING OUT when a member is cycling, otherwise
HELD with its clock stopped (06 R111). -/
def heldZone (x : Zone) (ramping : Bool) (q : HoldReasons) : Zone :=
  { x with
    state := .hold
    sub := if ramping then .rampingOut else .held
    clockRunning := x.clockRunning && ramping
    reasons := q }

/-- The part after its zone `z`, in RUN, has entered HOLD with the reasons `q` (06 R111, 01 R15). -/
def held (s : State) (z : ZoneId) (q : HoldReasons) : State :=
  { alarmed s with
    ac := Vector.ofFn fun a => if (s.zone z).members.getLsbD a then heldMember (s.chan a) else s.chan a
    zs := { s.zs with zones := s.zs.zones.set z (heldZone (s.zone z) (ramps s z) q) } }

/-- A raise of a strobe's work, stamped with the channels and the cycle counts that it finds (06 R117, R118).
-/
def stamped (s : State) (q : Seen) (source : AlarmSource) (z : ZoneId) (severity : Severity) : Raise :=
  let cycling : Bool :=
    (List.finRange 8).any fun a => (s.zone z).members.getLsbD a && q.chans[a].wasCycling
  ⟨source, z, severity, if cycling then some q.counts[z] else none⟩

/-- The part after another block has taken what a strobe's work hands it, `q` being the channels and cycle
counts that it finds: a raise; the sync loss of a zone in RUN or HOLD, an INFO raise and then the HOLD (06
R116); the captured crossings in zone order (07 R129); the capture frame (11 R191). -/
def handed (s : State) (q : Seen) : StrobeTask → State
  | .raise source z severity => s.raise (stamped s q source z severity)
  | .loss z =>
    let t := s.raise (stamped s q (.sync z) z .info)
    match (s.zone z).state with
    | .run => held t z ⟨false, false, false, true⟩
    | .hold =>
      if (s.zone z).reasons.sync then t
      else alarmed (t.setZone z { t.zone z with reasons := { (t.zone z).reasons with sync := true } })
    | .idle | .ready | .unload | .safe => s
  | .scans l => l.foldl State.phaseRequest s
  | .frame timeSet => s.takeFrame q.chans timeSet

/-- The active block `b` has taken the frame `f`: a RECORDING block keeps its most recent frames, a POST
block all, and locks with its last one, when it is announced and recording goes on in the lowest FREE block,
stalls or ends (11 R193, R197). -/
def FrameTaken (s : State) (b : BlockId) (f : CaptureFrame) (t : State) : Prop :=
  let x := s.cu.blocks[b]
  let frames := x.frames ++ [f]
  let blocks := s.cu.blocks.set b { x with state := .locked, frames }
  let locks : Prop := x.state = .post ∧ 2048 - x.pre ≤ frames.length - x.preHeld
  (x.state = .recording → t.cu = { s.cu with
    blocks := s.cu.blocks.set b { x with frames := frames.drop (frames.length - x.pre) } }) ∧
  (x.state = .post → ¬ locks → t.cu = { s.cu with blocks := s.cu.blocks.set b { x with frames } }) ∧
  (locks →
    (s.cu.cfg.continues = false → t.cu = { s.cu with blocks }) ∧
    (s.cu.cfg.continues = true → (∀ c : BlockId, blocks[c].state ≠ .free) →
      t.cu = { s.cu with blocks, stalled := true }) ∧
    (s.cu.cfg.continues = true → ∀ c : BlockId, blocks[c].state = .free →
      (∀ e : BlockId, e < c → blocks[e].state ≠ .free) → t.cu = { s.cu with
        stalled := false
        blocks := blocks.set c ⟨.recording, s.cu.cfg.signals, s.cu.cfg.pre, [], 0, none, 0⟩ })) ∧
  (locks → t.lp.announce = s.lp.announce ++ [b]) ∧ (¬ locks → t.lp.announce = s.lp.announce)

/-- A signal's value and mark in a frame that finds the channels `chans` and the converter `v` (11 R190). -/
def signalItem (chans : ActId → Channel) (v : StrainConverter) : Signal → SignalValue
  | .actForce a => ⟨(chans a).measured.force, false⟩
  | .actCommand a => ⟨(chans a).prev, false⟩
  | .actStroke a => ⟨(chans a).measured.stroke, false⟩
  | .actValve a => ⟨(chans a).valve, false⟩
  | .gauge g => ⟨v.latest[g].value, v.written.contains g⟩

/-- A bank port whose outstanding conversion has ended at the oscillator moment `now`: the conversion that
has waited longest is sent (07 R133). -/
def sentNext (k : Bank) (now : Nat) : Bank :=
  match k.waiting with
  | [] => { k with outstanding := none }
  | c :: rest => { k with outstanding := some c, waiting := rest, timeoutAt := now + 5000 }

/-- A bank port after a timeout at the oscillator moment `now` (07 R135): OFFLINE at the third in a row, a
scan part that waits is then not sent. -/
def portTimedOut (k : Bank) (now : Nat) : Bank :=
  let online : Bool := k.online && decide (k.consecutive + 1 < 3)
  sentNext { k with
    consecutive := min (k.consecutive + 1) 3
    timeouts := min (k.timeouts + 1) 4294967295
    online
    waiting := if online then k.waiting else k.waiting.filter Conversion.isTest } now

/-- A scan that bank `b` has answered: with its raw values, or with NO DATA (07 R134, R135). -/
def answeredBy (x : Scan) (b : BankId) (answer : Option (List Int)) : Scan :=
  { x with awaiting := x.awaiting.set b false, answers := x.answers.set b answer }

/-- Template `t` is enabled and agrees with gauge `g` under its mask (08 R143). -/
abbrev Matches (v : StrainConverter) (g : GaugeId) (t : TemplateId) : Prop :=
  v.templates[t].enabled = true ∧
  BitVec.ofNat 8 g.val &&& v.templates[t].mask = v.templates[t].value &&& v.templates[t].mask

/-- Template `t` is the lowest-numbered one that matches gauge `g` (08 R143). -/
abbrev Selects (v : StrainConverter) (g : GaugeId) (t : TemplateId) : Prop :=
  Matches v g t ∧ ∀ u : TemplateId, u < t → ¬ Matches v g u

/-- A member of zone `z` was cycling at its latest update (06 R117). -/
def Cycling (s : State) (z : ZoneId) : Prop :=
  ∃ a : ActId, (s.zone z).members.getLsbD a = true ∧ (s.chan a).wasCycling = true

/-- `cycle` is the stamp of a raise for zone `z` between strobes: its cycle count while a member is cycling
(06 R117, R118). -/
def Stamps (s : State) (z : ZoneId) (cycle : Option Nat) : Prop :=
  (Cycling s z → cycle = some (s.zone z).cycleCount) ∧ (¬ Cycling s z → cycle = none)

/-! ### Layouts (12 R204, R205) -/

/-- Bytes whose value is not stated (log 13). -/
def unstated (n : Nat) : Wire := List.replicate n none

/-- An alarm source's kind and number. -/
def sourceItems : AlarmSource → Wire
  | .loop n => encN 1 1 ++ encN 1 n
  | .ae n => encN 1 2 ++ encN 1 n
  | .limit n => encN 1 3 ++ encN 1 n
  | .actuator n => encN 1 4 ++ encN 1 n
  | .total z => encN 1 5 ++ encN 1 z
  | .sync z => encN 1 6 ++ encN 1 z

/-- The 20 bytes of an alarm entry. -/
def alarmItems (e : AlarmEntry) : Wire :=
  sourceItems e.source ++ encN 1 e.zone ++ encN 1 e.severity.code ++ encN 8 e.raised ++
  encOpt 4 (e.cycle.map (encN 4)) ++ encN 2 e.occurrences ++ encFlag e.reported

/-- The ALARM payload: the zones, the overflow flag, and the unreported entries, MAJOR first, then MINOR,
then INFO, oldest raising first within one severity (01 R15). -/
def alarmReport (s : State) : Wire :=
  let fresh (v : Severity) : List AlarmEntry := s.zs.alarms.filter fun e => !e.reported && e.severity = v
  let shown := fresh .major ++ fresh .minor ++ fresh .info
  ((List.finRange 4).map fun z =>
    encN 1 (s.zone z).state.code ++ encN 1 (s.zone z).sub.code ++ encN 1 (s.zone z).reasons.code).flatten ++
  encFlag s.zs.overflow ++ encN 1 shown.length ++ (shown.map alarmItems).flatten

/-- A capture trigger's time and source. -/
def triggerItems (t : Trigger) : Wire :=
  encN 8 t.time ++ (t.alarm.elim (encN 1 7 ++ encN 1 0) fun a => sourceItems a.source)

/-- The 48 bytes of a block record; those of a first frame time or of a trigger that it has not are unstated
(log 13). -/
def blockItems (b : Block) : Wire :=
  encN 1 b.signals.length ++ (b.signals.map fun x => encN 1 x.code.1 ++ encN 1 x.code.2).flatten ++
  List.replicate (2 * (8 - b.signals.length)) (some 0) ++ encN 2 b.pre ++ encN 2 b.frames.length ++
  (b.frames.head?.elim (unstated 8) fun f => encN 8 f.hall) ++
  encN 2 ((b.frames.findIdx? CaptureFrame.timeSet).getD 65535) ++ encN 2 b.preHeld ++
  (b.trigger.elim (unstated 13) fun t => triggerItems t ++
    t.alarm.elim (encN 1 255 ++ encN 1 0 ++ encN 1 0) fun a =>
      encN 1 a.zone ++ encN 1 a.severity.code ++ encN 1 a.kind.code) ++ encN 2 b.further

/-- A capture frame: 4 bytes for each signal, a gauge's new-value mark before its 24-bit value. -/
def frameItems (signals : List Signal) (f : CaptureFrame) : Wire :=
  (List.zipWith (fun x (v : SignalValue) => match x with
    | .gauge _ => encFlag v.mark ++ encI 3 v.value
    | .actForce _ | .actCommand _ | .actStroke _ | .actValve _ => encI 4 v.value) signals f.values).flatten

/-- The payload of a record's next slice: its next unsent entries, up to 200. -/
def sliceItems (r : StrainRecord) : Wire :=
  let es := r.unsent.take 200
  let last : Bool := r.unsent.length ≤ 200
  let kind : Nat := match r.kind with | .free => 0 | .peak => 1 | .valley => 2 | .zero => 3
  let force (f : ForceItem) : Wire :=
    encN 1 f.actuator ++ encFlag f.tag.isSome ++ encI 4 f.force ++ f.tag.elim (unstated 2) (encN 2)
  let phase (p : RecordPhase) : Wire := encN 1 p.zone ++ encN 4 p.cycle ++ encN 4 r.lag ++
    encN 1 p.forces.length ++ (p.forces.map force).flatten
  let header : Wire := encN 1 kind ++ encN 8 r.start ++ encN 1 r.loss ++
    encN 2 (r.sent + r.unsent.length) ++ r.phase.elim [] phase
  let half (i : Nat) : Nat := es[i]?.elim 0 fun e =>
    (if e.flags.overRange then 1 else 0) + (if e.flags.opened then 2 else 0) +
    (if e.flags.noData then 4 else 0) + (if e.flags.defaulted then 8 else 0)
  encN 2 r.number ++ encN 1 ((if r.sliced then 0 else 1) + (if last then 2 else 0)) ++ encN 2 r.sent ++
  encN 1 es.length ++ (if r.sliced then [] else header) ++
  (es.map fun e => encN 1 e.gauge ++ encI 3 e.value).flatten ++
  ((List.range ((es.length + 1) / 2)).map fun i => encN 1 (16 * half (2 * i) + half (2 * i + 1))).flatten

/-- The capture configuration. -/
def captureItems (c : CaptureConfig) : Wire :=
  encN 1 c.signals.length ++ (c.signals.map fun x => encN 1 x.code.1 ++ encN 1 x.code.2).flatten ++
  encN 2 c.pre ++ encN 1 c.severity.code ++ encN 1 c.zoneMask.toNat ++ encFlag c.continues

/-- A limit rule: its number, its fields, its counter and its latch (09 R173). -/
def ruleItems (n : RuleId) (q : LimitRule) : Wire :=
  encN 1 n ++ encFlag q.enabled ++ encN 1 q.gauge ++ encI 4 q.threshold ++
  encN 1 ((if q.mask.below then 1 else 0) + (if q.mask.equal then 2 else 0) +
    (if q.mask.above then 4 else 0)) ++ encN 1 q.persistence ++ encN 1 q.action.code ++
  encN 1 q.zone ++ encFlag q.trip ++ encN 1 q.counter ++ encFlag q.latched

/-- The Scan Engine's items (07 R140), in its order; the codes of a slot's kind and of the conversions of a
bank, and the lengths of the items, are the model's (log 14). -/
def scanItems (e : ScanEngine) : Wire :=
  let slot (p : PhaseRequest) : Wire :=
    encN 1 (if p.peak then 0 else 1) ++ encN 4 p.cycle ++ encN 8 p.crossing
  let kind : ScanKind → Nat := fun | .free => 0 | .zero => 1 | .peak => 2 | .valley => 3
  let flight (x : Scan) : Wire :=
    encN 1 (kind x.kind) ++ encN 8 x.start ++ encOpt 5 (x.phase.map fun p => encN 1 p.zone ++ encN 4 x.lag)
  let given (l : List Conversion) : Nat :=
    (if l.any fun c => !c.isTest then 1 else 0) + (if l.any Conversion.isTest then 2 else 0)
  let bank (k : Bank) : Wire := encFlag (!k.online) ++ encN 1 (given k.outstanding.toList) ++
    encN 1 (given k.waiting) ++ encN 1 k.consecutive ++ encN 4 k.timeouts ++ encN 2 k.strays
  encN 1 e.scanList.length ++ (e.scanList.map fun x => encN 1 x.base ++ encN 1 x.count).flatten ++
  encN 2 (scanSet e.scanList).length ++ encN 2 e.interval ++ encFlag e.freeRequest ++ encN 4 e.skipped ++
  ((List.finRange 4).map fun z => encOpt 13 (e.slots[z].map slot)).flatten ++ encFlag e.zeroRequest ++
  encOpt 15 (e.scan.map flight) ++ ((List.finRange 4).map fun b => bank e.banks[b]).flatten ++
  encOpt 1 (e.bankReset.map fun x => encN 1 x.bank)

/-- A scan in flight that still waits for a bank, or no scan and no request for one: the scan arbiter has
nothing to do (07 R131). -/
def ScansQuiet (s : State) : Prop :=
  (∃ x, s.se.scan = some x ∧ ∃ b : BankId, x.awaiting[b] = true) ∨
  (s.se.scan = none ∧ (∀ z : ZoneId, s.se.slots[z] = none) ∧ s.se.zeroRequest = false ∧
    s.se.freeRequest = false)

/-! ### What commands leave unchanged -/

def SameTime (s t : State) : Prop := t.tb = s.tb ∧ t.osc = s.osc
def SameAlarms (s t : State) : Prop :=
  t.zs.overflow = s.zs.overflow ∧
  t.zs.alarms.map (fun e => { e with reported := false }) =
    s.zs.alarms.map (fun e => { e with reported := false })
def SameZones (s t : State) : Prop := t.zs.zones = s.zs.zones
def SameStrain (s t : State) : Prop := t.scv = s.scv ∧ t.sq = s.sq ∧ t.lw = s.lw
/-- The link's state but for the queues, the transmitter and its marks. -/
def SameLink (s t : State) : Prop :=
  t.lp.nodeAddr = s.lp.nodeAddr ∧ t.lp.groupAddr = s.lp.groupAddr ∧ t.lp.line = s.lp.line ∧
  t.lp.rx = s.lp.rx ∧ t.lp.restart = s.lp.restart ∧ t.lp.reporting = s.lp.reporting ∧
  t.lp.counts = s.lp.counts

end Sys2Proof.Statements

open Sys2Proof Sys2Proof.Machine Sys2Proof.Statements Host

/-! ### The machine as a whole -/

/-- With the command `c` at the front of the queue, a step is `exec c` on the part with the queue's rest. -/
def Obligations.StepRunsTheFrontCommand : Prop :=
  ∀ (c : Instr) (rest : List Instr) (s : State), s.pending = c :: rest →
    step s = exec c { s with pending := rest }

/-- No step faults and none is refused: the spec gives every row an effect, and a command whose event cannot
happen now (log 2) and a step on an empty queue (log 3) answer next too. -/
def Obligations.EveryStepGoes : Prop := ∀ s : State, Goes (step s)

/-- The moments at which the part's timers fall due (a restart's: log 21), and that the others do not run;
the moment past which time cannot go without a timer's command, its due moment (log 4), for the gap timer 10
microseconds more (log 5); the part at the moment a timer runs out, which moves the oscillator there and
nothing else, and none while the timer does not run or another keeps time from its moment (log 4); a timer's
command then changes nothing but the queue (log 2); and the model's choice for a step with no command
waiting: one microsecond of the oscillator, unless a timer keeps it (log 3). -/
def Obligations.TimersAndIdleTime : Prop :=
  ∀ s : State,
    ((s.tb.role ≠ .follower ∨ s.tb.syncLost = true) →
      s.deadline .strobe = some (s.tb.lastStrobeAt + 500)) ∧
    (s.tb.role = .follower → s.tb.syncLost = false →
      s.deadline .strobe = some (s.tb.lastStrobeAt + 750)) ∧
    s.deadline .syncPulse = (if s.tb.line = .high then some (s.tb.lastStrobeAt + 20) else none) ∧
    s.deadline .regain = (if s.tb.role = .follower ∧ s.tb.syncLost = true ∧ 0 < s.tb.regainRun
      then some (s.tb.lastEdgeAt + 750) else none) ∧
    s.deadline .uplink = s.lp.tx.map TxFrame.endsAt ∧
    s.deadline .restart = (if s.lp.restart = .due then some s.osc else none) ∧
    s.deadline .freeScan = (if s.se.interval = 0 then none else some s.se.expiryAt) ∧
    (∀ b : BankId,
      s.deadline (.bank b) = (if s.se.banks[b].outstanding = none then none
        else some s.se.banks[b].timeoutAt) ∧
      s.deadline (.settling b) = s.se.banks[b].settlingUntil) ∧
    (∀ since, s.sq.timer = .running since →
      s.deadline .delay = some (since + (if s.se.interval = 0 then 400000 else 4000 * s.se.interval))) ∧
    (s.sq.timer = .stopped ∨ s.sq.timer = .runOut → s.deadline .delay = none) ∧
    s.deadline .loop = some s.cm.nextSampleAt ∧
    s.deadline .gap = (if s.lp.rx.mode ≠ .hunt ∧ s.lp.line = .mark then some (s.lp.lastByteAt + 20)
      else none) ∧
    (∀ t, t ≠ .gap → s.limit t = s.deadline t) ∧ s.limit .gap = (s.deadline .gap).map (· + 10) ∧
    (∀ t d, s.deadline t = some d → (∀ x m, s.limit x = some m → d ≤ m) →
      s.expire t = some { s with osc := max s.osc d }) ∧
    (∀ t, (s.deadline t = none ∨ ∃ d x m, s.deadline t = some d ∧ s.limit x = some m ∧ m < d) →
      s.expire t = none) ∧
    (∀ (b : BankId) (levels : BitVec 32), ∀ p ∈ timerCommands b levels, s.expire p.2 = none →
      exec p.1 s = .next s ∧
      ∀ rest, s.pending = p.1 :: rest → step s = .next { s with pending := rest }) ∧
    (s.pending = [] →
      ((∀ t d, s.limit t = some d → s.osc + 1 ≤ d) → step s = .next { s with osc := s.osc + 1 }) ∧
      ((∃ t d, s.limit t = some d ∧ d < s.osc + 1) → step s = .next s))

/-- RESET: every block is at its reset values, the node address is the one at the ADDR pins. What
`Channel.reset`, `Zone.reset`, `ScanEngine.reset` and `StrainConverter.reset` hold beyond the fields the spec
names, and the downlink at mark, is the model's choice (log 7); no RESTART waits. The queue of commands and
the free counter are the model's own and stay (log 31). -/
def Obligations.ResetGivesTheResetValues : Prop :=
  ∀ (s : State) (addr : Nat), addr < 64 → ∃ t, exec (.reset addr) s = .next t ∧
    t.lp.nodeAddr.toNat = addr ∧ t.lp.groupAddr = none ∧ t.lp.rx = ⟨.hunt, []⟩ ∧ t.lp.requests = [] ∧
    t.lp.replies = [] ∧ t.lp.reservations = 0 ∧ t.lp.alarmPending = false ∧ t.lp.announce = [] ∧
    t.lp.reporting = ⟨256, true, true⟩ ∧ t.lp.counts = ⟨0, 0, 0, 0, 0⟩ ∧ t.lp.tx = none ∧
    t.lp.restart = .idle ∧ t.lp.line = .mark ∧ t.hall = 0 ∧ t.tb.strobeNumber = 0 ∧
    t.tb.role = .internal ∧ t.tb.line = .released ∧
    t.tb.syncLost = false ∧ t.tb.subRun = 0 ∧ t.tb.regainRun = 0 ∧ t.tb.missCount = 0 ∧
    t.tb.earlyCount = 0 ∧ t.tb.source = .oscillator ∧ t.tb.pendingSet = none ∧
    t.deadline .strobe = some 500 ∧
    (∀ a, t.chan a = Channel.reset) ∧ (∀ z, t.zone z = Zone.reset) ∧ t.zs.alarms = [] ∧
    t.zs.overflow = false ∧ t.se = ScanEngine.reset 0 ∧ t.scv = StrainConverter.reset ∧
    t.sq = ⟨[], 0, 0, .stopped⟩ ∧ t.lw = LimitWatch.reset ∧ t.cm = CrackMonitor.reset 0 ∧
    t.cu = CaptureUnit.reset ∧ t.osc = 0 ∧ t.pending = s.pending ∧ t.free = s.free

/-- RESTART_EFFECT, when a restart is due: the reset values again, but for hall time, the strobe schedule,
the latest strobe source, the SYNC role, the link counts and the node address. That the effect is a command
of its own at a moment marked due is log 21; the reset values the spec does not name and the downlink's kept
line are log 7; the queue of commands and the free counter stay (log 31). -/
def Obligations.RestartResetsAllButFiveThings : Prop :=
  ∀ s u : State, s.expire .restart = some u → ∃ t, exec .restartEffect s = .next t ∧
    t.lp.nodeAddr = s.lp.nodeAddr ∧ t.lp.counts = s.lp.counts ∧
    t.tb.strobeNumber = s.tb.strobeNumber ∧ t.tb.lastStrobeAt = s.tb.lastStrobeAt ∧ t.hall = s.hall ∧
    t.tb.source = s.tb.source ∧ t.tb.role = s.tb.role ∧
    t.lp.groupAddr = none ∧ t.lp.rx = ⟨.hunt, []⟩ ∧ t.lp.requests = [] ∧ t.lp.replies = [] ∧
    t.lp.reservations = 0 ∧ t.lp.restart = .idle ∧ t.lp.alarmPending = false ∧ t.lp.announce = [] ∧
    t.lp.reporting = ⟨256, true, true⟩ ∧ t.lp.tx = none ∧
    (t.tb.role ≠ .master → t.tb.line = .released) ∧ (t.tb.role = .master → t.tb.line ≠ .released) ∧
    t.tb.syncLost = false ∧ t.tb.subRun = 0 ∧ t.tb.regainRun = 0 ∧ t.tb.missCount = 0 ∧
    t.tb.earlyCount = 0 ∧ t.tb.pendingSet = none ∧
    (∀ a, t.chan a = Channel.reset) ∧ (∀ z, t.zone z = Zone.reset) ∧ t.zs.alarms = [] ∧
    t.zs.overflow = false ∧ t.se = ScanEngine.reset s.osc ∧ t.scv = StrainConverter.reset ∧
    t.sq = StrainQueue.reset ∧ t.lw = LimitWatch.reset ∧ t.cm = CrackMonitor.reset s.osc ∧
    t.cu = CaptureUnit.reset ∧ t.lp.line = s.lp.line ∧ t.osc = s.osc ∧ t.pending = s.pending ∧
    t.free = s.free

/-! ### The Link Port -/

/-- BYTE_RECEIVED with the line at mark before the byte: the receiver's table, the length test, and what a
complete frame does (check, address filter, request queue). A byte that began within 20 microseconds of the
byte before ends within 25; one that began later finds the frame abandoned, the gap counted and the receiver
in HUNT (log 5 has the model judge this at the byte where GAP has not been placed). -/
def Obligations.ReceiverActsOnEachByte : Prop :=
  (∀ (s : State) (b : Byte), s.lp.line = .mark → s.lp.rx.mode = .hunt ∨ s.osc ≤ s.lp.lastByteAt + 25 →
    let l := { s.lp with lastByteAt := s.osc }
    let buf := s.lp.rx.buf ++ [b]
    let inner := buf.take (buf.length - 2)
    let hunted := { l with rx := ⟨.hunt, []⟩ }
    let full := s.lp.rx.mode = .body ∧ buf.length = 5 + field buf 3 2 + 2
    let good := beNat (buf.drop (buf.length - 2)) = (crc16 inner).toNat
    let dest := byteAt buf 0
    let frame (c : AddrClass) : Request := ⟨byteAt buf 1, byteAt buf 2, inner.drop 5, c⟩
    let joined (c : AddrClass) : LinkPort :=
      if s.lp.requests.length < 4 then { hunted with requests := s.lp.requests ++ [frame c] }
      else { hunted with counts := { s.lp.counts with dropped := min (s.lp.counts.dropped + 1) 65535 } }
    (s.lp.rx.mode = .hunt → b = 0xC3 →
      exec (.byteReceived b .mark) s = .next { s with lp := { l with rx := ⟨.header, []⟩ } }) ∧
    (s.lp.rx.mode = .hunt → b ≠ 0xC3 → exec (.byteReceived b .mark) s = .next { s with lp := l }) ∧
    (s.lp.rx.mode = .header → buf.length < 5 →
      exec (.byteReceived b .mark) s = .next { s with lp := { l with rx := ⟨.header, buf⟩ } }) ∧
    (s.lp.rx.mode = .header → buf.length = 5 → field buf 3 2 ≤ 1024 →
      exec (.byteReceived b .mark) s = .next { s with lp := { l with rx := ⟨.body, buf⟩ } }) ∧
    (s.lp.rx.mode = .header → buf.length = 5 → 1024 < field buf 3 2 →
      exec (.byteReceived b .mark) s = .next { s with lp :=
        { hunted with counts := { s.lp.counts with length := min (s.lp.counts.length + 1) 65535 } } }) ∧
    (s.lp.rx.mode = .body → buf.length < 5 + field buf 3 2 + 2 →
      exec (.byteReceived b .mark) s = .next { s with lp := { l with rx := ⟨.body, buf⟩ } }) ∧
    (full → ¬ good →
      exec (.byteReceived b .mark) s = .next { s with lp :=
        { hunted with counts := { s.lp.counts with check := min (s.lp.counts.check + 1) 65535 } } }) ∧
    (full → good → dest = 255 →
      exec (.byteReceived b .mark) s = .next { s with lp := joined .broadcast }) ∧
    (full → good → dest.toNat = s.lp.nodeAddr.toNat →
      exec (.byteReceived b .mark) s = .next { s with lp := joined .node }) ∧
    (full → good → dest ≠ 255 → dest.toNat ≠ s.lp.nodeAddr.toNat → s.lp.groupAddr = some dest →
      exec (.byteReceived b .mark) s = .next { s with lp := joined .group }) ∧
    (full → good → dest ≠ 255 → dest.toNat ≠ s.lp.nodeAddr.toNat → s.lp.groupAddr ≠ some dest →
      exec (.byteReceived b .mark) s = .next { s with lp := hunted })) ∧
  (∀ (s : State) (b : Byte) (stop : StopBit), s.lp.line = .mark → s.lp.rx.mode ≠ .hunt →
    s.lp.lastByteAt + 25 < s.osc →
    exec (.byteReceived b stop) s = exec (.byteReceived b stop) { s with lp := { s.lp with
      rx := ⟨.hunt, []⟩, counts := { s.lp.counts with gap := min (s.lp.counts.gap + 1) 65535 } } })

/-- A byte with its stop bit at space waits to be judged, and a byte on a line that is not at mark first ends
the framing error or the break that stands (log 5). LINE_RETURNS_TO_MARK after a bad stop bit: a framing
error inside a frame abandons it and counts in the check count; in HUNT no count changes; after a break it
ends the break. GAP when its 20 microseconds run out inside a frame, and in HUNT, where the space is not
timed; BREAK, once for each break; one whose 10 microseconds of space began after those 20 finds the gap
counted (log 5). -/
def Obligations.LineConditionRules : Prop :=
  (∀ (s : State) (b : Byte) (stop : StopBit),
      (s.lp.line = .mark → s.lp.rx.mode = .hunt ∨ s.osc ≤ s.lp.lastByteAt + 25 →
        exec (.byteReceived b .space) s =
          .next { s with lp := { s.lp with lastByteAt := s.osc, line := .badStop } }) ∧
      (∀ t, exec .lineReturnsToMark s = .next t →
        exec (.byteReceived b stop) s = exec (.byteReceived b stop) t)) ∧
  (∀ s : State,
      (s.lp.line = .badStop → s.lp.rx.mode ≠ .hunt → exec .lineReturnsToMark s =
        .next { s with lp := { s.lp with
          line := .mark, rx := ⟨.hunt, []⟩
          counts := { s.lp.counts with check := min (s.lp.counts.check + 1) 65535 } } }) ∧
      (s.lp.line = .badStop → s.lp.rx.mode = .hunt → exec .lineReturnsToMark s =
        .next { s with lp := { s.lp with line := .mark } }) ∧
      (s.lp.line = .brk → exec .lineReturnsToMark s = .next { s with lp := { s.lp with line := .mark } }) ∧
      (s.lp.line = .mark → exec .lineReturnsToMark s = .next s)) ∧
  (∀ s : State,
      (∀ t, s.expire .gap = some t → exec .gap s = .next { t with lp := { t.lp with
        rx := ⟨.hunt, []⟩, counts := { t.lp.counts with gap := min (t.lp.counts.gap + 1) 65535 } } }) ∧
      (s.lp.rx.mode = .hunt → exec .gap s = .next s) ∧
      (s.lp.line ≠ .brk → s.lp.rx.mode = .hunt ∨ s.lp.line = .badStop ∨ s.osc ≤ s.lp.lastByteAt + 30 →
        exec .lineBreak s = .next { s with lp := { s.lp with
          rx := ⟨.hunt, []⟩, line := .brk
          counts := { s.lp.counts with brk := min (s.lp.counts.brk + 1) 65535 } } }) ∧
      (s.lp.line = .mark → s.lp.rx.mode ≠ .hunt → s.lp.lastByteAt + 30 < s.osc →
        exec .lineBreak s = .next { s with lp := { s.lp with
          rx := ⟨.hunt, []⟩, line := .brk
          counts := { s.lp.counts with
            gap := min (s.lp.counts.gap + 1) 65535, brk := min (s.lp.counts.brk + 1) 65535 } } }) ∧
      (s.lp.line = .brk → exec .lineBreak s = .next s))

/-- The arbiter with the transmitter idle builds the first of ALARM report, oldest reply, CAPTURE report,
STRAIN slice, each with its payload; a Strain Queue that is not due (below the reporting level, its delay not
run out, no slice of its head sent) gets none, and with the transmitter busy nothing is built. Bytes with no
stated value are free (log 13). -/
def Obligations.ArbiterPriority : Prop :=
  ∀ s : State,
    (s.lp.tx.isSome → arbitrate s = s) ∧
    (s.lp.tx = none → s.lp.restart ≠ .due →
      (s.lp.alarmPending = true →
        let p := fillFrom s.free 0 (alarmReport s)
        (arbitrate s).lp.tx = some ⟨frameBytes (s.lp.nodeAddr.setWidth 8) 0 0x81 p, .alarm,
          s.osc + 5 * (8 + p.length)⟩ ∧
        (arbitrate s).lp.alarmPending = false ∧ (arbitrate s).lp.replies = s.lp.replies ∧
        (arbitrate s).zs.alarms = s.zs.alarms.map fun e => { e with reported := true }) ∧
      (s.lp.alarmPending = false → ∀ r rest, s.lp.replies = r :: rest →
        (arbitrate s).lp.tx = some ⟨frameBytes (s.lp.nodeAddr.setWidth 8) r.tag 0x80 r.payload,
          .reply r.restart, s.osc + 5 * (8 + r.payload.length)⟩ ∧
        (arbitrate s).lp.replies = rest ∧ (arbitrate s).zs = s.zs) ∧
      (s.lp.alarmPending = false → s.lp.replies = [] → s.lp.reporting.capture = true →
        ∀ b rest, s.lp.announce = b :: rest →
        let p := fillFrom s.free 0 (encN 1 b ++ blockItems s.cu.blocks[b])
        (arbitrate s).lp.tx = some ⟨frameBytes (s.lp.nodeAddr.setWidth 8) 0 0x82 p, .capture,
          s.osc + 5 * (8 + p.length)⟩ ∧
        (arbitrate s).lp.announce = rest ∧ (arbitrate s).zs = s.zs) ∧
      (s.lp.alarmPending = false → s.lp.replies = [] →
        (s.lp.announce = [] ∨ s.lp.reporting.capture = false) → ∀ x rest, s.sq.records = x :: rest →
        s.lp.reporting.strain = true →
        (s.lp.reporting.level ≤ (s.sq.records.map fun y => y.unsent.length).sum ∨
          s.sq.timer = .runOut ∨ x.sliced = true) →
        let p := fillFrom s.free 0 (sliceItems x)
        (arbitrate s).lp.tx = some ⟨frameBytes (s.lp.nodeAddr.setWidth 8) 0 0x83 p,
          .strain (min 200 x.unsent.length) (x.unsent.length ≤ 200), s.osc + 5 * (8 + p.length)⟩ ∧
        (arbitrate s).sq = s.sq) ∧
      (s.lp.alarmPending = false → s.lp.replies = [] →
        (s.lp.announce = [] ∨ s.lp.reporting.capture = false) →
        (s.sq.records = [] ∨ s.lp.reporting.strain = false ∨
          ((s.sq.records.map fun y => y.unsent.length).sum < s.lp.reporting.level ∧ s.sq.timer ≠ .runOut ∧
            ∀ x rest, s.sq.records = x :: rest → x.sliced = false)) → arbitrate s = s))

/-- UPLINK_FRAME_END: the frame being sent ends; a slice's entries leave the Strain Queue, a record with its
last slice; a RESTART that waited for this frame is due, and the arbiter then builds nothing (the mark due is
log 21); otherwise the arbiter chooses the next frame. -/
def Obligations.UplinkFrameEndRule : Prop :=
  ∀ s t : State, s.expire .uplink = some t → ∀ f, t.lp.tx = some f →
    (f.carries = .reply true ∨ t.lp.restart = .awaitFrame →
      (∀ n last, f.carries ≠ .strain n last) →
      exec .uplinkFrameEnd s = .next { t with lp := { t.lp with tx := none, restart := .due } }) ∧
    (t.lp.restart = .awaitFrame → ∀ n last x rest, t.sq.records = x :: rest → f.carries = .strain n last →
      exec .uplinkFrameEnd s = .next { t with
        lp := { t.lp with tx := none, restart := .due }
        sq := { t.sq with
          records := if last then rest
            else { x with unsent := x.unsent.drop n, sent := x.sent + n, sliced := true } :: rest
          timer := if last = true ∧ rest = [] then .stopped else .running t.osc } }) ∧
    (t.lp.restart ≠ .awaitFrame → f.carries = .alarm ∨ f.carries = .reply false ∨ f.carries = .capture →
      exec .uplinkFrameEnd s = .next (arbitrate { t with lp := { t.lp with tx := none } })) ∧
    (t.lp.restart ≠ .awaitFrame → ∀ n x rest, t.sq.records = x :: rest →
      (f.carries = .strain n false → exec .uplinkFrameEnd s = .next (arbitrate { t with
        lp := { t.lp with tx := none }
        sq := { t.sq with
          records := { x with unsent := x.unsent.drop n, sent := x.sent + n, sliced := true } :: rest
          timer := .running t.osc } })) ∧
      (f.carries = .strain n true → exec .uplinkFrameEnd s = .next (arbitrate { t with
        lp := { t.lp with tx := none }
        sq := { t.sq with
          records := rest, timer := if rest = [] then .stopped else .running t.osc } })))

/-- An accepted request's reply joins the tail of the reply queue with the request's tag, its payload the
kind, 00h and the results; a refused one's the kind and the reason's code; a broadcast request gets none,
and a refused request changes nothing else; one whose operation is started gets none yet. The counter of the
free values moves with each reply. A head request that may not be taken (its reply has no room, or a RESTART
waits) is not taken; that the command of such a request answers next with no effect of its own is the
model's choice (log 2). -/
def Obligations.RepliesAndWaitingRequests : Prop :=
  (∀ (s t : State) (r : Request) (w : Wire) (why : Reason),
    s.answer r (.deferred t) = t ∧
    (r.cls = .broadcast → s.answer r (.accepted t w) = t ∧ s.answer r (.refused why w) = s) ∧
    (r.cls ≠ .broadcast →
      s.answer r (.accepted t w) = { t with
        free := t.free + 1
        lp := { t.lp with replies := t.lp.replies ++
          [⟨r.tag, r.kind :: 0 :: fillFrom t.free 2 w, r.kind = 0x06⟩] } } ∧
      s.answer r (.refused why w) = { s with
        free := s.free + 1
        lp := { s.lp with replies := s.lp.replies ++
          [⟨r.tag, r.kind :: BitVec.ofNat 8 why.code :: fillFrom s.free 2 w, false⟩] } })) ∧
  (∀ (s : State) (r : Request) (rest : List Request), s.lp.requests = r :: rest →
    (s.lp.restart ≠ .idle ∨ (r.cls ≠ .broadcast ∧ 4 ≤ s.lp.replies.length + s.lp.reservations)) →
    ∀ i ∈ [Instr.identify, .status, .setGroup, .setReporting, .readLinkCounts, .restart, .setTime, .readTime,
        .setSyncRole, .configureActuator, .enableActuator, .disableActuator, .setDryRun, .loadSegments,
        .flushProgram, .clearFault, .readActuator, .defineZone, .setCycleRate, .prepare, .start, .hold,
        .resume, .unload, .release, .resetCycleCount, .readZone, .readAlarms, .ackAlarm, .setScanList,
        .setScanInterval, .bankReset, .writeTemplate, .setDefaultProfile, .validateTemplates, .zeroGauges,
        .readGauges, .setLimitRule, .configureLoop, .configureAe, .readCrackStatus, .configureCapture,
        .trigger, .readCapture, .releaseBlock, .captureStatus, .unknownKindRequest],
      exec i s = .next (arbitrate s))

/-- A request whose payload has not the length its kind implies is refused with MALFORMED, before any other
test: the kinds whose length is fixed. So is a request whose kind is none of the catalogue, a reply or
report kind included; one whose kind is in the catalogue is left to its own command (log 2). A number that
names no channel, zone, bank or block is refused with RANGE. -/
def Obligations.MalformedRequestsAndUnknownNumbers : Prop :=
  (∀ (s : State) (r : Request),
      ∀ x ∈ [(Instr.identify, (0x01 : Byte), 0), (.status, 0x02, 0), (.setGroup, 0x03, 2),
          (.setReporting, 0x04, 4), (.readLinkCounts, 0x05, 0), (.restart, 0x06, 0), (.setTime, 0x10, 8),
          (.readTime, 0x11, 0), (.setSyncRole, 0x12, 1), (.configureActuator, 0x20, 38),
          (.enableActuator, 0x21, 1), (.disableActuator, 0x22, 1), (.setDryRun, 0x23, 2),
          (.flushProgram, 0x25, 2), (.clearFault, 0x26, 1), (.readActuator, 0x27, 1), (.defineZone, 0x30, 20),
          (.setCycleRate, 0x31, 3), (.prepare, 0x32, 1), (.start, 0x33, 10), (.hold, 0x34, 1),
          (.resume, 0x35, 1), (.unload, 0x36, 1), (.release, 0x37, 1), (.resetCycleCount, 0x38, 1),
          (.readZone, 0x39, 1), (.readAlarms, 0x3A, 0), (.ackAlarm, 0x3B, 4), (.setScanInterval, 0x41, 2),
          (.writeTemplate, 0x42, 9), (.setDefaultProfile, 0x43, 5), (.validateTemplates, 0x44, 0),
          (.zeroGauges, 0x45, 0), (.bankReset, 0x46, 1), (.readGauges, 0x47, 2), (.setLimitRule, 0x48, 12),
          (.configureLoop, 0x50, 5), (.configureAe, 0x51, 13), (.readCrackStatus, 0x52, 2),
          (.trigger, 0x61, 0), (.readCapture, 0x62, 5), (.releaseBlock, 0x63, 1), (.captureStatus, 0x64, 0)],
        AtHead s x.2.1 r → r.payload.length ≠ x.2.2 → exec x.1 s = refused s r .malformed) ∧
  (∀ (s : State) (r : Request),
      AtHead s r.kind r →
        (r.kind ∉ requestKinds → exec .unknownKindRequest s = refused s r .malformed) ∧
        (r.kind ∈ requestKinds → exec .unknownKindRequest s = .next (arbitrate s))) ∧
  (∀ (s : State) (r : Request),
    (r.payload.length = 1 → 7 < field r.payload 0 1 →
      ∀ x ∈ [(Instr.enableActuator, (0x21 : Byte)), (.disableActuator, 0x22), (.clearFault, 0x26),
        (.readActuator, 0x27)], AtHead s x.2 r → exec x.1 s = refused s r .range) ∧
    (3 < field r.payload 0 1 →
      ∀ x ∈ [(Instr.defineZone, (0x30 : Byte), 20), (.setCycleRate, 0x31, 3), (.prepare, 0x32, 1),
        (.start, 0x33, 10), (.hold, 0x34, 1), (.resume, 0x35, 1), (.unload, 0x36, 1), (.release, 0x37, 1),
        (.resetCycleCount, 0x38, 1), (.readZone, 0x39, 1), (.bankReset, 0x46, 1), (.releaseBlock, 0x63, 1)],
      r.payload.length = x.2.2 → AtHead s x.2.1 r → exec x.1 s = refused s r .range))

/-- The requests without fields that only read: accepted in every state, with every block as it stands. What
is returned is taken from the state when the request is taken, item by item in the rule's order; how wide
the items of IDENTIFY, STATUS and CAPTURE STATUS are, and the part name and revision in ASCII, are log 14;
a block's trigger time and source behind one presence byte, log 43. -/
def Obligations.PlainReadsAreAcceptedInEveryState : Prop :=
  ∀ (s : State) (r : Request), r.payload = [] →
    let d := s.dequeued
    let locked : Nat := (List.finRange 4).countP fun b => s.cu.blocks[b].state = .locked
    (AtHead s 0x01 r → exec .identify s = accepted s r d
      ([0x4A, 0x4B, 0x2D, 0x38, 0x31, 0x36, 0x41].map some ++ encN 1 s.lp.nodeAddr.toNat ++
        encOpt 1 (s.lp.groupAddr.map fun b => [some b]) ++
        (encN 1 8 ++ encN 1 4 ++ encN 2 256 ++ encN 1 4 ++ encN 1 64 ++ encN 1 32 ++ encN 1 8 ++ encN 1 32 ++
          encN 1 8 ++ encN 1 32 ++ encN 1 16 ++ encN 2 4096 ++ encN 2 256 ++ encN 1 4 ++ encN 2 2048 ++
          encN 1 4 ++ encN 1 4 ++ encN 2 1024))) ∧
    (AtHead s 0x02 r → exec .status s = accepted s r d
      (encN 8 s.hall ++ encN 1 s.tb.role.code ++ encFlag s.tb.syncLost ++
        ((List.finRange 4).map fun z => encN 1 (s.zone z).state.code ++ encN 1 (s.zone z).sub.code ++
          encN 1 (s.zone z).reasons.code ++ encFlag (s.zone z).pendingStart.isSome).flatten ++
        ((List.finRange 8).map fun a => encN 1 (s.chan a).state.code ++ encFlag (s.chan a).dryRun).flatten ++
        ((List.finRange 4).map fun b => encFlag (!s.se.banks[b].online)).flatten ++
        encN 1 s.zs.alarms.length ++ encN 1 (s.zs.alarms.countP fun e => !e.reported) ++
        encFlag s.zs.overflow ++ encN 2 (s.sq.records.map fun y => y.unsent.length).sum ++
        encN 2 s.sq.records.length ++ encN 1 s.cu.state.code ++ encN 1 locked ++
        encOpt 1 (s.lp.groupAddr.map fun b => [some b]) ++ encN 2 s.lp.reporting.level ++
        encFlag s.lp.reporting.strain ++ encFlag s.lp.reporting.capture)) ∧
    (AtHead s 0x11 r → exec .readTime s = accepted s r d
      (encN 8 s.hall ++ encN 8 s.tb.strobeNumber ++ encN 2 s.subPeriod ++ encN 1 s.tb.role.code ++
        encFlag s.tb.syncLost ++ encN 1 s.tb.source.code ++ encN 1 s.tb.subRun ++
        encN 1 s.tb.regainRun ++ encN 4 s.tb.missCount ++ encN 2 s.tb.earlyCount ++
        encOpt 8 (s.tb.pendingSet.map (encN 8)))) ∧
    (AtHead s 0x3A r → exec .readAlarms s = accepted s r d
      (encN 1 s.zs.alarms.length ++ (s.zs.alarms.map alarmItems).flatten ++ encFlag s.zs.overflow)) ∧
    (AtHead s 0x64 r → exec .captureStatus s = accepted s r d
      (encN 1 4 ++ encN 2 2048 ++ encN 1 locked ++ encN 1 s.cu.state.code ++
        ((List.finRange 4).map fun b =>
          let k := s.cu.blocks[b]
          let shown := if k.state = .locked ∨ k.state = .post then k.trigger else none
          encN 1 k.state.code ++ encN 2 k.frames.length ++ encFlag (s.lp.announce.contains b) ++
            encOpt 10 (shown.map triggerItems)).flatten ++
        encN 2 s.cu.missed ++ captureItems s.cu.cfg)) ∧
    ((∀ b : BlockId, ¬ s.cu.blocks[b].isActive) →
      s.cu.state = if s.cu.stalled then .stalled else .idle) ∧
    (∀ b : BlockId, (∀ c : BlockId, c < b → ¬ s.cu.blocks[c].isActive) →
      (s.cu.blocks[b].state = .recording → s.cu.state = .recording) ∧
      (s.cu.blocks[b].state = .post → s.cu.state = .post))

/-- SET GROUP, SET REPORTING, READ LINK COUNTS. RESTART: taken only with every zone IDLE or SAFE; it then
waits for its reply to be sent, by broadcast for the frame being sent, or is due at once: the phase due, in
which RESTART_EFFECT is taken, is log 21. -/
def Obligations.LinkSettingAndRestartRequests : Prop :=
  (∀ (s : State) (r : Request),
    let d := s.dequeued
    let p := r.payload
    let old := encN 2 s.lp.reporting.level ++ encFlag s.lp.reporting.strain ++ encFlag s.lp.reporting.capture
    (AtHead s 0x03 r → p.length = 2 →
      (field p 0 1 = 0 → exec .setGroup s = accepted s r
        { d with lp := { d.lp with groupAddr := none } } (encOpt 1 (s.lp.groupAddr.map fun b => [some b]))) ∧
      (field p 0 1 = 1 → 64 ≤ field p 1 1 → field p 1 1 ≤ 254 → exec .setGroup s = accepted s r
        { d with lp := { d.lp with groupAddr := some (byteAt p 1) } }
        (encOpt 1 (s.lp.groupAddr.map fun b => [some b]))) ∧
      (field p 0 1 = 1 → field p 1 1 < 64 ∨ field p 1 1 = 255 → exec .setGroup s = refused s r .range) ∧
      (1 < field p 0 1 → exec .setGroup s = refused s r .range)) ∧
    (AtHead s 0x04 r → p.length = 4 →
      (∀ strain capture : Bool, field p 2 1 = strain.toNat → field p 3 1 = capture.toNat →
        (field p 0 2 ∈ [64, 256, 1024, 2048] → exec .setReporting s = accepted s r
          { d with lp := { d.lp with reporting := ⟨field p 0 2, strain, capture⟩ } } old) ∧
        (field p 0 2 ∉ [64, 256, 1024, 2048] → exec .setReporting s = refused s r .range)) ∧
      (1 < field p 2 1 ∨ 1 < field p 3 1 → exec .setReporting s = refused s r .range)) ∧
    (AtHead s 0x05 r → p = [] → exec .readLinkCounts s = accepted s r
      { d with lp := { d.lp with counts := ⟨0, 0, 0, 0, 0⟩ } }
      (encN 2 s.lp.counts.check ++ encN 2 s.lp.counts.gap ++ encN 2 s.lp.counts.brk ++
        encN 2 s.lp.counts.length ++ encN 2 s.lp.counts.dropped))) ∧
  (∀ (s : State) (r : Request), AtHead s 0x06 r → r.payload = [] →
    let d := s.dequeued
    ((∀ z, (s.zone z).state = .idle ∨ (s.zone z).state = .safe) →
      (r.cls ≠ .broadcast → exec .restart s =
        accepted s r { d with lp := { d.lp with restart := .awaitReply } } []) ∧
      (r.cls = .broadcast → s.lp.tx.isSome → exec .restart s =
        accepted s r { d with lp := { d.lp with restart := .awaitFrame } } []) ∧
      (r.cls = .broadcast → s.lp.tx = none → exec .restart s =
        accepted s r { d with lp := { d.lp with restart := .due } } [])) ∧
    ((∃ z, (s.zone z).state ≠ .idle ∧ (s.zone z).state ≠ .safe) → exec .restart s = refused s r .state))

/-- The line's events change nothing outside the Link Port, and GAP alone of them moves the oscillator; the
Time Base's requests change nothing outside the Time Base and the link's queues. The actuators' requests
change nothing outside the Actuator Channels and the link's queues, and no channel that they do not name. -/
def Obligations.LineTimeAndActuatorFrames : Prop :=
  (∀ (s t : State) (b : Byte) (stop : StopBit),
      ∀ i ∈ [Instr.byteReceived b stop, .lineReturnsToMark, .lineBreak, .gap], exec i s = .next t →
        t.tb = s.tb ∧ t.ac = s.ac ∧ t.zs = s.zs ∧ t.se = s.se ∧ SameStrain s t ∧ t.cm = s.cm ∧
        t.cu = s.cu ∧ t.pending = s.pending ∧ (i ≠ .gap → t.osc = s.osc) ∧
        t.lp.nodeAddr = s.lp.nodeAddr ∧ t.lp.groupAddr = s.lp.groupAddr ∧ t.lp.replies = s.lp.replies ∧
        t.lp.reservations = s.lp.reservations ∧ t.lp.reporting = s.lp.reporting ∧ t.lp.tx = s.lp.tx ∧
        t.lp.alarmPending = s.lp.alarmPending ∧ t.lp.announce = s.lp.announce ∧
        t.lp.restart = s.lp.restart) ∧
  (∀ (s t : State), ∀ i ∈ [Instr.setTime, .readTime, .setSyncRole], exec i s = .next t →
      t.ac = s.ac ∧ SameZones s t ∧ SameAlarms s t ∧ t.se = s.se ∧ SameStrain s t ∧ t.cm = s.cm ∧
      t.cu = s.cu ∧ t.osc = s.osc ∧ SameLink s t ∧ t.tb.strobeNumber = s.tb.strobeNumber ∧
      t.tb.lastStrobeAt = s.tb.lastStrobeAt ∧ t.tb.source = s.tb.source ∧
      (i = .readTime → t.tb = s.tb) ∧ (i = .setTime → t.tb = { s.tb with pendingSet := t.tb.pendingSet }) ∧
      (i = .setSyncRole → t.tb.pendingSet = s.tb.pendingSet)) ∧
  (∀ (s t : State) (r : Request) (rest : List Request), s.lp.requests = r :: rest →
    ∀ i ∈ [Instr.configureActuator, .enableActuator, .disableActuator, .setDryRun, .loadSegments,
      .flushProgram, .clearFault, .readActuator], exec i s = .next t →
      t.tb = s.tb ∧ SameZones s t ∧ SameAlarms s t ∧ t.se = s.se ∧ SameStrain s t ∧ t.cm = s.cm ∧
      t.cu = s.cu ∧ t.osc = s.osc ∧ SameLink s t ∧
      (∀ a : ActId, (i ∈ [Instr.configureActuator, .loadSegments, .flushProgram] →
          (byteAt r.payload 0).getLsbD a = false → t.chan a = s.chan a) ∧
        (i ∈ [Instr.enableActuator, .disableActuator, .setDryRun, .clearFault, .readActuator] →
          field r.payload 0 1 ≠ a.val → t.chan a = s.chan a)))

/-! ### The Time Base -/

/-- OSCILLATOR_STROBE in INTERNAL, in MASTER and with sync lost: the strobe number rises by one, or a
pending time set is applied; a MASTER drives SYNC high; a FOLLOWER in sync has no oscillator strobe,
and the command has no effect there (log 2).
SUBSTITUTE_STROBE: the strobe, the miss count and the run; sync is lost at the eighth in a row.
SYNC_PULSE_END and REGAIN_RUN_TIMEOUT at their moments. -/
def Obligations.StrobesMoveTheTimeBase : Prop :=
  (∀ s : State,
      (s.tb.role ≠ .follower ∨ s.tb.syncLost = true → ∀ t, s.expire .strobe = some t →
        ∃ u, exec .oscillatorStrobe s = .next u ∧ u.tb = strobed s.tb .oscillator t.osc ∧
          u.osc = t.osc ∧ u.hall = s.tb.pendingSet.elim (500 * (s.tb.strobeNumber + 1)) (500 * (· / 500))) ∧
      (s.tb.role = .follower → s.tb.syncLost = false → exec .oscillatorStrobe s = .next s)) ∧
  (∀ s t : State, s.tb.role = .follower → s.tb.syncLost = false → s.tb.subRun ≤ 7 →
      s.expire .strobe = some t →
      ∃ u, exec .substituteStrobe s = .next u ∧ u.osc = t.osc ∧
        u.tb = { strobed s.tb .substitute t.osc with
          missCount := min (s.tb.missCount + 1) 4294967295
          subRun := s.tb.subRun + 1
          syncLost := s.tb.subRun = 7
          regainRun := 0 }) ∧
  (∀ s t : State,
      (s.expire .syncPulse = some t →
        exec .syncPulseEnd s = .next { t with tb := { t.tb with line := .low } }) ∧
      (s.expire .regain = some t →
        exec .regainRunTimeout s = .next { t with tb := { t.tb with regainRun := 0 } }))

/-- SYNC_EDGE with sync not lost: not looked at outside FOLLOWER; early under 250 microseconds; otherwise a
strobe. With sync lost: the regain run; the sixteenth edge regains sync and takes SYNC from every zone's
reasons, with ALARM-pending when one held it; nothing else changes before its strobe, for it is itself a
strobe unless the oscillator strobe of the same moment has been taken. -/
def Obligations.SyncEdgeRule : Prop :=
  (∀ s : State,
      (s.tb.role ≠ .follower → exec .syncEdge s = .next s) ∧
      (s.tb.role = .follower → s.tb.syncLost = false →
        (s.osc - s.tb.lastStrobeAt < 250 → exec .syncEdge s =
          .next { s with tb := { s.tb with earlyCount := min (s.tb.earlyCount + 1) 65535 } }) ∧
        (250 ≤ s.osc - s.tb.lastStrobeAt → s.osc - s.tb.lastStrobeAt ≤ 750 →
          ∃ u, exec .syncEdge s = .next u ∧ u.osc = s.osc ∧
            u.tb = { strobed s.tb .edge s.osc with subRun := 0 }))) ∧
  (∀ s : State, s.tb.role = .follower → s.tb.syncLost = true →
      let gap := s.osc - s.tb.lastEdgeAt
      (s.tb.regainRun = 0 → exec .syncEdge s =
        .next (arbitrate { s with tb := { s.tb with regainRun := 1, lastEdgeAt := s.osc } })) ∧
      (0 < s.tb.regainRun → gap < 250 → exec .syncEdge s =
        .next (arbitrate { s with tb := { s.tb with earlyCount := min (s.tb.earlyCount + 1) 65535 } })) ∧
      (0 < s.tb.regainRun → 250 ≤ gap → gap ≤ 750 → s.tb.regainRun < 15 → exec .syncEdge s =
        .next (arbitrate { s with tb :=
          { s.tb with regainRun := s.tb.regainRun + 1, lastEdgeAt := s.osc } })) ∧
      (250 ≤ gap → gap ≤ 750 → s.tb.regainRun = 15 → ∃ pending : Bool,
        (pending = true ↔ s.lp.alarmPending = true ∨ ∃ z, (s.zone z).reasons.sync = true) ∧
        let w : State := { s with
          tb := { s.tb with syncLost := false, regainRun := 0, subRun := 0 }
          zs := { s.zs with
            zones := s.zs.zones.map fun x => { x with reasons := { x.reasons with sync := false } } }
          lp := { s.lp with alarmPending := pending } }
        exec .syncEdge s = .next (arbitrate
          (if s.osc = s.tb.lastStrobeAt then w else w.strobe .edge false))))

/-- SET TIME: the tests in the order of R10, and the pending time set. SET SYNC ROLE: with every zone IDLE
the flag, the runs and the counts clear, the pending time set and the schedule's last strobe are kept; a
former MASTER releases SYNC, and one that stays MASTER goes on driving it (log 29). -/
def Obligations.TimeBaseRequests : Prop :=
  (∀ (s : State) (r : Request), AtHead s 0x10 r → r.payload.length = 8 →
      let T := field r.payload 0 8
      let free := (∀ z, ¬ Busy s z) ∧ ∀ z, (s.zone z).pendingStart = none
      (T % 500 ≠ 0 ∨ 9000000000000000000 < T → exec .setTime s = refused s r .range) ∧
      (T % 500 = 0 → T ≤ 9000000000000000000 →
        (¬ free → exec .setTime s = refused s r .state) ∧
        (free → T ≤ s.hall → exec .setTime s = refused s r .late) ∧
        (free → s.hall < T → exec .setTime s = accepted s r
          { s.dequeued with tb := { s.tb with pendingSet := some T } }
          (encOpt 8 (s.tb.pendingSet.map (encN 8)))))) ∧
  (∀ (s : State) (r : Request), AtHead s 0x12 r → r.payload.length = 1 →
      (∀ role : SyncRole, field r.payload 0 1 = role.code →
        ((∀ z, (s.zone z).state = .idle) → exec .setSyncRole s = accepted s r
          { s.dequeued with tb := { s.tb with
            role, syncLost := false, subRun := 0, regainRun := 0, missCount := 0, earlyCount := 0
            line := if s.tb.role = .master ∧ role = .master then s.tb.line else .released } }
          (encN 1 s.tb.role.code)) ∧
        ((∃ z, (s.zone z).state ≠ .idle) → exec .setSyncRole s = refused s r .state)) ∧
      (2 < field r.payload 0 1 → exec .setSyncRole s = refused s r .range))

/-! ### The Actuator Channels -/

/-- FEEDBACK_ARRIVAL in every channel state: the port record, the marks, the count, and outside dry run the
measured record; values beyond their range are saturated. With PRESSURE LOW in STANDBY or ACTIVE, dry run
off, the channel enters FAULT with HYDRAULIC, its current segment is dropped, the queue behind it stays, and
so does all else of the channel, its mark of a latest cycling update (log 24) and the dropped segment's k, j
and hold amplitude (log 33) among it; no other channel changes; and ACTUATOR is raised, MAJOR, against its
zone, which enters SAFE when that leaves it in UNLOAD with no member outside FAULT. -/
def Obligations.FeedbackArrivalRule : Prop :=
  (∀ (s : State) (a : ActId) (force stroke : Int) (status : DriveStatus),
      let c := s.chan a
      let f : Feedback :=
        ⟨min (max force (-3000000)) 3000000, min (max stroke (-100000)) 100000, status⟩
      (status = .normal ∨ c.dryRun = true ∨ c.state = .off ∨ c.state = .fault) →
      exec (.feedbackArrival a force stroke status) s = .next (s.setChan a { c with
        port := f, seen := true, fresh := true, arrivals := min (c.arrivals + 1) 4294967295
        measured := if c.dryRun then c.measured else f })) ∧
  (∀ (s : State) (a : ActId) (force stroke : Int),
      let c := s.chan a
      let f : Feedback :=
        ⟨min (max force (-3000000)) 3000000, min (max stroke (-100000)) 100000, .pressureLow⟩
      c.dryRun = false → c.state = .standby ∨ c.state = .active →
      let d : Channel := { c with
        port := f, measured := f, seen := true, fresh := true, arrivals := min (c.arrivals + 1) 4294967295
        state := .fault, causes := ⟨false, false, false, true⟩
        lastFault := some ⟨⟨false, false, false, true⟩, s.hall, s.zoneOf a, c.prev, f.force⟩
        faultCount := min (c.faultCount + 1) 4294967295, valve := 0, current := none
        dropped := if c.current.isSome then min (c.dropped + 1) 4294967295 else c.dropped
        afterCycle := if c.current.isSome then false else c.afterCycle }
      ∃ t, exec (.feedbackArrival a force stroke .pressureLow) s = .next t ∧ t.chan a = d ∧
        (∀ b, b ≠ a → t.chan b = s.chan b) ∧
        (s.zoneOf a = none → t = arbitrate (s.setChan a d)) ∧
        (∀ z, s.zoneOf a = some z → (t.zone z).state ≠ .ready ∧ (t.zone z).state ≠ .run ∧
          (t.zone z).state ≠ .hold ∧ ∃ cycle, Stamps s z cycle ∧
            let u := (s.setChan a d).raise ⟨.actuator a, z, .major, cycle⟩
            let lost : Prop := (u.zone z).state = .unload ∧
              ∀ b : ActId, (u.zone z).members.getLsbD b = true → (u.chan b).state = .fault
            (¬ lost → t = arbitrate u) ∧
            (lost → t = arbitrate (alarmed (u.setZone z { u.zone z with state := .safe })))))

/-- CONFIGURE ACTUATOR, all selected channels or none: the range tests, the protection of R94, the safe
load brought into the request's own limits. -/
def Obligations.ConfigureActuatorRule : Prop :=
  ∀ (s : State) (r : Request), AtHead s 0x20 r → r.payload.length = 38 →
    let p := r.payload
    let m := byteAt p 0
    let safe := fieldI p 33 4
    let cfg : ChannelConfig :=
      ⟨fieldI p 1 4, fieldI p 5 4, field p 9 4, field p 13 2, field p 15 2, field p 17 2, field p 19 4,
       field p 23 2, fieldI p 25 4, fieldI p 29 4, min (max safe (fieldI p 1 4)) (fieldI p 5 4),
       field p 37 1⟩
    let force (x : Int) : Prop := -3000000 ≤ x ∧ x ≤ 3000000
    let stroke (x : Int) : Prop := -100000 ≤ x ∧ x ≤ 100000
    let inRange : Prop := force cfg.fMin ∧ force cfg.fMax ∧ cfg.fMin ≤ cfg.fMax ∧ 1 ≤ cfg.rateStep ∧
      cfg.rateStep ≤ 100000 ∧ cfg.iLimit ≤ 32767 ∧ cfg.tolerance ≤ 3000000 ∧ 1 ≤ cfg.trackCount ∧
      cfg.trackCount ≤ 2000 ∧ stroke cfg.strokeMin ∧ stroke cfg.strokeMax ∧
      cfg.strokeMin ≤ cfg.strokeMax ∧ force safe
    let protects (a : ActId) : Prop := (∃ z, s.zoneOf a = some z ∧ Busy s z) ∧
      (cfg.fMin < (s.chan a).cfg.fMin ∨ (s.chan a).cfg.fMax < cfg.fMax ∨
        cfg.strokeMin < (s.chan a).cfg.strokeMin ∨ (s.chan a).cfg.strokeMax < cfg.strokeMax ∨
        cfg.safeLoad ≠ (s.chan a).cfg.safeLoad)
    (m = 0 ∨ ¬ inRange → exec .configureActuator s = refused s r .range) ∧
    (m ≠ 0 → inRange → (∃ a : ActId, m.getLsbD a = true ∧ protects a) →
      exec .configureActuator s = refused s r .protect) ∧
    (m ≠ 0 → inRange → (∀ a : ActId, m.getLsbD a = true → ¬ protects a) → ∃ (t : State) (w : Wire),
      exec .configureActuator s = accepted s r t w ∧
      (∀ a : ActId, t.chan a = if m.getLsbD a then { s.chan a with cfg } else s.chan a) ∧
      t = { s.dequeued with ac := t.ac } ∧
      w = encList ((maskActs m).map fun _ => encI 4 cfg.safeLoad ++ encFlag (cfg.safeLoad ≠ safe)))

/-- ENABLE ACTUATOR (OFF, feedback seen), CLEAR FAULT (FAULT, its zone not RUN, HOLD or UNLOAD) and DISABLE
ACTUATOR (no zone, or an IDLE one): what each sets, and the STATE refusals. -/
def Obligations.ChannelStateRequests : Prop :=
  ∀ (s : State) (r : Request) (a : ActId), r.payload.length = 1 → field r.payload 0 1 = a.val →
    let c := s.chan a
    (AtHead s 0x21 r →
      (c.state = .off → c.seen = true → exec .enableActuator s =
        accepted s r (s.dequeued.setChan a (standby c)) (encI 4 c.measured.force)) ∧
      (c.state ≠ .off ∨ c.seen = false → exec .enableActuator s = refused s r .state)) ∧
    (AtHead s 0x26 r →
      (c.state = .fault → (∀ z, s.zoneOf a = some z → ¬ Busy s z) → exec .clearFault s =
        accepted s r (s.dequeued.setChan a (standby c)) []) ∧
      (c.state ≠ .fault ∨ (∃ z, s.zoneOf a = some z ∧ Busy s z) →
        exec .clearFault s = refused s r .state)) ∧
    (AtHead s 0x22 r →
      ((∀ z, s.zoneOf a = some z → (s.zone z).state = .idle) → exec .disableActuator s =
        accepted s r (s.dequeued.setChan a { c with
          state := .off, valve := 0, current := none, queued := [], causes := ⟨false, false, false, false⟩ })
        (encN 1 c.state.code ++ encN 1 (c.queued.length + (if c.current.isSome then 1 else 0)))) ∧
      ((∃ z, s.zoneOf a = some z ∧ (s.zone z).state ≠ .idle) →
        exec .disableActuator s = refused s r .state))

/-- SET DRY RUN: a channel above 7 or a setting other than 0 and 1 is out of range; only in OFF; the reply
carries the previous setting; from on to off the measured record takes the port record, otherwise it stays;
the feedback-seen mark does not change, and ENABLE ACTUATOR requires it in dry run as well. -/
def Obligations.SetDryRunRule : Prop :=
  ∀ (s : State) (r : Request),
    (AtHead s 0x23 r → r.payload.length = 2 →
      (7 < field r.payload 0 1 ∨ 1 < field r.payload 1 1 → exec .setDryRun s = refused s r .range) ∧
      (∀ (a : ActId) (on : Bool), field r.payload 0 1 = a.val → field r.payload 1 1 = on.toNat →
        let c := s.chan a
        let ok (d : Channel) := accepted s r (s.dequeued.setChan a d) (encFlag c.dryRun)
        (c.state ≠ .off → exec .setDryRun s = refused s r .state) ∧
        (c.state = .off → c.dryRun = false → on = true →
          exec .setDryRun s = ok { c with dryRun := true }) ∧
        (c.state = .off → c.dryRun = true → on = false →
          exec .setDryRun s = ok { c with dryRun := false, measured := c.port }) ∧
        (c.state = .off → c.dryRun = on → exec .setDryRun s = ok c))) ∧
    (∀ a : ActId, AtHead s 0x21 r → r.payload.length = 1 → field r.payload 0 1 = a.val →
      (s.chan a).dryRun = true → (s.chan a).seen = false → exec .enableActuator s = refused s r .state)

/-- LOAD SEGMENTS: a bad kind or length, a field out of range, a queue without room, or the whole list
appended to the queue of every selected channel. FLUSH PROGRAM, without and with abort current; that k, j and
the hold amplitude keep their values when a segment is aborted is log 33. -/
def Obligations.LoadAndFlushPrograms : Prop :=
  (∀ (s : State) (r : Request), AtHead s 0x24 r →
    let p := r.payload
    let m := byteAt p 0
    let n := field p 1 1
    let held (a : ActId) : Nat := (s.chan a).queued.length + (if (s.chan a).current.isSome then 1 else 0)
    (p.length < 2 → exec .loadSegments s = refused s r .malformed) ∧
    (2 ≤ p.length → cutSegments n (p.drop 2) = none → exec .loadSegments s = refused s r .malformed) ∧
    (2 ≤ p.length → ∀ cuts, cutSegments n (p.drop 2) = some cuts →
      (readAll readSegment cuts = none ∨ m = 0 ∨ n < 1 ∨ 8 < n →
        exec .loadSegments s = refused s r .range) ∧
      (∀ segs, readAll readSegment cuts = some segs → m ≠ 0 → 1 ≤ n → n ≤ 8 →
        ((∃ a : ActId, m.getLsbD a = true ∧ 32 - n < held a) → exec .loadSegments s = refused s r .full) ∧
        ((∀ a : ActId, m.getLsbD a = true → held a ≤ 32 - n) → ∃ t : State,
          exec .loadSegments s =
            accepted s r t (encList ((maskActs m).map fun a => encN 1 (held a + n))) ∧
          (∀ a : ActId, t.chan a =
            if m.getLsbD a then { s.chan a with queued := (s.chan a).queued ++ segs } else s.chan a) ∧
          t = { s.dequeued with ac := t.ac })))) ∧
  (∀ (s : State) (r : Request), AtHead s 0x25 r → r.payload.length = 2 →
    let m := byteAt r.payload 0
    let running (a : ActId) : Prop :=
      ∃ z, s.zoneOf a = some z ∧ ((s.zone z).state = .run ∨ (s.zone z).state = .hold)
    (m = 0 ∨ 1 < field r.payload 1 1 → exec .flushProgram s = refused s r .range) ∧
    (m ≠ 0 → field r.payload 1 1 = 0 → ∃ t : State,
      exec .flushProgram s = accepted s r t
        (encList ((maskActs m).map fun a => encN 1 (s.chan a).queued.length ++ encFlag false)) ∧
      (∀ a : ActId, t.chan a =
        if m.getLsbD a then { s.chan a with queued := [] } else s.chan a) ∧
      t = { s.dequeued with ac := t.ac }) ∧
    (m ≠ 0 → field r.payload 1 1 = 1 → (∃ a : ActId, m.getLsbD a = true ∧ running a) →
      exec .flushProgram s = refused s r .state) ∧
    (m ≠ 0 → field r.payload 1 1 = 1 → (∀ a : ActId, m.getLsbD a = true → ¬ running a) → ∃ t : State,
      exec .flushProgram s = accepted s r t
        (encList ((maskActs m).map fun a =>
          encN 1 ((s.chan a).queued.length + (if (s.chan a).current.isSome then 1 else 0)) ++
            encFlag (s.chan a).current.isSome)) ∧
      (∀ a : ActId, t.chan a =
        if m.getLsbD a then { s.chan a with queued := [], current := none, afterCycle := false }
        else s.chan a) ∧ t = { s.dequeued with ac := t.ac }))

/-- How the segments of LOAD SEGMENTS are cut from their bytes and each read: the kinds' lengths, the places
and ranges of the fields, the presence bits, and the meaning of an absent field. How the fields of CONFIGURE
CAPTURE are read, and their ranges; a zone mask with a bit above 3 is out of range (log 16). -/
def Obligations.SegmentAndCaptureFields : Prop :=
  (∀ (n : Nat) (bytes : List Byte) (cuts : List (List Byte)), cutSegments n bytes = some cuts ↔
    cuts.length = n ∧ cuts.flatten = bytes ∧ ∀ b ∈ cuts, (b.length = 13 ∧ field b 0 1 = 1) ∨
      (b.length = 9 ∧ field b 0 1 = 2) ∨ (b.length = 19 ∧ field b 0 1 = 3)) ∧
  (∀ (cuts : List (List Byte)) (segs : List Segment), readAll readSegment cuts = some segs ↔
    cuts.map readSegment = segs.map some) ∧
  (∀ b : List Byte,
    let bits := field b 1 1
    let force (x : Int) : Prop := -3000000 ≤ x ∧ x ≤ 3000000
    let tag (off : Nat) : Option Nat := if bits.testBit 1 then some (field b off 2) else none
    let action (off : Nat) : Nat := if bits.testBit 2 then field b off 1 else 0
    let final (off : Nat) : EndAction := if action off = 1 then .holdZone else .next
    let offset : Nat := if bits.testBit 0 then field b 14 2 else 0
    let ramp : Prop := bits < 8 ∧ bits.testBit 0 = false ∧ force (fieldI b 2 4) ∧ 1 ≤ field b 6 4 ∧
      field b 6 4 ≤ 1000000 ∧ action 12 ≤ 1
    let dwell : Prop := bits < 8 ∧ bits.testBit 0 = false ∧ 1 ≤ field b 2 4 ∧ field b 2 4 ≤ 3600000 ∧
      action 8 ≤ 1
    let cycle : Prop := bits < 8 ∧ force (fieldI b 2 4) ∧ field b 6 4 ≤ 3000000 ∧ offset ≤ 1023 ∧
      action 18 ≤ 1
    (field b 0 1 = 1 → (¬ ramp → readSegment b = none) ∧
      (ramp → readSegment b = some (.ramp ⟨fieldI b 2 4, field b 6 4, tag 10, final 12⟩))) ∧
    (field b 0 1 = 2 → (¬ dwell → readSegment b = none) ∧
      (dwell → readSegment b = some (.dwell ⟨field b 2 4, tag 6, final 8⟩))) ∧
    (field b 0 1 = 3 → (¬ cycle → readSegment b = none) ∧
      (cycle → readSegment b = some (.cycle ⟨fieldI b 2 4, field b 6 4, field b 10 4, offset, tag 16,
        final 18⟩)))) ∧
  (∀ (p : List Byte) (n : Nat),
    let off := 1 + 2 * n
    let kind (i : Nat) := field p (1 + 2 * i) 1
    let index (i : Nat) := field p (2 + 2 * i) 1
    let inRange : Prop := 1 ≤ n ∧ n ≤ 8 ∧
      (∀ i, i < n → 1 ≤ kind i ∧ kind i ≤ 5 ∧ (kind i ≤ 4 → index i ≤ 7)) ∧
      field p off 2 ≤ 2047 ∧ field p (off + 2) 1 ≤ 3 ∧ field p (off + 3) 1 ≤ 15 ∧ field p (off + 4) 1 ≤ 1
    (¬ inRange → readCapture p n = none) ∧
    (inRange → ∃ cfg, readCapture p n = some cfg ∧ cfg.signals.length = n ∧
      (∀ i x, cfg.signals[i]? = some x → x.code = (kind i, index i)) ∧ cfg.pre = field p off 2 ∧
      cfg.severity.code = field p (off + 2) 1 ∧ cfg.zoneMask.toNat = field p (off + 3) 1 ∧
      cfg.continues = (field p (off + 4) 1 = 1)))

/-- READ ACTUATOR: taken in every channel state; it clears the five sticky flags and nothing else, and
returns the channel items, the program items and the pipeline items. The places of a CYCLE's items (a state
byte before the count, j and the hold amplitude in HOLD only) are the model's choice (log 34), and the values
of k, j and the hold amplitude after a stretch has ended are log 33. The items of the last fault, the kind
and tag of the current segment and the two ends of the peak tracking record stand behind one presence byte
each (log 43). -/
def Obligations.ReadActuatorClearsTheStickyFlags : Prop :=
  ∀ (s : State) (r : Request) (a : ActId), AtHead s 0x27 r → r.payload.length = 1 →
    field r.payload 0 1 = a.val →
    let c := s.chan a
    let g := c.cfg
    let zone (z : Option ZoneId) : Wire := encN 1 (z.elim 255 Fin.val)
    let port (f : Feedback) : Wire :=
      encI 4 f.force ++ encI 4 f.stroke ++ encN 1 (if f.status = .normal then 0 else 1)
    let tag (t : Option Nat) : Wire := encOpt 2 (t.map (encN 2))
    let held : Bool := (s.zoneOf a).any fun z => (s.zone z).state = .hold
    let channel : Wire := encN 1 c.state.code ++ encFlag c.dryRun ++ zone (s.zoneOf a) ++
      (encI 4 g.fMin ++ encI 4 g.fMax ++ encN 4 g.rateStep ++ encN 2 g.kp ++ encN 2 g.ki ++ encN 2 g.iLimit ++
        encN 4 g.tolerance ++ encN 2 g.trackCount ++ encI 4 g.strokeMin ++ encI 4 g.strokeMax ++
        encI 4 g.safeLoad ++ encN 1 g.adapt) ++ port c.measured ++ port c.port ++
      encFlag c.seen ++ encFlag c.fresh ++ encN 4 c.arrivals ++ encN 4 c.staleCount ++ encN 1 c.staleRun ++
      encN 2 c.trackRun ++ encN 1 c.causes.code ++
      encOpt 18 (c.lastFault.map fun f => encN 1 f.causes.code ++ encN 8 f.hall ++ zone f.zone ++
        encI 4 f.prev ++ encI 4 f.force) ++ encN 4 c.faultCount
    let current (kind : Nat) (t : Option Nat) (progress : Wire) : Wire :=
      encN 1 1 ++ encN 1 kind ++ tag t ++ progress
    let cycle (n state : Nat) : Wire := encN 1 state ++ encN 4 n ++ encN 1 c.k ++
      (if held then encN 1 c.j ++ encN 4 c.aHold else [])
    let program : Wire := encN 1 (c.queued.length + (if c.current.isSome then 1 else 0)) ++
      (match c.current with
        | none => encN 1 0 ++ List.replicate 4 none
        | some (.ramp x _) => current 1 x.tag (encI 4 c.programValue)
        | some (.dwell x left) => current 2 x.tag (encN 4 left)
        | some (.cycle x .waiting) => current 3 x.tag (cycle 0 0)
        | some (.cycle x (.cycling n)) => current 3 x.tag (cycle n 1)) ++
      encI 4 c.programValue ++ encN 4 c.completed ++ tag c.lastTag ++ encN 4 c.underruns ++
      encN 4 c.dropped ++ encFlag c.underrunFlag
    let pipeline : Wire := encI 4 c.prev ++ encI 4 c.p0 ++ encI 4 c.p1 ++ encI 4 c.err ++ encI 4 c.pTerm ++
      encI 2 c.iTerm ++ encI 2 c.v ++ encI 4 c.integrator ++ encI 2 c.valve ++ encI 2 c.gain ++
      encOpt 8 (c.track.map fun t => encI 4 t.1 ++ encI 4 t.2) ++ encFlag c.aligned ++ encN 2 c.unloadRem ++
      encFlag c.rateFlag ++ encFlag c.limitFlag ++ encFlag c.driveFlag ++ encFlag c.gainFlag ++
      encN 4 c.rateClamps ++ encN 4 c.limitClamps
    exec .readActuator s = accepted s r (s.dequeued.setChan a { c with
      rateFlag := false, limitFlag := false, driveFlag := false, gainFlag := false
      underrunFlag := false }) (channel ++ program ++ pipeline)

/-- The saturation of the profile value at the force range, the rate clamp and the limit clamp of one
update: P0, P1, the command, the flags and the counts, the limit count once however many of the two act. The
servo of one update: the P term, the candidate integrator, the I term, the clamped output with its DRIVE
flag, and the conditional integration. The phase increment is that of the rounding rule, and for every legal
cycle rate it lies between 21,475 and 42,949,673. -/
def Obligations.ClampsServoAndPhase : Prop :=
  (∀ (c : Channel) (p : Int),
      let p0 := min (max p (-3000000)) 3000000
      let p1 := min (max p0 (c.prev - c.cfg.rateStep)) (c.prev + c.cfg.rateStep)
      let cmd := min (max p1 c.cfg.fMin) c.cfg.fMax
      c.clamps p = ({ c with
        p0, p1
        rateFlag := c.rateFlag || p1 ≠ p0
        rateClamps := if p1 = p0 then c.rateClamps else min (c.rateClamps + 1) 4294967295
        limitFlag := c.limitFlag || p0 ≠ p || cmd ≠ p1
        limitClamps := if p0 = p ∧ cmd = p1 then c.limitClamps
          else min (c.limitClamps + 1) 4294967295 }, cmd)) ∧
  (∀ (c : Channel) (e : Int),
      let bound : Int := c.cfg.iLimit * 4096
      let cand := min (max (c.integrator + c.cfg.ki * e) (-bound)) bound
      let sum := roundDiv (c.cfg.kp * e) 4096 + roundDiv cand 4096
      let v := min (max sum (-32767)) 32767
      let d := c.servo e
      d.err = e ∧ d.pTerm = roundDiv (c.cfg.kp * e) 4096 ∧ d.iTerm = roundDiv cand 4096 ∧ d.v = v ∧
      d.driveFlag = (c.driveFlag || v ≠ sum) ∧
      ((32767 < sum ∧ 0 < e) ∨ (sum < -32767 ∧ e < 0) →
        d.integrator = min (max c.integrator (-bound)) bound) ∧
      (¬((32767 < sum ∧ 0 < e) ∨ (sum < -32767 ∧ e < 0)) → d.integrator = cand)) ∧
  (∀ f : Nat, 10 ≤ f → f ≤ 20000 →
    phaseInc f = (f * 2 ^ 32 + 1000000) / 2000000 ∧ 21475 ≤ phaseInc f ∧ phaseInc f ≤ 42949673)

/-- Every entry of the sine table is 32,767 times the sine of its angle, rounded to the nearest integer; its
two symmetries; and the values that the rule lists. -/
def Obligations.SineTableIsTheRoundedSine : Prop :=
  (∀ k : Nat, k < 1024 →
    |(sine k : ℝ) - 32767 * Real.sin (2 * Real.pi * (k : ℝ) / 1024)| ≤ 1 / 2) ∧
  (∀ k : Nat, k ≤ 512 → sine (512 - k) = sine k) ∧
  (∀ k : Nat, k ≤ 1024 → sine (1024 - k) = -sine k) ∧
  [0, 1, 64, 128, 192, 256, 512, 768].map sine = [0, 201, 12539, 23170, 30273, 32767, 0, -32767]

/-- What a channel's program gives an update, a cycling segment apart. In RUN: a RAMP's step and a DWELL's
count, their completion, the segment that becomes current and gives the same update's value, underrun; the
program value set from the previous command at a start. A CYCLE becomes current as WAITING and gives the
program value, at an update that falls at a wrap too (log 17). In HOLD the segment is
suspended; in UNLOAD it is dropped and the command ramps to the safe load; in SAFE the safe load; else the
previous command. An update in HOLD or UNLOAD ends the mark that a CYCLE has just completed (log 18), and the
drop keeps k, j and the hold amplitude (log 33). -/
def Obligations.ProgramConsumption : Prop :=
  ∀ (c : Channel) (v : ZoneView),
    let toward (x target : Int) (step : Nat) : Int :=
      if (target - x).natAbs ≤ step then target else if x < target then x + step else x - step
    let safe := min (max c.cfg.safeLoad c.cfg.fMin) c.cfg.fMax
    let first : Bool := v.started || v.index = some 0
    let x : Int := if v.started then c.prev else c.programValue
    let e : Channel :=
      { c with programValue := x, inUnderrun := c.inUnderrun && !first, afterCycle := false }
    let done (tag : Option Nat) : Channel :=
      { e with current := none, completed := min (c.completed + 1) 4294967295, lastTag := tag }
    let rem : Nat := if v.unloadFirst then 0 else c.unloadRem
    (v.state = .run →
      (∀ g r, c.current = some (.ramp g r) →
        let p0 := toward x g.target ((r + g.rate) / 2000)
        (p0 = g.target → c.profile (some v) = ⟨done g.tag, p0, g.final = .holdZone⟩) ∧
        (p0 ≠ g.target → c.profile (some v) =
          ⟨{ e with current := some (.ramp g ((r + g.rate) % 2000)) }, p0, false⟩)) ∧
      (∀ g left, c.current = some (.dwell g left) →
        (left ≤ 1 → c.profile (some v) = ⟨done g.tag, x, g.final = .holdZone⟩) ∧
        (1 < left → c.profile (some v) = ⟨{ e with current := some (.dwell g (left - 1)) }, x, false⟩)) ∧
      (c.current = none → c.queued = [] → c.profile (some v) =
        ⟨if e.inUnderrun then e else { e with
          inUnderrun := true, underruns := min (c.underruns + 1) 4294967295
          underrunFlag := true }, x, false⟩) ∧
      (c.current = none → ∀ q rest, c.queued = q :: rest →
        let takes (start : Current) : Prop := c.profile (some v) =
          ({ c with queued := rest, inUnderrun := false, current := some start }).profile (some v)
        (∀ g, q = .ramp g → takes (.ramp g 0)) ∧ (∀ g, q = .dwell g → takes (.dwell g (2 * g.duration))) ∧
        (∀ g, q = .cycle g → c.afterCycle = false ∨ v.started = true → c.profile (some v) =
          ⟨{ e with queued := rest, inUnderrun := false, current := some (.cycle g .waiting) }, x, false⟩))) ∧
    (v.state = .hold → (∀ g n, c.current ≠ some (.cycle g (.cycling n))) →
      c.profile (some v) = ⟨{ c with inUnderrun := false, afterCycle := false }, c.programValue, false⟩) ∧
    (v.state = .unload → c.profile (some v) =
      ⟨{ c with
        current := none
        dropped := if c.current.isSome then min (c.dropped + 1) 4294967295 else c.dropped
        inUnderrun := false, afterCycle := false, unloadRem := (rem + v.unloadRate) % 2000 },
        toward c.prev safe ((rem + v.unloadRate) / 2000), false⟩) ∧
    (v.state = .safe → c.profile (some v) = ⟨c, safe, false⟩) ∧
    (v.state = .idle ∨ v.state = .ready → c.profile (some v) = ⟨c, c.prev, false⟩) ∧
    c.profile none = ⟨c, c.prev, false⟩

/-- A CYCLE segment at an update: WAITING until a wrap in RUN after the update at which it became current
(log 17), the start strobe among the updates, which takes the program value from the previous command; begun
there as the first cycle of a stretch, or directly after a completed CYCLE in its predecessor's stretch, a
HOLD and a RESUME between the two strobes included (log 18); the count, the ramp-in and the completion at
each later wrap, k, j and the hold amplitude kept beyond it (log 33); a new stretch at the first update
after a RESUME; the ramp-out in HOLD; and the profile value from the zone's phase, the phase offset, the
effective amplitude and the gain. -/
def Obligations.CycleSegments : Prop :=
  ∀ (c : Channel) (v : ZoneView),
    let wrap : Prop := ∃ n, v.index = some n ∧ 1 ≤ n ∧ (n - 1) * v.inc / 2 ^ 32 < n * v.inc / 2 ^ 32
    let resumed : Prop := v.index = some 0 ∧ v.started = false
    let amplitude (k full : Nat) : Nat :=
      if v.nin = 0 then full else (2 * (full * min (k + 1) v.nin) + v.nin) / (2 * v.nin)
    let driven (d : Channel) (g : CycleSegment) : Int := v.index.elim g.mean fun n =>
      g.mean + roundDiv (roundDiv (d.aEff * d.gain) 16384 *
        sine ((n * v.inc % 2 ^ 32 / 2 ^ 22 + g.offset) % 1024)) 32767
    let e : Channel := { c with
      programValue := if v.started then c.prev else c.programValue
      inUnderrun := c.inUnderrun && !v.started, afterCycle := false }
    (v.state = .run → ¬ resumed →
      (∀ g, c.current = some (.cycle g .waiting) →
        (¬ wrap → c.profile (some v) = ⟨e, e.programValue, false⟩) ∧
        (wrap →
          let d := { e with current := some (.cycle g (.cycling 0)), k := 0, aEff := amplitude 0 g.amplitude }
          c.profile (some v) = ⟨d, driven d g, false⟩)) ∧
      (∀ g n, c.current = some (.cycle g (.cycling n)) →
        let n' := min (n + 1) 4294967295
        let k' := min (c.k + 1) 255
        (¬ wrap → c.profile (some v) = ⟨e, driven e g, false⟩) ∧
        (wrap → g.count ≠ 0 → g.count ≤ n' → c.profile (some v) =
          ⟨{ e with
            current := none, completed := min (c.completed + 1) 4294967295, lastTag := g.tag, k := k'
            afterCycle := g.final = .next }, g.mean, g.final = .holdZone⟩) ∧
        (wrap → g.count = 0 ∨ n' < g.count →
          let d := { e with
            current := some (.cycle g (.cycling n')), k := k', aEff := amplitude k' g.amplitude }
          c.profile (some v) = ⟨d, driven d g, false⟩))) ∧
    (v.state = .run → c.current = none → c.afterCycle = true → v.started = false →
      ∀ g rest, c.queued = .cycle g :: rest →
      let d := { e with
        queued := rest, inUnderrun := false, current := some (.cycle g (.cycling 0))
        aEff := amplitude c.k g.amplitude }
      c.profile (some v) = ⟨d, driven d g, false⟩) ∧
    (v.state = .run → resumed →
      (∀ g, c.current = some (.cycle g .waiting) →
        c.profile (some v) = ⟨{ e with inUnderrun := false }, c.programValue, false⟩) ∧
      (∀ g n, c.current = some (.cycle g (.cycling n)) →
        let d := { e with inUnderrun := false, k := 0, j := 0, aHold := 0, aEff := amplitude 0 g.amplitude }
        c.profile (some v) = ⟨d, driven d g, false⟩)) ∧
    (v.state = .hold → ∀ g n, c.current = some (.cycle g (.cycling n)) → ∀ j,
      (wrap → j = c.j + 1) → (¬ wrap → j = c.j) →
      let out : Prop := 1 ≤ j ∧ v.nout ≤ j
      let d (aEff : Nat) : Channel := { c with afterCycle := false, inUnderrun := false, j, aEff }
      (j = 0 → c.profile (some v) = ⟨d c.aHold, driven (d c.aHold) g, false⟩) ∧
      (1 ≤ j → ¬ out →
        let a := (2 * (c.aHold * (v.nout - j)) + v.nout) / (2 * v.nout)
        c.profile (some v) = ⟨d a, driven (d a) g, false⟩) ∧
      (out → c.profile (some v) = ⟨d 0, g.mean, false⟩))

/-- One update of a channel in STANDBY or ACTIVE: the wrap work (peak compensation, then an empty peak
tracking record) before the profile value and the cycle-aligned mark, of a wrap after it, of a RESUME before
it; the clamps; the error; the fresh mark with the stale run, the tracking run, the stroke and the causes
they give; then, with no cause, the servo, the peak tracking and the close; with a cause, the entry into
FAULT (what it leaves of the servo's terms: log 22; that it sets the program value: log 41; a dropped CYCLE's
k, j and hold amplitude: log 33). Dry run throughout. OFF and FAULT: none. -/
def Obligations.ChannelUpdateRule : Prop :=
  (∀ (c : Channel) (v : ZoneView),
    let wrap : Prop := ∃ n, v.index = some n ∧ 1 ≤ n ∧ (n - 1) * v.inc / 2 ^ 32 < n * v.inc / 2 ^ 32
    let resumed : Prop := v.state = .run ∧ v.index = some 0 ∧ v.started = false
    let program (w : Channel) (aligned : Channel → Bool) : Prop := c.program (some v) =
      { w.profile (some v) with chan := { (w.profile (some v)).chan with
        aligned := aligned (w.profile (some v)).chan } }
    (¬ wrap → ¬ resumed → program c fun _ => c.aligned) ∧
    (resumed → program { c with track := none, aligned := c.isCycling } fun _ => c.isCycling) ∧
    (wrap → c.wasCycling = false ∨ c.aligned = false ∨ c.aEff = 0 ∨ c.cfg.adapt = 0 ∨ c.track = none →
      program { c with track := none } fun d => c.wasCycling || d.isCycling) ∧
    (wrap → c.wasCycling = true → c.aligned = true → c.aEff ≠ 0 → c.cfg.adapt ≠ 0 →
      ∀ hi lo, c.track = some (hi, lo) →
      let g := c.gain + roundDiv (c.cfg.adapt * (2 * c.aEff - (hi - lo)) * 16384) (2 * c.aEff * 256)
      let gain := min (max g 8192) 32768
      program { c with gain, gainFlag := c.gainFlag || gain ≠ g, track := none } fun _ => true)) ∧
  (∀ (c : Channel) (view : Option ZoneView) (hall : Nat),
    c.state = .off ∨ c.state = .fault → c.update view hall = (c, ⟨false, false, false, false⟩)) ∧
  (∀ (c : Channel) (view : Option ZoneView) (hall : Nat), c.state = .standby ∨ c.state = .active →
    let inState (l : List ZoneState) : Bool := view.any fun v => l.contains v.state
    let c₁ : Channel :=
      { c with state := if inState [.run, .hold, .unload, .safe] then .active else c.state }
    let r : Profile2 := view.elim (c₁.profile none) fun v => c₁.program (some v)
    let d := (r.chan.clamps r.p0).1
    let cmd := (r.chan.clamps r.p0).2
    let f : Int := if d.dryRun then d.prev else d.measured.force
    let err := min (max (cmd - f) (-8388607)) 8388607
    let stale : Bool := !d.dryRun && !d.fresh
    let judged : Channel := { d with
      fresh := false
      staleRun := if stale then min (d.staleRun + 1) 4 else 0
      staleCount := if stale then min (d.staleCount + 1) 4294967295 else d.staleCount
      trackRun := if d.dryRun = true ∨ d.cfg.tolerance = 0 ∨ err.natAbs ≤ d.cfg.tolerance then 0
        else min (d.trackRun + 1) 2001
      programValue := if inState [.run, .hold] then d.p0 else d.programValue }
    let causes : FaultCauses := if d.dryRun then ⟨false, false, false, false⟩ else
      ⟨d.cfg.trackCount < judged.trackRun,
        d.measured.stroke < d.cfg.strokeMin || d.cfg.strokeMax < d.measured.stroke,
        4 ≤ judged.staleRun, false⟩
    (causes = ⟨false, false, false, false⟩ →
      let y := judged.servo err
      c.update view hall = ({ y with
        track := some (d.track.elim (f, f) fun t => (max t.1 f, min t.2 f))
        prev := cmd
        valve := if d.dryRun then 0 else y.v
        measured := { d.measured with force := if d.dryRun then cmd else d.measured.force }
        wasCycling := d.isCycling },
        ⟨false, r.holdZone,
          inState [.unload] && cmd = min (max d.cfg.safeLoad d.cfg.fMin) d.cfg.fMax,
          view.any fun v => v.wrap && v.state = .hold && d.isCycling && (1 ≤ d.j && v.nout ≤ d.j)⟩)) ∧
    (causes ≠ ⟨false, false, false, false⟩ →
      c.update view hall = ({ judged with
        state := .fault, prev := cmd, err, causes
        lastFault := some ⟨causes, hall, view.map ZoneView.zone, cmd, d.measured.force⟩
        faultCount := min (d.faultCount + 1) 4294967295
        valve := 0, current := none
        dropped := if d.current.isSome then min (d.dropped + 1) 4294967295 else d.dropped
        afterCycle := d.afterCycle && !d.current.isSome
        wasCycling := false }, ⟨true, r.holdZone, false, false⟩)))

/-- Whenever a command issues a strobe, that is, moves the moment of the latest strobe, every channel that
was in STANDBY or ACTIVE has its command within F min and F max in force, the update at which it faults
included, and a channel in OFF or FAULT keeps its previous command, valve output, integrator and gain; a
command of the three that issues no strobe changes no channel. The premise, F min not above F max, is one
that every step keeps. -/
def Obligations.StrobesCommandWithinTheLimits : Prop :=
  ∀ (s t : State), (∀ a, (s.chan a).cfg.fMin ≤ (s.chan a).cfg.fMax) →
    ∀ i ∈ [Instr.oscillatorStrobe, .substituteStrobe, .syncEdge], exec i s = .next t →
    (t.tb.lastStrobeAt = s.tb.lastStrobeAt → t.ac = s.ac) ∧
    (t.tb.lastStrobeAt ≠ s.tb.lastStrobeAt → ∀ a : ActId,
      ((s.chan a).state = .off ∨ (s.chan a).state = .fault →
        (t.chan a).state = (s.chan a).state ∧ (t.chan a).prev = (s.chan a).prev ∧
        (t.chan a).valve = (s.chan a).valve ∧ (t.chan a).integrator = (s.chan a).integrator ∧
        (t.chan a).gain = (s.chan a).gain) ∧
      ((s.chan a).state = .standby ∨ (s.chan a).state = .active →
        (s.chan a).cfg.fMin ≤ (t.chan a).prev ∧ (t.chan a).prev ≤ (s.chan a).cfg.fMax))

/-! ### The Zone Supervisor -/

/-- DEFINE ZONE: the range tests, the STATE refusals, and the zone's configuration after it; the counter and
the guard run become 0, every other field of the zone stays. The zone's state stands first in the reply (06
R106, log 14). SET CYCLE RATE: range, protection, the rate and its phase increment; the zone's state stands
first in the reply (log 14). READ ZONE: accepted in every state, nothing changes, and what it returns: the
clock's items only when the clock ran at the latest strobe (log 12), the sub-state outside HOLD as it last
stood (log 30); the window's two bounds and the clock's n, phase index and wrap number stand behind one
presence byte each (log 43). -/
def Obligations.ZoneConfigurationRequests : Prop :=
  (∀ (s : State) (r : Request) (z : ZoneId), AtHead s 0x30 r → r.payload.length = 20 →
    field r.payload 0 1 = z.val →
    let p := r.payload
    let lo := fieldI p 9 4
    let hi := fieldI p 13 4
    let windowOk : Prop := field p 8 1 = 0 ∨
      (field p 8 1 = 1 ∧ -24000000 ≤ lo ∧ lo ≤ hi ∧ hi ≤ 24000000)
    let inRange : Prop := 1 ≤ field p 4 4 ∧ field p 4 4 ≤ 1000000 ∧ windowOk ∧ field p 17 1 ≤ 3 ∧
      1 ≤ field p 18 2
    let free : Prop := (s.zone z).state = .idle ∧
      ∀ y, y ≠ z → (s.zone y).members &&& byteAt p 1 = 0
    (¬ inRange → exec .defineZone s = refused s r .range) ∧
    (inRange → ¬ free → exec .defineZone s = refused s r .state) ∧
    (inRange → free → ∀ capture : PhaseCapture, capture.code = field p 17 1 →
      exec .defineZone s = accepted s r (s.dequeued.setZone z { s.zone z with
        members := byteAt p 1, nin := field p 2 1, nout := field p 3 1, unloadRate := field p 4 4
        window := if field p 8 1 = 1 then some (lo, hi) else none
        capture, everyNth := field p 18 2, counter := 0, guardRun := 0 })
        (encN 1 0 ++ [some (s.zone z).members]))) ∧
  (∀ (s : State) (r : Request) (z : ZoneId), field r.payload 0 1 = z.val →
    let x := s.zone z
    let d := s.dequeued
    (AtHead s 0x31 r → r.payload.length = 3 →
      let rate := field r.payload 1 2
      (rate < 10 ∨ 20000 < rate → exec .setCycleRate s = refused s r .range) ∧
      (10 ≤ rate → rate ≤ 20000 →
        (Busy s z → exec .setCycleRate s = refused s r .state) ∧
        (¬ Busy s z → exec .setCycleRate s = accepted s r
          (d.setZone z { x with rate, inc := (rate * 2 ^ 32 + 1000000) / 2000000 })
          (encN 1 x.state.code ++ encN 2 x.rate)))) ∧
    (AtHead s 0x39 r → r.payload.length = 1 → exec .readZone s = accepted s r d
      (encN 1 x.state.code ++ encN 1 x.sub.code ++ [some x.members] ++ encN 2 x.rate ++ encN 4 x.inc ++
        encN 1 x.nin ++ encN 1 x.nout ++ encN 4 x.unloadRate ++
        encOpt 8 (x.window.map fun w => encI 4 w.1 ++ encI 4 w.2) ++ encN 1 x.capture.code ++
        encN 2 x.everyNth ++ encN 2 x.counter ++ encN 1 (if x.clockRunning then 0 else 1) ++
        encN 8 x.origin ++ encN 4 x.cycleCount ++ encN 1 x.reasons.code ++
        encOpt 8 (x.pendingStart.map (encN 8)) ++ encN 1 x.lastStart.code ++ encN 2 x.missed ++
        encN 1 x.guardRun ++ encList ((maskActs x.members).map fun a => encN 1 a) ++
        encOpt 18 ((if x.clockRunning then x.latestN else none).map fun n =>
          encN 8 n ++ encN 2 (n * x.inc % 2 ^ 32 / 2 ^ 22) ++ encN 8 (n * x.inc / 2 ^ 32)) ++
        encN 1 ((maskActs x.members).filter fun a => (s.chan a).wasCycling).length ++
        encOpt 4 (x.guardSum.map (encI 4)))))

/-- RESET CYCLE COUNT: in IDLE the cycle count and the missed phase captures become 0 and the reply carries,
after the zone's state (06 R106; its first place is log 14), both values as they stood before; in any other
state it is refused with STATE. -/
def Obligations.ResetCycleCountRule : Prop :=
  ∀ (s : State) (r : Request) (z : ZoneId), AtHead s 0x38 r → r.payload.length = 1 →
    field r.payload 0 1 = z.val →
    ((s.zone z).state = .idle → exec .resetCycleCount s = accepted s r
      (s.dequeued.setZone z { s.zone z with cycleCount := 0, missed := 0 })
      (encN 1 0 ++ (encN 4 (s.zone z).cycleCount ++ encN 2 (s.zone z).missed))) ∧
    ((s.zone z).state ≠ .idle → exec .resetCycleCount s = refused s r .state)

/-- PREPARE: the tests in the order of R10; the zone enters READY, each member that is OFF enters STANDBY at
its measured force, the others keep their command and pipeline. The zone's state stands first in the reply
(log 14). START: the tests in the order of R10, and the pending start time, T or the next strobe's hall time;
the zone's state stands first in the reply (log 14). -/
def Obligations.PrepareAndStart : Prop :=
  (∀ (s : State) (r : Request) (z : ZoneId), AtHead s 0x32 r → r.payload.length = 1 →
    field r.payload 0 1 = z.val →
    let x := s.zone z
    let d := s.dequeued
    let off (a : ActId) : Bool := (s.chan a).state = .off
    let able : Prop := x.state = .idle ∧ x.members ≠ 0 ∧
      ∀ a : ActId, x.members.getLsbD a = true → (s.chan a).state ≠ .fault ∧ (s.chan a).seen = true
    (¬ able → exec .prepare s = refused s r .state) ∧
    (able → s.scv.zeroOp ≠ none → exec .prepare s = refused s r .busy) ∧
    (able → s.scv.zeroOp = none → ∃ t : State,
      exec .prepare s = accepted s r t (encN 1 1 ++ encList ((maskActs x.members).map fun a =>
        encFlag (off a) ++ encI 4 (if off a then (s.chan a).measured.force else (s.chan a).prev))) ∧
      t.zone z = { x with
        state := .ready, reasons := ⟨false, false, false, false⟩, pendingStart := none
        clockRunning := false } ∧
      (∀ y, y ≠ z → t.zone y = s.zone y) ∧
      (∀ a : ActId, t.chan a =
        if x.members.getLsbD a && off a then standby (s.chan a) else s.chan a) ∧
      t = { alarmed d with ac := t.ac, zs := { d.zs with zones := t.zs.zones } })) ∧
  (∀ (s : State) (r : Request) (z : ZoneId), AtHead s 0x33 r → r.payload.length = 10 →
    field r.payload 0 1 = z.val →
    let x := s.zone z
    let named := field r.payload 1 1
    let T := field r.payload 2 8
    let inRange : Prop := named = 0 ∨ (named = 1 ∧ T % 500 = 0 ∧ T ≤ s.hall + 60000000)
    let able : Prop := x.state = .ready ∧ ¬ Blocked s z
    let busy : Prop := x.pendingStart ≠ none ∨ s.scv.zeroOp ≠ none ∨ (named = 1 ∧ s.tb.pendingSet ≠ none)
    let at' := if named = 1 then T else s.tb.pendingSet.getD (500 * (s.tb.strobeNumber + 1))
    (¬ inRange → exec .start s = refused s r .range) ∧
    (inRange → ¬ able → exec .start s = refused s r .state) ∧
    (inRange → able → busy → exec .start s = refused s r .busy) ∧
    (inRange → able → ¬ busy → named = 1 → T ≤ s.hall → exec .start s = refused s r .late) ∧
    (inRange → able → ¬ busy → (named = 1 → s.hall < T) → exec .start s = accepted s r
      (s.dequeued.setZone z { x with pendingStart := some at', lastStart := .none })
      (encN 1 1 ++ encN 8 at')))

/-- HOLD: a zone in RUN enters HOLD, RAMPING OUT when a member is cycling, otherwise HELD with its clock
stopped, and each cycling member keeps its amplitude and starts its ramp-out count; a zone in HOLD adds
REQUEST; any other is refused. UNLOAD: from READY, RUN and HOLD, to UNLOAD, or at once to SAFE when every
member is in FAULT. The zone's state stands first in the replies (log 14), the reply to a HOLD taken in RUN
sends the reasons too (log 38), a HOLD between a RESUME and the next strobe keeps the amplitude driven last
(log 32), and UNLOAD leaves the HOLD sub-state as it stands (log 30). -/
def Obligations.HoldAndUnloadRule : Prop :=
  ∀ (s : State) (r : Request) (z : ZoneId), r.payload.length = 1 → field r.payload 0 1 = z.val →
    let x := s.zone z
    let d := s.dequeued
    let unloading (state : ZoneState) : Zone := { x with
      state, clockRunning := false, reasons := ⟨false, false, false, false⟩, pendingStart := none
      lastStart := if x.pendingStart.isSome then .none else x.lastStart, unloadFirst := true }
    (AtHead s 0x34 r →
      (x.state = .run → exec .hold s =
        accepted s r (held d z ⟨true, false, false, false⟩) (encN 1 3 ++ encN 1 1)) ∧
      (x.state = .hold → x.reasons.request = true → exec .hold s =
        accepted s r d (encN 1 3 ++ encN 1 x.reasons.code)) ∧
      (x.state = .hold → x.reasons.request = false → exec .hold s =
        accepted s r (alarmed (d.setZone z { x with reasons := { x.reasons with request := true } }))
          (encN 1 3 ++ encN 1 (x.reasons.code + 1))) ∧
      (x.state ≠ .run → x.state ≠ .hold → exec .hold s = refused s r .state)) ∧
    (AtHead s 0x36 r →
      (x.state = .ready ∨ x.state = .run ∨ x.state = .hold →
        ((∃ a : ActId, x.members.getLsbD a = true ∧ (s.chan a).state ≠ .fault) →
          exec .unload s = accepted s r (alarmed (d.setZone z (unloading .unload)))
            (encN 1 4 ++ encN 1 x.state.code)) ∧
        ((∀ a : ActId, x.members.getLsbD a = true → (s.chan a).state = .fault) →
          exec .unload s = accepted s r (alarmed (d.setZone z (unloading .safe)))
            (encN 1 5 ++ encN 1 x.state.code))) ∧
      (x.state = .idle ∨ x.state = .unload ∨ x.state = .safe → exec .unload s = refused s r .state))

/-- RESUME: refused outside HOLD; in HOLD refused with the reasons that would remain while any would, or
while the zone's alarms stand; otherwise RUN with the clock's origin at the next strobe. RELEASE: from
READY, the pending start gone, and from SAFE, the ACTIVE members in STANDBY; otherwise refused. RELEASE from
READY leaves last-start NONE with or without a pending start (log 19); RESUME leaves the HOLD sub-state as
it stands (log 30); the zone's state stands first in the replies (log 14). -/
def Obligations.ResumeAndReleaseRule : Prop :=
  ∀ (s : State) (r : Request) (z : ZoneId), r.payload.length = 1 → field r.payload 0 1 = z.val →
    let x := s.zone z
    let d := s.dequeued
    (AtHead s 0x35 r →
      (x.state ≠ .hold → exec .resume s = refused s r .state) ∧
      (x.state = .hold → ∀ left : HoldReasons, left.request = false → left.segment = false →
        (left.alarm = true ↔ x.reasons.alarm = true ∧ Blocked s z) →
        (left.sync = true ↔ x.reasons.sync = true ∧ s.tb.syncLost = true) →
        (left ≠ ⟨false, false, false, false⟩ ∨ Blocked s z → exec .resume s =
          refusedWith s r .state (encN 1 left.code)) ∧
        (left = ⟨false, false, false, false⟩ → ¬ Blocked s z → exec .resume s = accepted s r
          (alarmed (d.setZone z { x with
            state := .run, reasons := ⟨false, false, false, false⟩, clockRunning := true
            origin := s.tb.pendingSet.getD (500 * (s.tb.strobeNumber + 1)), guardRun := 0 }))
          (encN 1 2)))) ∧
    (AtHead s 0x37 r →
      (x.state = .ready → exec .release s = accepted s r
        (alarmed (d.setZone z { x with state := .idle, pendingStart := none, lastStart := .none }))
        (encN 1 0 ++ encN 1 1)) ∧
      (x.state = .safe → ∃ t : State, exec .release s = accepted s r t (encN 1 0 ++ encN 1 5) ∧
        t.zone z = { x with state := .idle } ∧ (∀ y, y ≠ z → t.zone y = s.zone y) ∧
        (∀ a, t.chan a = if x.members.getLsbD a && (s.chan a).state = .active
          then { s.chan a with state := .standby } else s.chan a) ∧
        t = { alarmed d with ac := t.ac, zs := { d.zs with zones := t.zs.zones } }) ∧
      (x.state ≠ .ready → x.state ≠ .safe → exec .release s = refused s r .state))

/-- ACK ALARM with a source, with a zone and with the overflow flag: the entries that leave, the LIMIT
latches that clear, the flag. -/
def Obligations.AckAlarmRule : Prop :=
  ∀ (s : State) (r : Request), AtHead s 0x3B r → r.payload.length = 4 →
    let p := r.payload
    let d := s.dequeued
    let acked (t : State) (gone : AlarmEntry → Bool) : Prop :=
      exec .ackAlarm s = accepted s r t
        (encN 1 (s.zs.alarms.countP gone) ++ encFlag s.zs.overflow) ∧
      t = { d with zs := { d.zs with alarms := s.zs.alarms.filter fun e => !gone e }, lw := t.lw }
    (field p 0 1 = 0 →
      (AlarmSource.ofCode (field p 1 1) (field p 2 1) = none → exec .ackAlarm s = refused s r .range) ∧
      (∀ x, AlarmSource.ofCode (field p 1 1) (field p 2 1) = some x → ∃ t : State,
        acked t (fun e => e.source = x) ∧
        ∀ n : RuleId, t.lw.rules[n] =
          if x = .limit n then { s.lw.rules[n] with latched := false } else s.lw.rules[n])) ∧
    (field p 0 1 = 1 →
      (3 < field p 3 1 → exec .ackAlarm s = refused s r .range) ∧
      (∀ z : ZoneId, field p 3 1 = z.val → ∃ t : State,
        acked t (fun e => e.zone = z) ∧
        ∀ n : RuleId,
          ((∃ e ∈ s.zs.alarms, e.zone = z ∧ e.source = .limit n) →
            t.lw.rules[n] = { s.lw.rules[n] with latched := false }) ∧
          ((∀ e ∈ s.zs.alarms, e.zone = z → e.source ≠ .limit n) → t.lw.rules[n] = s.lw.rules[n]))) ∧
    (field p 0 1 = 2 → exec .ackAlarm s = accepted s r
      { d with
        zs := { d.zs with overflow := false }
        lp := { d.lp with alarmPending := d.lp.alarmPending || s.zs.overflow } }
      (encN 1 0 ++ encFlag false)) ∧
    (2 < field p 0 1 → exec .ackAlarm s = refused s r .range)

/-- A raise: the list takes it as a further occurrence of its source, as a new entry at the tail, in place
of the oldest INFO entry of a full list, or not at all with the overflow flag set; then its severity acts on
its zone: MINOR takes a zone in RUN into HOLD with its members, and adds ALARM in HOLD; MAJOR takes READY,
RUN and HOLD to UNLOAD, or to SAFE with every member in FAULT. ALARM-pending is set, but for a raise that
finds no place and the overflow flag set already (log 23) and moves nothing. Nothing else changes but the
Capture Unit, which `CaptureFrameRule` gives. -/
def Obligations.RaiseRule : Prop :=
  ∀ (s : State) (r : Raise),
    let t := s.raise r
    let l := s.zs.alarms
    let entry : AlarmEntry := ⟨r.source, r.zone, r.severity, s.hall, r.cycle, 1, false⟩
    let x := s.zone r.zone
    let unstored : Prop := 16 ≤ l.length ∧ ∀ e ∈ l, e.source ≠ r.source ∧ e.severity ≠ .info
    let moves : Prop :=
      (r.severity = .minor ∧ (x.state = .run ∨ (x.state = .hold ∧ x.reasons.alarm = false))) ∨
      (r.severity = .major ∧ (x.state = .ready ∨ x.state = .run ∨ x.state = .hold))
    let unloading (state : ZoneState) : Zone := { x with
      state, clockRunning := false, reasons := ⟨false, false, false, false⟩, pendingStart := none
      lastStart := if x.pendingStart.isSome then .cancelled else x.lastStart, unloadFirst := true }
    (∀ l₁ e l₂, l = l₁ ++ e :: l₂ → e.source = r.source → (∀ f ∈ l₁ ++ l₂, f.source ≠ r.source) →
      t.zs.alarms = l₁ ++ { e with
        occurrences := min (e.occurrences + 1) 65535, reported := false, zone := r.zone
        severity := r.severity } :: l₂ ∧ t.zs.overflow = s.zs.overflow) ∧
    ((∀ e ∈ l, e.source ≠ r.source) →
      (l.length < 16 → t.zs.alarms = l ++ [entry] ∧ t.zs.overflow = s.zs.overflow) ∧
      (16 ≤ l.length → ∀ l₁ e l₂, l = l₁ ++ e :: l₂ → e.severity = .info →
        (∀ f ∈ l₁, f.severity ≠ .info) → t.zs.alarms = l₁ ++ l₂ ++ [entry] ∧
        t.zs.overflow = s.zs.overflow)) ∧
    (unstored → t.zs.alarms = l ∧ t.zs.overflow = true) ∧
    (t.lp.alarmPending = true ↔
      s.lp.alarmPending = true ∨ ¬ (unstored ∧ s.zs.overflow = true) ∨ moves) ∧
    t = { s with
      ac := t.ac, zs := t.zs, cu := t.cu, lp := { s.lp with alarmPending := t.lp.alarmPending } } ∧
    (∀ z, z ≠ r.zone → t.zone z = s.zone z) ∧
    (∀ a, t.chan a = if r.severity = .minor ∧ x.state = .run ∧ x.members.getLsbD a = true
      then heldMember (s.chan a) else s.chan a) ∧
    (r.severity = .info → t.zone r.zone = x) ∧
    (r.severity = .minor →
      (x.state = .run → t.zone r.zone = heldZone x (ramps s r.zone) ⟨false, false, true, false⟩) ∧
      (x.state = .hold → t.zone r.zone = { x with reasons := { x.reasons with alarm := true } }) ∧
      (x.state ≠ .run → x.state ≠ .hold → t.zone r.zone = x)) ∧
    (r.severity = .major →
      (x.state = .ready ∨ x.state = .run ∨ x.state = .hold →
        ((∃ a : ActId, x.members.getLsbD a = true ∧ (s.chan a).state ≠ .fault) →
          t.zone r.zone = unloading .unload) ∧
        ((∀ a : ActId, x.members.getLsbD a = true → (s.chan a).state = .fault) →
          t.zone r.zone = unloading .safe)) ∧
      (x.state = .idle ∨ x.state = .unload ∨ x.state = .safe → t.zone r.zone = x))

/-- The strobe work of a zone's clock, `s` being the part after the updates and `old` the channels before
them: none while the clock is stopped; otherwise n, the cycle count and with it the phase-capture counter at
a wrap, neither when the count is saturated, the captured crossing with its force list, and the total guard.
Which of the two values the force list and the guard take of a member is free (log 9); that no raise of the
strobe has stopped the clock before is log 42. The window work of an AE channel. -/
def Obligations.ZoneClockAndWindowWork : Prop :=
  (∀ (s : State) (old : Vector Channel 8) (z : ZoneId),
    let x := s.zone z
    let hall := 500 * s.tb.strobeNumber
    let w := s.clockWork old z
    (x.clockRunning = false ∨ hall < x.origin →
      w = ⟨{ x with guardSum := none, latestN := none }, none, false⟩) ∧
    (x.clockRunning = true → x.origin ≤ hall →
      let n := (hall - x.origin) / 500
      let index (m : Nat) := m * x.inc % 2 ^ 32 / 2 ^ 22
      let wrap : Prop := 1 ≤ n ∧ (n - 1) * x.inc / 2 ^ 32 < n * x.inc / 2 ^ 32
      let cycled : Prop := ∃ a : ActId, x.members.getLsbD a = true ∧ old[a].wasCycling = true
      let cycling : Prop := ∃ a : ActId, x.members.getLsbD a = true ∧ (s.chan a).wasCycling = true
      let peak : Prop := 1 ≤ n ∧ index (n - 1) < 256 ∧ 256 ≤ index n
      let valley : Prop := 1 ≤ n ∧ ¬ peak ∧ index (n - 1) < 768 ∧ 768 ≤ index n
      let list (pick : ActId → Bool) : List ForceItem := (maskActs x.members).map fun a =>
        let c := if pick a then s.chan a else old[a]
        ⟨a, c.measured.force, c.currentTag⟩
      let sum (pick : ActId → Bool) : Int := ((maskActs x.members).map fun a =>
        (if pick a then s.chan a else old[a]).measured.force).sum
      ∀ y : Zone,
        (wrap → cycled → x.cycleCount < 4294967295 → y = { x with
          latestN := some n
          cycleCount := x.cycleCount + 1
          counter := if x.everyNth ≤ x.counter + 1 then 0 else x.counter + 1 }) →
        (¬ wrap ∨ ¬ cycled ∨ 4294967295 ≤ x.cycleCount → y = { x with latestN := some n }) →
        (peak → cycling → x.capture = .peak ∨ x.capture = .both → y.counter = 0 → ∃ pick,
          w.capture = some ⟨z, true, y.cycleCount, hall, list pick⟩) ∧
        (valley → cycling → x.capture = .valley ∨ x.capture = .both → y.counter = 0 → ∃ pick,
          w.capture = some ⟨z, false, y.cycleCount, hall, list pick⟩) ∧
        ((¬ peak ∧ ¬ valley) ∨ ¬ cycling ∨ (peak ∧ x.capture ≠ .peak ∧ x.capture ≠ .both) ∨
          (valley ∧ x.capture ≠ .valley ∧ x.capture ≠ .both) ∨ y.counter ≠ 0 → w.capture = none) ∧
        (x.window = none → w.zone = { y with guardSum := none, guardRun := 0 } ∧ w.total = false) ∧
        (∀ lo hi, x.window = some (lo, hi) → ∃ pick,
          let within : Prop := lo ≤ sum pick ∧ sum pick ≤ hi
          (within → w.zone = { y with guardSum := some (sum pick), guardRun := 0 } ∧ w.total = false) ∧
          (¬ within → x.guardRun < 3 →
            w.zone = { y with guardSum := some (sum pick), guardRun := x.guardRun + 1 } ∧ w.total = false) ∧
          (¬ within → 3 ≤ x.guardRun →
            w.zone = { y with guardSum := some (sum pick), guardRun := 0 } ∧ w.total = true)))) ∧
  (∀ e : AeRecord,
    let all := e.ring ++ [e.cycle]
    let ring := all.drop (all.length - e.ringLen)
    (e.threshold ≤ ring.sum → e.windowWork = ({ e with ring := [], cycle := 0 }, true)) ∧
    (ring.sum < e.threshold → e.windowWork = ({ e with ring, cycle := 0 }, false)))

/-- A strobe: the commands that issue one; the start decisions, and what else stands as before; then the
updates, each reading its zone as it stands at the strobe, the clocks' work and the windows, the zones' own
moves, and the events that they hand to other blocks, in some order: each finds the channels and counts
before or after their updates, never before what it needs, nor before what an earlier one found. Then where
each zone stands, by what its members and its own work brought: HELD, SAFE, HOLD by an end action, by a sync
loss or by a MINOR window, UNLOAD by a fault, by TOTAL or by a MAJOR window; with none of these it stays; a
HOLD entered gives its sub-state, its clock and its members. The alarm list: unchanged when nothing is
raised; one raise of ACTUATOR, TOTAL, AE or SYNC alone joins it, stamped with the strobe's hall time and,
while a member is cycling, with the cycle count (before or after the strobe's updates and wrap work: log 10).
The order of the events is free (logs 8, 10, 11), a zone's own move and its clock's work coming first (logs
40, 42). The new-value marks are spent when no block takes a frame (log 25). The premise, no actuator in two
zones, is one that every step keeps. -/
def Obligations.StrobeWorkRule : Prop :=
  (∀ s t : State, s.expire .strobe = some t →
    (s.tb.role ≠ .follower ∨ s.tb.syncLost = true →
      exec .oscillatorStrobe s = .next (arbitrate (t.strobe .oscillator false))) ∧
    (s.tb.role = .follower → s.tb.syncLost = false → s.tb.subRun ≤ 7 →
      exec .substituteStrobe s = .next (arbitrate (State.strobe { t with tb := { t.tb with
        missCount := min (s.tb.missCount + 1) 4294967295, subRun := s.tb.subRun + 1
        syncLost := s.tb.subRun = 7, regainRun := 0 } } .substitute (s.tb.subRun = 7))))) ∧
  (∀ s : State, s.tb.role = .follower → s.tb.syncLost = false → 250 ≤ s.osc - s.tb.lastStrobeAt →
    exec .syncEdge s =
      .next (arbitrate (State.strobe { s with tb := { s.tb with subRun := 0 } } .edge false))) ∧
  (∀ (s : State) (src : StrobeSource) (lost : Bool), ∃ (d : State) (started : ZoneId → Bool),
    s.strobe src lost = d.strobeWork started lost s.tb.pendingSet.isSome ∧
    d = { s with
      tb := strobed s.tb src s.osc, scv := d.scv, zs := { s.zs with zones := d.zs.zones }
      lp := { s.lp with alarmPending := d.lp.alarmPending } } ∧
    (d.lp.alarmPending = true ↔ s.lp.alarmPending = true ∨ ∃ z, started z = true) ∧
    ((∃ b : BlockId, s.cu.blocks[b].isActive) → d.scv = s.scv) ∧
    ((∀ b : BlockId, ¬ s.cu.blocks[b].isActive) → d.scv = { s.scv with written := [] }) ∧
    ∀ z, let x := s.zone z
      let hall := 500 * d.tb.strobeNumber
      let due : Prop := x.state = .ready ∧ ∃ T, x.pendingStart = some T ∧ T ≤ hall
      (started z = true ↔ due ∧ s.scv.zeroOp = none ∧ ¬ Blocked s z) ∧
      (¬ due → d.zone z = x) ∧
      (due → s.scv.zeroOp ≠ none → d.zone z = { x with pendingStart := none, lastStart := .late }) ∧
      (due → s.scv.zeroOp = none → Blocked s z →
        d.zone z = { x with pendingStart := none, lastStart := .cancelled }) ∧
      (started z = true → d.zone z = { x with
        state := .run, clockRunning := true, origin := hall, reasons := ⟨false, false, false, false⟩
        counter := 0, guardRun := 0, pendingStart := none, lastStart := .started })) ∧
  (∀ (d : State) (started : ZoneId → Bool) (lost timeSet : Bool), OneZoneEach d →
    let u := d.strobeWork started lost timeSet
    let hall := 500 * d.tb.strobeNumber
    let after := d.updated started
    let out (a : ActId) := (d.chan a).update (d.viewOf started a) hall
    let work (z : ZoneId) := after.clockWork d.ac z
    let n? (z : ZoneId) : Option Nat :=
      if (d.zone z).clockRunning = true ∧ (d.zone z).origin ≤ hall
      then some ((hall - (d.zone z).origin) / 500) else none
    let wrap (z : ZoneId) : Prop := ∃ n, n? z = some n ∧ 1 ≤ n ∧
      (n - 1) * (d.zone z).inc / 2 ^ 32 < n * (d.zone z).inc / 2 ^ 32
    let scanned : Prop := (∃ z, (work z).capture ≠ none) ∧
      ¬ ∃ q, d.se.scan = some q ∧ ∃ b : BankId, q.awaiting[b] = true
    let raised (r : AlarmSource × ZoneId × Severity) : Prop :=
      (∃ a z, d.zoneOf a = some z ∧ (out a).2.fault = true ∧ r = (.actuator a, z, .major)) ∨
      (∃ z, (work z).total = true ∧ r = (.total z, z, .major)) ∨
      (∃ n : AeId, let e := d.cm.aes[n]
        e.enabled = true ∧ wrap e.zone ∧ e.windowWork.2 = true ∧ r = (.ae n, e.zone, e.severity))
    let raises (r : AlarmSource × ZoneId × Severity) : Prop := raised r ∨
      (∃ z, lost = true ∧ ((d.zone z).state = .run ∨ (d.zone z).state = .hold) ∧ r = (.sync z, z, .info))
    let member (z : ZoneId) (a : ActId) : Prop := (d.zone z).members.getLsbD a = true
    let ramped (z : ZoneId) : Prop := (d.zone z).state = .hold ∧ (d.zone z).sub = .rampingOut ∧ wrap z ∧
      ∀ a, member z a → (after.chan a).isCycling = true →
        1 ≤ (after.chan a).j ∧ (d.zone z).nout ≤ (after.chan a).j
    let unloaded (z : ZoneId) : Prop := (d.zone z).state = .unload ∧
      ∀ a, member z a → (after.chan a).state = .fault ∨ (out a).2.atSafe = true
    let ended (z : ZoneId) : Prop := (d.zone z).state = .run ∧ ∃ a, member z a ∧ (out a).2.holdZone = true
    let found (c : Channel) (a : ActId) : Prop := c = (out a).1 ∨ c = heldMember (out a).1
    (∀ a, d.zoneOf a = none → d.viewOf started a = none) ∧
    (∀ a z, d.zoneOf a = some z → d.viewOf started a = some
      ⟨z, (d.zone z).state, started z, n? z, (d.zone z).inc, (d.zone z).nin, (d.zone z).nout,
        (d.zone z).unloadRate, (d.zone z).unloadFirst⟩) ∧
    (∀ a, after.chan a = (out a).1 ∧ found (u.chan a) a ∧
      ((∀ z, d.zoneOf a = some z → (d.zone z).state = .run → (u.zone z).state = .run) →
        u.chan a = (out a).1) ∧
      (∀ z, d.zoneOf a = some z → (d.zone z).state = .run → (u.zone z).state = .hold →
        u.chan a = heldMember (out a).1)) ∧
    (∀ n : AeId, let e := d.cm.aes[n]
      (e.enabled = true ∧ wrap e.zone → u.cm.aes[n] = e.windowWork.1) ∧
      (e.enabled = false ∨ ¬ wrap e.zone → u.cm.aes[n] = e)) ∧
    (∃ (m : State) (order : List (StrobeTask × Seen)),
      u = order.foldl (fun v e => handed v e.2 e.1) m ∧
      m = { d with
        ac := m.ac, cm := { d.cm with aes := u.cm.aes }, zs := { d.zs with zones := m.zs.zones }
        lp := { d.lp with alarmPending := m.lp.alarmPending }, free := d.free + 1 } ∧
      (m.lp.alarmPending = true ↔
        d.lp.alarmPending = true ∨ ∃ z, ramped z ∨ unloaded z ∨ ended z) ∧
      (∀ a, ((∃ z, d.zoneOf a = some z ∧ ended z) → m.chan a = heldMember (out a).1) ∧
        ((∀ z, d.zoneOf a = some z → ¬ ended z) → m.chan a = (out a).1)) ∧
      (∀ z, let w := (work z).zone
        (ramped z → m.zone z = { w with sub := .held, clockRunning := false }) ∧
        (unloaded z → m.zone z = { w with state := .safe, unloadFirst := false }) ∧
        (ended z → m.zone z = heldZone w (ramps after z) ⟨false, true, false, false⟩) ∧
        (w.state = .unload → ¬ unloaded z → m.zone z = { w with unloadFirst := false }) ∧
        (w.state ≠ .unload → ¬ ramped z → ¬ ended z → m.zone z = w)) ∧
      let tasks := order.map Prod.fst
      tasks.Nodup ∧
      (∀ src z severity, .raise src z severity ∈ tasks ↔ raised (src, z, severity)) ∧
      (∀ z, (.loss z ∈ tasks → lost = true) ∧ (lost = true → started z = false → .loss z ∈ tasks)) ∧
      (∀ l, .scans l ∈ tasks ↔
        l ≠ [] ∧ l = (List.finRange 4).filterMap fun z => (work z).capture) ∧
      (∀ b, .frame b ∈ tasks ↔ b = timeSet ∧ ∃ c : BlockId, d.cu.blocks[c].isActive) ∧
      (∀ e ∈ order,
        (∀ a, (e.2.chans[a] = d.chan a ∨ found e.2.chans[a] a) ∧
          ∀ z severity, e.1 = .raise (.actuator a) z severity → found e.2.chans[a] a) ∧
        (∀ z, (e.2.counts[z] = (d.zone z).cycleCount ∨ e.2.counts[z] = (work z).zone.cycleCount) ∧
          ∀ l, e.1 = .scans l → (work z).capture ≠ none →
            e.2.counts[z] = (work z).zone.cycleCount)) ∧
      order.Pairwise fun e f =>
        (∀ a, f.2.chans[a] = e.2.chans[a] ∨ found f.2.chans[a] a) ∧
        ∀ z, f.2.counts[z] = e.2.counts[z] ∨ f.2.counts[z] = (work z).zone.cycleCount) ∧
    (¬ scanned → (∀ r, ¬ raises r) → u.zs.alarms = d.zs.alarms ∧ u.zs.overflow = d.zs.overflow) ∧
    (¬ scanned → (lost = true → ∀ z, started z = false) → ∀ src z severity, raises (src, z, severity) →
      (∀ r, raises r → r = (src, z, severity)) → (∀ e ∈ d.zs.alarms, e.source ≠ src) →
      d.zs.alarms.length < 16 → ∃ (seen : ActId → Bool) (cycle : Option Nat),
        let cycling : Prop := ∃ a : ActId, (d.zone z).members.getLsbD a = true ∧
          (if seen a then after.chan a else d.chan a).wasCycling = true
        u.zs.overflow = d.zs.overflow ∧
        u.zs.alarms = d.zs.alarms ++ [⟨src, z, severity, d.hall, cycle, 1, false⟩] ∧
        (¬ cycling → cycle = none) ∧
        (cycling → cycle = some (d.zone z).cycleCount ∨ cycle = some (u.zone z).cycleCount) ∧
        (∀ a, src = .actuator a → seen a = true)) ∧
    ∀ z, let x := d.zone z
      let y := u.zone z
      let gone : Prop := y.state = .unload ∨ y.state = .safe
      let window (severity : Severity) : Prop := ∃ n : AeId, let e := d.cm.aes[n]
        e.enabled = true ∧ e.zone = z ∧ e.severity = severity ∧ wrap z ∧ e.windowWork.2 = true
      (y.cycleCount = (work z).zone.cycleCount ∧ y.counter = (work z).zone.counter ∧
        y.latestN = (work z).zone.latestN ∧ y.guardRun = (work z).zone.guardRun ∧
        y.guardSum = (work z).zone.guardSum) ∧
      (x.state = .idle → y.state = .idle) ∧ (x.state = .safe → y.state = .safe) ∧
      (x.state = .ready → y.state = .ready ∨ gone) ∧
      (x.state = .run → y.state = .run ∨ y.state = .hold ∨ gone) ∧
      (x.state = .hold → y.state = .hold ∨ gone) ∧ (x.state = .unload → gone) ∧
      (x.state = .run → y.state = .hold → let h := heldZone x (ramps after z) y.reasons
        y.sub = h.sub ∧ y.clockRunning = h.clockRunning) ∧
      (x.state = .ready ∨ x.state = .run ∨ x.state = .hold → gone → y.clockRunning = false ∧
        y.reasons = ⟨false, false, false, false⟩ ∧ y.pendingStart = none ∧ y.unloadFirst = true ∧
        y.lastStart = if x.pendingStart.isSome then .cancelled else x.lastStart) ∧
      (ramped z → (y.state = .hold ∧ y.sub = .held ∧ y.clockRunning = false) ∨ gone) ∧
      (unloaded z → y.state = .safe) ∧
      (x.state = .unload → y.unloadFirst = false) ∧
      (ended z → (y.state = .hold ∧ y.reasons.segment = true) ∨ gone) ∧
      (lost = true → started z = false → x.state = .run ∨ x.state = .hold →
        (y.state = .hold ∧ y.reasons.sync = true) ∨ gone) ∧
      (x.state = .run ∨ x.state = .hold → window .minor →
        (y.state = .hold ∧ y.reasons.alarm = true) ∨ gone) ∧
      (x.state = .ready ∨ x.state = .run ∨ x.state = .hold →
        (∃ a, d.zoneOf a = some z ∧ (out a).2.fault = true) ∨ (work z).total = true ∨ window .major →
        gone) ∧
      (¬ scanned → (∀ r, raises r → r.2.1 ≠ z ∨ r.2.2 = .info) → (lost = true → x.state ≠ .run ∧
          x.state ≠ .hold) → ¬ ended z → x.state ≠ .unload →
        y.state = x.state ∧ y.reasons = x.reasons ∧
        (x.state ≠ .hold ∨ x.sub = .held → y.clockRunning = x.clockRunning ∧ y.sub = x.sub)) ∧
      (¬ scanned → (∀ r, raises r → r.2.1 ≠ z ∨ r.2.2 ≠ .major) → x.state = .hold → x.sub = .rampingOut →
        ¬ ramped z → y.state = .hold ∧ y.sub = .rampingOut ∧ y.clockRunning = x.clockRunning) ∧
      (x.state = .unload → ¬ unloaded z → y.state = .unload) ∧
      (∀ p q, (work z).capture = some p → d.se.scan = some q → (∃ b : BankId, q.awaiting[b] = true) →
        u.se.slots[z] = some p ∧ y.missed =
          if d.se.slots[z].isNone then x.missed else min (x.missed + 1) 65535))

/-- The zones' requests change nothing outside the Zone Supervisor, the link's queues, the LIMIT latches
that ACK ALARM clears, and the members of PREPARE, HOLD and RELEASE; and no zone that they do not name. -/
def Obligations.ZoneRequestsFrame : Prop :=
  ∀ s t : State, ∀ i ∈ [Instr.defineZone, .setCycleRate, .prepare, .start, .hold, .resume, .unload,
      .release, .resetCycleCount, .readZone, .readAlarms, .ackAlarm], exec i s = .next t →
    t.tb = s.tb ∧ t.se = s.se ∧ t.scv = s.scv ∧ t.sq = s.sq ∧ t.cm = s.cm ∧ t.cu = s.cu ∧
    t.osc = s.osc ∧ SameLink s t ∧
    (i ≠ .ackAlarm → t.lw = s.lw ∧ SameAlarms s t) ∧
    (i ∉ [Instr.prepare, .hold, .release] → t.ac = s.ac) ∧
    (∀ a, (t.chan a).cfg = (s.chan a).cfg ∧ (t.chan a).queued = (s.chan a).queued ∧
      (t.chan a).current = (s.chan a).current ∧ (t.chan a).measured = (s.chan a).measured ∧
      (t.chan a).valve = (s.chan a).valve) ∧
    (∀ z, (∀ r rest, s.lp.requests = r :: rest → field r.payload 0 1 ≠ z.val) → i ≠ .ackAlarm →
      t.zone z = s.zone z) ∧
    (i ∈ [Instr.readZone, .readAlarms, .ackAlarm] → SameZones s t)

/-! ### The Scan Engine, the Strain Converter, the Strain Queue and the Limit Watch -/

/-- The scan arbiter: nothing while a scan is in flight or no request waits; otherwise the phase-locked
request with the earliest crossing (the lowest zone among equals), then ZERO, then FREE; the scan that
starts, the place its request leaves, and the banks it awaits. -/
def Obligations.ScanArbiterRule : Prop :=
  ∀ s : State,
    let first (kind : ScanKind) (phase : Option PhaseRequest) : Prop :=
      (∃ (z : ZoneId) (p : PhaseRequest), s.se.slots[z] = some p ∧ p.zone = z ∧ phase = some p ∧
        kind = (if p.peak then .peak else .valley) ∧
        ∀ (y : ZoneId) (q : PhaseRequest), s.se.slots[y] = some q →
          p.crossing < q.crossing ∨ (p.crossing = q.crossing ∧ z ≤ y)) ∨
      ((∀ z : ZoneId, s.se.slots[z] = none) ∧ phase = none ∧
        ((s.se.zeroRequest = true ∧ kind = .zero) ∨
         (s.se.zeroRequest = false ∧ s.se.freeRequest = true ∧ kind = .free)))
    let involved (b : BankId) : Prop :=
      s.se.banks[b].online = true ∧ ∃ g ∈ scanSet s.se.scanList, g.val / 64 = b.val
    (ScansQuiet s → s.consult = s) ∧
    (s.se.scan = none → ∀ kind phase, first kind phase → (∃ b, involved b) →
      ∃ x : Scan, s.consult = { s with se := { s.consult.se with scan := some x } } ∧
        x.kind = kind ∧ x.start = s.hall ∧ x.gauges = scanSet s.se.scanList ∧ x.phase = phase ∧
        (∀ p, phase = some p → x.lag = min (s.hall - p.crossing) 4294967295) ∧
        (∀ b : BankId, (x.awaiting[b] = true ↔ involved b) ∧ x.answers[b] = none) ∧
        (∀ z : ZoneId, s.consult.se.slots[z] =
          if phase.map PhaseRequest.zone = some z then none else s.se.slots[z]) ∧
        s.consult.se.zeroRequest = (s.se.zeroRequest && kind != .zero) ∧
        s.consult.se.freeRequest = (s.se.freeRequest && kind != .free) ∧
        (∀ b : BankId, ¬ involved b → s.consult.se.banks[b] = s.se.banks[b]) ∧
        (∀ b : BankId, involved b →
          let gs := (scanSet s.se.scanList).filter fun g => g.val / 64 = b.val
          let old := s.se.banks[b]
          (old.outstanding = none ∧ old.settlingUntil = none →
            s.consult.se.banks[b] =
              { old with outstanding := some (.scan gs), timeoutAt := s.osc + 5000 }) ∧
          (old.outstanding ≠ none ∨ old.settlingUntil ≠ none →
            s.consult.se.banks[b] = { old with waiting := old.waiting ++ [.scan gs] })))

/-- BANK_ANSWER: stray while settling, with nothing outstanding, and with a number of values other than the
list's; otherwise it ends the conversion: a scan's part has its values, a test of BANK RESET has its
deferred reply, the raw value within its range. BANK_TIMEOUT: NO DATA for a scan's part, TIMED OUT for a
test (its raw value's bytes unstated, log 35); the counts; OFFLINE at the third in a row, when a scan part
that waits has NO DATA too. The conversion that waits is then sent, and the scan arbiter consulted, which
starts nothing while another bank is awaited. -/
def Obligations.BankPortRule : Prop :=
  ∀ (s : State) (b : BankId),
    let k := s.se.banks[b]
    let ended (u : State) (k' : Bank) (scan : Option Scan) (op : Option BankResetOp) : State :=
      { u with se := { u.se with scan, bankReset := op, banks := u.se.banks.set b k' } }
    (∀ values : List Int,
      (k.settlingUntil ≠ none ∨ k.outstanding = none ∨
        (∃ gs, k.outstanding = some (.scan gs) ∧ values.length ≠ gs.length) ∨
        (∃ g, k.outstanding = some (.test g) ∧ values.length ≠ 1) →
        exec (.bankAnswer b values) s =
          .next (arbitrate (s.setBank b { k with strays := min (k.strays + 1) 65535 }))) ∧
      (∀ gs x, k.settlingUntil = none → k.outstanding = some (.scan gs) → values.length = gs.length →
        s.se.scan = some x →
        let t := ended s (sentNext { k with consecutive := 0 } s.osc) (some (answeredBy x b (some values)))
          s.se.bankReset
        exec (.bankAnswer b values) s = .next (arbitrate t.consult) ∧
        ((∃ c, c ≠ b ∧ x.awaiting[c] = true) → t.consult = t))) ∧
    (∀ (v : Int) (g : GaugeId) (op : BankResetOp), k.settlingUntil = none → k.outstanding = some (.test g) →
      s.se.bankReset = some op →
      let port := sentNext { k with consecutive := 0 } s.osc
      let t := deferredReplied (ended s port s.se.scan none) op.tag 0x46
        (encN 1 b ++ encFlag false ++ encI 4 (min (max v (-8388607)) 8388607) ++ encFlag (!k.online) ++
          encN 1 0)
      exec (.bankAnswer b [v]) s = .next (arbitrate t.consult) ∧ (ScansQuiet s → t.consult = t)) ∧
    (∀ u, s.expire (.bank b) = some u → k.settlingUntil = none →
      let k' := portTimedOut k u.osc
      let shut : Prop := k'.online = false ∧ ∃ gs, .scan gs ∈ k.waiting
      (∀ gs x, k.outstanding = some (.scan gs) → s.se.scan = some x →
        let t := ended u k' (some (answeredBy x b none)) s.se.bankReset
        exec (.bankTimeout b) s = .next (arbitrate t.consult) ∧
        ((∃ c, c ≠ b ∧ x.awaiting[c] = true) → t.consult = t)) ∧
      (∀ g op, k.outstanding = some (.test g) → s.se.bankReset = some op → ∀ scan : Option Scan,
        (shut → scan = s.se.scan.map fun x => answeredBy x b none) → (¬ shut → scan = s.se.scan) →
        let t := deferredReplied (ended u k' scan none) op.tag 0x46
          (encN 1 b ++ encFlag true ++ unstated 4 ++ encFlag (!k'.online) ++ encN 1 k'.consecutive)
        exec (.bankTimeout b) s = .next (arbitrate t.consult) ∧ (¬ shut → ScansQuiet s → t.consult = t) ∧
        (∀ x, s.se.scan = some x → (∃ c, c ≠ b ∧ x.awaiting[c] = true) → t.consult = t)))

/-- The last bank's answer or timeout completes the scan in flight (the conversion that waits at its port is
sent first), the scan arbiter completes one that awaits no bank, and a scan that involves no bank completes
at its start: its result, one raw value or NO DATA for each gauge in ascending order, is converted, or for
ZERO written to the zero table with the deferred reply; the arbiter then goes on with the requests that
wait. A phase-locked request enters its zone's slot, where it replaces the one that stands there, a miss of
its zone, and the arbiter is consulted: it starts nothing while a scan waits for a bank. -/
def Obligations.ScanCompletionRule : Prop :=
  (∀ (s : State) (x : Scan),
    let finished (u : State) (y : Scan) : State :=
      State.consult (if y.kind = .zero then u.zeroScan y else u.convertScan y)
    (∀ (b : BankId) (gs : List GaugeId) (values : List Int),
      let k := s.se.banks[b]
      let ended (u : State) (k' : Bank) : State :=
        { u with se := { u.se with scan := none, banks := u.se.banks.set b k' } }
      s.se.scan = some x → k.outstanding = some (.scan gs) → k.settlingUntil = none →
      (∀ c, c ≠ b → x.awaiting[c] = false) →
      (values.length = gs.length → exec (.bankAnswer b values) s =
        .next (arbitrate (finished (ended s (sentNext { k with consecutive := 0 } s.osc))
          (answeredBy x b (some values))))) ∧
      (∀ t, s.expire (.bank b) = some t → exec (.bankTimeout b) s =
        .next (arbitrate (finished (ended t (portTimedOut k t.osc)) (answeredBy x b none))))) ∧
    (s.se.scan = some x → (∀ b : BankId, x.awaiting[b] = false) →
      s.consult = finished { s with se := { s.se with scan := none } } x) ∧
    (s.se.scan = none →
      (∀ b : BankId, s.se.banks[b].online = true → ∀ g ∈ scanSet s.se.scanList, g.val / 64 ≠ b.val) →
      let started (kind : ScanKind) (phase : Option PhaseRequest) (lag : Nat) : Scan :=
        ⟨kind, s.hall, scanSet s.se.scanList, phase, lag, Vector.replicate 4 false, Vector.replicate 4 none⟩
      (∀ (z : ZoneId) (p : PhaseRequest), s.se.slots[z] = some p →
        (∀ (y : ZoneId) (q : PhaseRequest), s.se.slots[y] = some q →
          p.crossing < q.crossing ∨ (p.crossing = q.crossing ∧ z ≤ y)) → s.consult =
          finished { s with se := { s.se with slots := s.se.slots.set z none } }
            (started (if p.peak then .peak else .valley) (some p)
              (min (s.hall - p.crossing) 4294967295))) ∧
      ((∀ z : ZoneId, s.se.slots[z] = none) → s.se.zeroRequest = true →
        s.consult = finished { s with se := { s.se with zeroRequest := false } } (started .zero none 0)) ∧
      ((∀ z : ZoneId, s.se.slots[z] = none) → s.se.zeroRequest = false → s.se.freeRequest = true →
        s.consult = finished { s with se := { s.se with freeRequest := false } }
          (started .free none 0)))) ∧
  (∀ (x : Scan) (l : List ScanRange), x.gauges = scanSet l →
    let part (b : BankId) := x.gauges.filter fun g => g.val / 64 = b.val
    (∀ b : BankId, x.answers[b] = none → ∀ g ∈ part b, (g, none) ∈ x.results) ∧
    (∀ (b : BankId) (vs : List Int), x.answers[b] = some vs → ∀ (i : Nat) (g : GaugeId) (v : Int),
      (part b)[i]? = some g → vs[i]? = some v → (g, some v) ∈ x.results) ∧
    ((∀ (b : BankId) (vs : List Int), x.answers[b] = some vs → vs.length = (part b).length) →
      x.results.map Prod.fst = x.gauges)) ∧
  (∀ (s : State) (x : Scan), (x.results.map Prod.fst).Nodup →
    let t := s.zeroScan x
    let values := x.results.filterMap Prod.snd
    let atLimit (v : Int) : Bool := 8388607 ≤ v || v ≤ -8388607
    t = { s with scv := { s.scv with zeroOp := none, zeros := t.scv.zeros }, lp := t.lp, free := t.free } ∧
    (∀ g v, (g, some v) ∈ x.results → t.scv.zeros[g] = min (max v (-8388607)) 8388607) ∧
    (∀ g : GaugeId, (∀ v, (g, some v) ∉ x.results) → t.scv.zeros[g] = s.scv.zeros[g]) ∧
    (s.scv.zeroOp = none → t.lp = s.lp) ∧
    (∀ op, s.scv.zeroOp = some op → t.lp = (deferredReplied s op.tag 0x45 (encN 2 values.length ++
      encN 2 (x.results.length - values.length) ++ encN 2 (values.countP atLimit))).lp)) ∧
  (∀ (s : State) (p : PhaseRequest),
    let t := { s with se := { s.se with slots := s.se.slots.set p.zone (some p) } }
    let u := if s.se.slots[p.zone].isNone then t else
      t.setZone p.zone { s.zone p.zone with missed := min ((s.zone p.zone).missed + 1) 65535 }
    s.phaseRequest p = u.consult ∧
    (∀ q, s.se.scan = some q → (∃ b : BankId, q.awaiting[b] = true) → u.consult = u))

/-- FREE_SCAN_EXPIRY: the timer is set for the next interval; skipped and counted while a free request is
pending or a free scan in flight, otherwise a free request becomes pending and the scan arbiter is
consulted. BANK_SETTLING_END: settling is over, the conversion that waited longest is sent. -/
def Obligations.ScanTimersRule : Prop :=
  ∀ s t : State,
    (s.expire .freeScan = some t →
      let e := { t.se with expiryAt := t.se.expiryAt + 1000 * t.se.interval }
      (t.se.freeRequest = true ∨ (∃ x, t.se.scan = some x ∧ x.kind = .free) →
        exec .freeScanExpiry s =
          .next { t with se := { e with skipped := min (e.skipped + 1) 4294967295 } }) ∧
      (t.se.freeRequest = false → (∀ x, t.se.scan = some x → x.kind ≠ .free) →
        exec .freeScanExpiry s =
          .next (arbitrate (State.consult { t with se := { e with freeRequest := true } })))) ∧
    (∀ b : BankId, s.expire (.settling b) = some t →
      let k := t.se.banks[b]
      (k.waiting = [] ∨ k.outstanding ≠ none → exec (.bankSettlingEnd b) s =
        .next (t.setBank b { k with settlingUntil := none })) ∧
      (∀ c rest, k.waiting = c :: rest → k.outstanding = none → exec (.bankSettlingEnd b) s =
        .next (t.setBank b { k with
          settlingUntil := none, outstanding := some c, waiting := rest, timeoutAt := t.osc + 5000 })))

/-- SET SCAN LIST, and the scan set that a list forms: the gauges that some range names, each range wrapping
in the bank of its base, each gauge once and in ascending order; SET SCAN INTERVAL (the timer restarts or
stops, the delay timer is judged anew); and the deferred BANK RESET and ZERO GAUGES: their tests and what
starts, of BANK RESET the test of the bank's first gauge. -/
def Obligations.ScanRequests : Prop :=
  (∀ l : List ScanRange,
    (∀ g : GaugeId, g ∈ scanSet l ↔ ∃ x ∈ l, ∃ i, i < x.count ∧
      g.val = x.base.val / 64 * 64 + (x.base.val % 64 + i) % 64) ∧
    (scanSet l).Pairwise (· < ·)) ∧
  ∀ (s : State) (r : Request),
    let p := r.payload
    let d := s.dequeued
    (AtHead s 0x40 r →
      let n := field p 0 1
      (p.length ≠ 1 + 2 * n → exec .setScanList s = refused s r .malformed) ∧
      (p.length = 1 + 2 * n → 16 < n ∨ (∃ i, i < n ∧ (field p (2 + 2 * i) 1 = 0 ∨
          64 < field p (2 + 2 * i) 1)) → exec .setScanList s = refused s r .range) ∧
      (∀ l : List ScanRange, p.length = 1 + 2 * n → n ≤ 16 → l.length = n →
        (∀ (i : Nat) (x : ScanRange), l[i]? = some x → x.base.val = field p (1 + 2 * i) 1 ∧
          x.count = field p (2 + 2 * i) 1 ∧ 1 ≤ x.count ∧ x.count ≤ 64) →
        exec .setScanList s = accepted s r { d with se := { d.se with scanList := l } }
          (encN 2 (scanSet l).length ++ encN 1 s.se.scanList.length))) ∧
    (AtHead s 0x41 r → p.length = 2 →
      let n := field p 0 2
      let delay := if n = 0 then 400000 else 4000 * n
      let elapsed : Prop := ∃ since, s.sq.timer = .running since ∧ since + delay ≤ s.osc
      let se' := { s.se with
        interval := n, expiryAt := s.osc + 1000 * n, freeRequest := n ≠ 0 && s.se.freeRequest }
      (1000 < n → exec .setScanInterval s = refused s r .range) ∧
      (n ≤ 1000 → elapsed → exec .setScanInterval s = accepted s r
        { d with se := se', sq := { d.sq with timer := .runOut } } (encN 2 s.se.interval)) ∧
      (n ≤ 1000 → ¬ elapsed → exec .setScanInterval s = accepted s r { d with se := se' }
        (encN 2 s.se.interval))) ∧
    (AtHead s 0x46 r → p.length = 1 → ∀ b : BankId, field p 0 1 = b.val →
      let k := { s.se.banks[b] with online := true, consecutive := 0 }
      ∀ g : GaugeId, g.val = b.val * 64 →
      let started (k' : Bank) : Result := deferred s r { reserved d r with
        se := { d.se with bankReset := some ⟨b, keptTag r⟩, banks := d.se.banks.set b k' } }
      (s.se.bankReset ≠ none → exec .bankReset s = refused s r .busy) ∧
      (s.se.bankReset = none →
        (k.outstanding = none ∧ k.settlingUntil = none → exec .bankReset s =
          started { k with outstanding := some (.test g), timeoutAt := s.osc + 5000 }) ∧
        (k.outstanding ≠ none ∨ k.settlingUntil ≠ none → exec .bankReset s =
          started { k with waiting := k.waiting ++ [.test g] }))) ∧
    (AtHead s 0x45 r → p = [] →
      ((∃ z, Busy s z) → exec .zeroGauges s = refused s r .state) ∧
      ((∀ z, ¬ Busy s z) → s.scv.zeroOp ≠ none → exec .zeroGauges s = refused s r .busy) ∧
      ((∀ z, ¬ Busy s z) → s.scv.zeroOp = none → exec .zeroGauges s = deferred s r
        (State.consult { reserved d r with
          scv := { d.scv with zeroOp := some ⟨keptTag r⟩ }, se := { d.se with zeroRequest := true } })))

/-- The profile of a gauge: the lowest-numbered template that matches it while the table is valid, else the
default. WRITE TEMPLATE, SET DEFAULT PROFILE, VALIDATE TEMPLATES, READ GAUGES: their tests, the table-valid
flag, what they write, and that READ GAUGES changes nothing; its items, the chosen profile as an optional
number (log 36), the Scan Engine's (widths and codes: log 14; a group of items behind one presence byte: log
43), and the rules of the range as far as they fit
in 1024 bytes, with the number left out. -/
def Obligations.ConverterRequests : Prop :=
  (∀ (v : StrainConverter) (g : GaugeId),
    (v.tableValid = false → v.chosen g = none) ∧
    (v.tableValid = true → (∀ t, v.chosen g = some t ↔ Selects v g t) ∧
      (v.chosen g = none ↔ ∀ t, ¬ Matches v g t)) ∧
    (∀ t, v.profile (some t) = v.templates[t].profile) ∧ v.profile none = v.default) ∧
  ∀ (s : State) (r : Request),
    let p := r.payload
    let d := s.dequeued
    let profileOk (off : Nat) : Prop := field p off 1 ≤ 3 ∧ 1000 ≤ field p (off + 1) 2 ∧
      field p (off + 1) 2 ≤ 5000 ∧ 16384 ≤ field p (off + 3) 2
    let encoded (x : Profile) : Wire := encN 1 x.bridge.code ++ encN 2 x.gf ++ encN 2 x.cal
    (AtHead s 0x42 r → p.length = 9 →
      let inRange : Prop := field p 0 1 ≤ 7 ∧ field p 1 1 ≤ 1 ∧ profileOk 4
      (¬ inRange → exec .writeTemplate s = refused s r .range) ∧
      (inRange → (∃ z, Busy s z) → exec .writeTemplate s = refused s r .protect) ∧
      (inRange → (∀ z, ¬ Busy s z) → ∀ (n : TemplateId) (bridge : BridgeType), field p 0 1 = n.val →
        field p 4 1 = bridge.code →
        let old := s.scv.templates[n]
        exec .writeTemplate s = accepted s r
          { d with scv := { d.scv with
            tableValid := false
            templates := d.scv.templates.set n
              ⟨field p 1 1 = 1, byteAt p 2, byteAt p 3, ⟨bridge, field p 5 2, field p 7 2⟩⟩ } }
          (encFlag old.enabled ++ [some old.value, some old.mask] ++ encoded old.profile ++
            encFlag s.scv.tableValid))) ∧
    (AtHead s 0x43 r → p.length = 5 →
      (¬ profileOk 0 → exec .setDefaultProfile s = refused s r .range) ∧
      (profileOk 0 → (∃ z, Busy s z) → exec .setDefaultProfile s = refused s r .protect) ∧
      (profileOk 0 → (∀ z, ¬ Busy s z) → ∀ bridge : BridgeType, field p 0 1 = bridge.code →
        exec .setDefaultProfile s = accepted s r
          { d with scv := { d.scv with default := ⟨bridge, field p 1 2, field p 3 2⟩ } }
          (encoded s.scv.default))) ∧
    (AtHead s 0x44 r → p = [] →
      (s.scv.tableValid = false → (∃ z, Busy s z) → exec .validateTemplates s = refused s r .protect) ∧
      (s.scv.tableValid = true ∨ (∀ z, ¬ Busy s z) → exec .validateTemplates s = accepted s r
        { d with scv := { d.scv with tableValid := true } }
        (((List.finRange 8).map fun t =>
            encN 2 ((List.finRange 256).countP fun g => Selects s.scv g t)).flatten ++
          encN 2 ((List.finRange 256).countP fun g => ∀ t : TemplateId, ¬ Matches s.scv g t) ++
          encFlag s.scv.tableValid))) ∧
    (AtHead s 0x47 r → p.length = 2 →
      let n := field p 1 1
      (n = 0 ∨ 32 < n ∨ 256 < field p 0 1 + n → exec .readGauges s = refused s r .range) ∧
      (1 ≤ n → n ≤ 32 → field p 0 1 + n ≤ 256 →
        let within (g : GaugeId) : Bool := field p 0 1 ≤ g.val && g.val < field p 0 1 + n
        let gauge (g : GaugeId) : Wire :=
          encI 4 s.scv.latest[g].value ++ encN 1 s.scv.latest[g].flags.code ++ encN 8 s.scv.latest[g].time ++
          encI 4 s.scv.zeros[g] ++ encN 1 s.scv.openCount[g] ++
          encOpt 1 ((s.scv.chosen g).map fun t => encN 1 t)
        let items : Wire := encN 1 n ++ (((List.finRange 256).filter within).map gauge).flatten ++
          encFlag s.scv.tableValid ++ encoded s.scv.default ++ encFlag s.scv.zeroOp.isSome ++ scanItems s.se
        let rules : List RuleId := (List.finRange 32).filter fun q => within s.lw.rules[q].gauge
        let fit := (1020 - items.length) / 14
        exec .readGauges s = accepted s r d (items ++ encN 1 (min fit rules.length) ++
          ((rules.take fit).map fun q => ruleItems q s.lw.rules[q]).flatten ++ encN 1 (rules.length - fit))))

/-- A conversion: the sample of each bridge type, its flags, the open-gauge counter, from the gauge's
profile, zero and counter. A completed FREE, PEAK or VALLEY scan writes each of its gauges' entries once,
with the scan's start time, and no other, and marks those gauges as newly written for the capture frames; the
gauges not left out form the record that the Strain Queue
takes; every limit rule takes the samples; and each rule that latches raises LIMIT with its zone and its
action's severity, in some order (log 8), stamped between strobes (log 39). -/
def Obligations.StrainConversionRule : Prop :=
  (∀ (p : Profile) (byDefault : Bool) (zero raw : Int) (opens : Nat),
    let vr := min (max raw (-8388607)) 8388607
    let limit : Bool := vr = 8388607 || vr = -8388607
    let v := vr - zero
    let strain : Int := match p.bridge with
      | .quarter => roundDiv (400 * v * 50000000) (p.gf * (50000000 - v))
      | .half => roundDiv (200 * v) p.gf
      | .full => roundDiv (100 * v) p.gf
      | .off => 0
    let e := roundDiv (strain * p.cal) 32768
    let value := min (max e (-2000000)) 2000000
    let opens' := if limit then min (opens + 1) 8 else 0
    (p.bridge ≠ .off → sampleOf p byDefault zero opens (some raw) =
      ⟨value, ⟨limit || value ≠ e, opens' = 8, false, byDefault⟩, opens', opens = 8 && opens' = 8⟩) ∧
    (p.bridge = .off → sampleOf p byDefault zero opens (some raw) =
      sampleOf p byDefault zero opens none) ∧
    sampleOf p byDefault zero opens none = ⟨0, ⟨false, false, true, byDefault⟩, opens, opens = 8⟩) ∧
  (∀ (s : State) (x : Scan), (x.results.map Prod.fst).Nodup →
    let t := s.convertScan x
    t.scv.templates = s.scv.templates ∧ t.scv.zeros = s.scv.zeros ∧ t.scv.default = s.scv.default ∧
    t.scv.tableValid = s.scv.tableValid ∧
    (∀ g raw, (g, raw) ∈ x.results →
      t.scv.latest[g] = ⟨(s.scv.sample g raw).value, (s.scv.sample g raw).flags, x.start⟩ ∧
      t.scv.openCount[g] = (s.scv.sample g raw).opens) ∧
    (∀ g, g ∉ x.results.map Prod.fst →
      t.scv.latest[g] = s.scv.latest[g] ∧ t.scv.openCount[g] = s.scv.openCount[g]) ∧
    (∀ g, g ∈ t.scv.written ↔ g ∈ s.scv.written ∨ g ∈ x.results.map Prod.fst)) ∧
  (∀ (v : StrainConverter) (g : GaugeId) (raw : Option Int),
    v.sample g raw = sampleOf (v.profile (v.chosen g)) (v.chosen g).isNone v.zeros[g] v.openCount[g] raw) ∧
  (∀ (s : State) (x : Scan),
    let t := s.convertScan x
    let samples := x.results.map fun y => (y.1, s.scv.sample y.1 y.2)
    let after (n : RuleId) : LimitRule := s.lw.rules[n].atScan samples
    let latches (n : RuleId) : Bool := (after n).latched && !s.lw.rules[n].latched
    let converted : State := { s with scv := t.scv, sq := t.sq, lw := t.lw }
    t.sq = s.sq.form
      { kind := x.kind, number := 0, start := x.start, loss := 0, lag := x.lag
        phase := x.phase.map fun p => ⟨p.zone, p.cycle, p.forces⟩
        unsent := (samples.filter fun y => !y.2.leftOut).map fun y => ⟨y.1, y.2.value, y.2.flags⟩
        sent := 0, sliced := false } s.osc ∧
    (∀ n : RuleId, t.lw.rules[n] = after n) ∧
    ((∀ n, latches n = false) → t = converted) ∧
    ((∃ n, latches n = true) → ∃ (cycle : ZoneId → Option Nat) (l : List Raise),
      (∀ z, Stamps s z (cycle z)) ∧
      l.Perm (((List.finRange 32).filter latches).map fun n =>
        let q := s.lw.rules[n]
        ⟨.limit n, q.zone, match q.action with | .report => .info | .hold => .minor | .unload => .major,
          cycle q.zone⟩) ∧
      t = l.foldl State.raise { converted with free := s.free + 1 }))

/-- A record formed at a completion: a FREE record without entries is not queued; a record enters whole, with
the loss mark and the number, and starts the delay timer of an empty queue; one without room is lost and
counted. REPORT_DELAY_RUN_OUT makes the queue due. -/
def Obligations.StrainQueueRule : Prop :=
  (∀ (q : StrainQueue) (x : StrainRecord) (now : Nat),
    let held := (q.records.map fun y => y.unsent.length).sum
    (x.kind = .free → x.unsent = [] → q.form x now = q) ∧
    (x.kind ≠ .free ∨ x.unsent ≠ [] →
      (held + x.unsent.length ≤ 4096 → q.records.length < 256 → q.form x now =
        { records := q.records ++ [{ x with number := q.counter, loss := q.pendingLoss }]
          pendingLoss := 0
          counter := (q.counter + 1) % 65536
          timer := if q.records = [] then .running now else q.timer }) ∧
      (4096 < held + x.unsent.length ∨ 256 ≤ q.records.length → q.form x now =
        { q with pendingLoss := min (q.pendingLoss + 1) 255 }))) ∧
  (∀ s t : State, s.expire .delay = some t → exec .reportDelayRunOut s =
    .next (arbitrate { t with sq := { t.sq with timer := .runOut } }))

/-- SET LIMIT RULE: the range tests, the protection, the fields with counter 0 and latch clear; the reply
holds the rule's number and its items of R173 as they stood (log 14). A rule at the completion of a scan: not
looked at while disabled, latched, or without a sample; the counter rises, returns to 0, or stays; at its
persistence it latches. -/
def Obligations.LimitRuleRule : Prop :=
  (∀ (s : State) (r : Request), AtHead s 0x48 r → r.payload.length = 12 →
    let p := r.payload
    let threshold := fieldI p 3 4
    let inRange : Prop := field p 0 1 ≤ 31 ∧ field p 1 1 ≤ 1 ∧ -2000000 ≤ threshold ∧
      threshold ≤ 2000000 ∧ 1 ≤ field p 7 1 ∧ field p 7 1 ≤ 7 ∧ 1 ≤ field p 8 1 ∧ field p 9 1 ≤ 2 ∧
      field p 10 1 ≤ 3 ∧ field p 11 1 ≤ 1
    (¬ inRange → exec .setLimitRule s = refused s r .range) ∧
    (inRange → ∀ (n : RuleId) (z : ZoneId) (gauge : GaugeId) (action : LimitAction),
      field p 0 1 = n.val → field p 10 1 = z.val → field p 2 1 = gauge.val → field p 9 1 = action.code →
      let old := s.lw.rules[n]
      let new : LimitRule := ⟨field p 1 1 = 1, gauge, threshold,
        ⟨(field p 7 1).testBit 0, (field p 7 1).testBit 1, (field p 7 1).testBit 2⟩, field p 8 1, action, z,
        field p 11 1 = 1, 0, false⟩
      let protects : Prop := old.enabled = true ∧ (Busy s old.zone ∨ Busy s z) ∧
        (new.enabled = false ∨ (Busy s old.zone ∧ z ≠ old.zone) ∨ old.persistence < new.persistence ∨
          action.code < old.action.code)
      (protects → exec .setLimitRule s = refused s r .protect) ∧
      (¬ protects → exec .setLimitRule s =
        accepted s r (s.dequeued.setRule n new) (ruleItems n old)))) ∧
  (∀ (q : LimitRule) (l : List (GaugeId × Sample)),
    (q.enabled = false ∨ q.latched = true ∨ q.gauge ∉ l.map Prod.fst → q.atScan l = q) ∧
    (∀ l₁ x l₂, l = l₁ ++ (q.gauge, x) :: l₂ → q.gauge ∉ l₁.map Prod.fst → q.enabled = true →
      q.latched = false →
      let invalid : Prop := x.flags.noData = true ∨ x.flags.opened = true
      let counts : Prop := (invalid ∧ q.trip = true) ∨ (¬ invalid ∧
        ((x.value < q.threshold ∧ q.mask.below = true) ∨ (x.value = q.threshold ∧ q.mask.equal = true) ∨
          (q.threshold < x.value ∧ q.mask.above = true)))
      (counts → q.counter + 1 < q.persistence → q.atScan l = { q with counter := q.counter + 1 }) ∧
      (counts → q.persistence ≤ q.counter + 1 →
        q.atScan l = { q with counter := 0, latched := true }) ∧
      (invalid → q.trip = false → q.atScan l = q) ∧
      (¬ invalid → ¬ counts → q.atScan l = { q with counter := 0 })))

/-! ### The Crack Monitor -/

/-- LOOP_SAMPLE: every loop's latest level, run, accepted level, change flag and change time; an enabled
loop that opens raises LOOP, several in some order (log 8). AE_HIT: ignored on a disabled channel, counted
within the lockout, otherwise accepted, and counted in the current cycle when it is correlated and in the
window, by the zone's phase index at the latest strobe; where the clock did not run at that strobe and
RESUME has started it since, the count is open (log 12). -/
def Obligations.CrackEventsRule : Prop :=
  (∀ (s t : State) (levels : BitVec 32), s.expire .loop = some t →
    let level (n : LoopId) : LoopLevel := if levels.getLsbD n then .opened else .closed
    let c (n : LoopId) : LoopRecord := t.cm.loops[n]
    let changes (n : LoopId) : Prop := level n ≠ (c n).accepted ∧ (c n).debounce ≤ (c n).run + 1
    let opens (n : LoopId) : Prop := changes n ∧ level n = .opened ∧ (c n).enabled = true
    ∃ cm : CrackMonitor, cm.aes = t.cm.aes ∧ cm.nextSampleAt = t.cm.nextSampleAt + 1000 ∧
      (∀ n : LoopId,
        (level n = (c n).accepted → cm.loops[n] = { c n with latest := level n, run := 0 }) ∧
        (level n ≠ (c n).accepted → ¬ changes n →
          cm.loops[n] = { c n with latest := level n, run := (c n).run + 1 }) ∧
        (changes n → cm.loops[n] = { c n with
          latest := level n, accepted := level n, run := 0, changed := true
          lastChange := some t.hall })) ∧
      (∃ u, exec (.loopSample levels) s = .next u ∧ u.cm = cm) ∧
      ((∀ n, ¬ opens n) → exec (.loopSample levels) s = .next { t with cm }) ∧
      ((∃ n, opens n) → ∃ (cycle : ZoneId → Option Nat) (order : List LoopId),
        (∀ z, Stamps t z (cycle z)) ∧ order.Nodup ∧ (∀ n, n ∈ order ↔ opens n) ∧
        exec (.loopSample levels) s = .next (arbitrate
          ((order.map fun n => ⟨.loop n, (c n).zone, (c n).severity, cycle (c n).zone⟩).foldl State.raise
            { t with cm, free := t.free + 1 })))) ∧
  (∀ (s : State) (ch : AeId),
    let e := s.cm.aes[ch]
    let x := s.zone e.zone
    let locked : Prop := ∃ h, e.lastHit = some h ∧ s.osc - h.moment < e.lockout
    let inside (index : Nat) : Prop := (e.winStart ≤ e.winEnd ∧ e.winStart ≤ index ∧ index ≤ e.winEnd) ∨
      (e.winEnd < e.winStart ∧ (e.winStart ≤ index ∨ index ≤ e.winEnd))
    let cycling : Prop := x.clockRunning = true ∧
      ∃ a : ActId, x.members.getLsbD a = true ∧ (s.chan a).wasCycling = true
    let hit (cycle : Nat) : State := { s.setAe ch { e with
      total := min (e.total + 1) 4294967295, lastHit := some ⟨s.osc, s.hall⟩, cycle } with
      free := s.free + 1 }
    (e.enabled = false → exec (.aeHit ch) s = .next s) ∧
    (e.enabled = true → locked → exec (.aeHit ch) s =
      .next (s.setAe ch { e with lockedOut := min (e.lockedOut + 1) 65535 })) ∧
    (e.enabled = true → ¬ locked → ¬ cycling → exec (.aeHit ch) s = .next (hit e.cycle)) ∧
    (e.enabled = true → ¬ locked → cycling →
      let counted : Prop := exec (.aeHit ch) s = .next (hit (min (e.cycle + 1) 65535))
      let plain : Prop := exec (.aeHit ch) s = .next (hit e.cycle)
      (∀ n, x.latestN = some n → (inside (n * x.inc % 2 ^ 32 / 2 ^ 22) → counted) ∧
        (¬ inside (n * x.inc % 2 ^ 32 / 2 ^ 22) → plain)) ∧
      (x.latestN = none → counted ∨ plain)))

/-- CONFIGURE LOOP, CONFIGURE AE, READ CRACK STATUS: the range tests, the protection, what they write, and
that READ CRACK STATUS returns every loop and every AE channel, with the ring of a named one (log 14), and
clears every loop's change flag and nothing else. -/
def Obligations.CrackRequests : Prop :=
  ∀ (s : State) (r : Request),
    let p := r.payload
    let d := s.dequeued
    let protects (was now : Bool) (y z : ZoneId) (old new : Severity) (weaker : Prop) : Prop :=
      was = true ∧ (Busy s y ∨ Busy s z) ∧
      (now = false ∨ (Busy s y ∧ z ≠ y) ∨ new.code < old.code ∨ weaker)
    let enabled : Bool := field p 1 1 = 1
    let settings (e : AeRecord) : Wire := encFlag e.enabled ++ encN 1 e.zone ++ encN 1 e.severity.code ++
      encN 2 e.lockout ++ encN 2 e.winStart ++ encN 2 e.winEnd ++ encN 1 e.ringLen ++ encN 2 e.threshold
    (AtHead s 0x50 r → p.length = 5 →
      let inRange : Prop := field p 0 1 ≤ 31 ∧ field p 1 1 ≤ 1 ∧ field p 2 1 ≤ 3 ∧
        (field p 3 1 = 2 ∨ field p 3 1 = 3) ∧ 1 ≤ field p 4 1
      (¬ inRange → exec .configureLoop s = refused s r .range) ∧
      (inRange → ∀ (n : LoopId) (z : ZoneId) (severity : Severity), field p 0 1 = n.val →
        field p 2 1 = z.val → field p 3 1 = severity.code →
        let l := s.cm.loops[n]
        let shut : Prop := protects l.enabled enabled l.zone z l.severity severity (l.debounce < field p 4 1)
        let m : LoopRecord := { l with enabled, zone := z, severity, debounce := field p 4 1 }
        let m' : LoopRecord :=
          if l.enabled = false ∧ enabled = true then { m with accepted := l.latest, run := 0 } else m
        (shut → exec .configureLoop s = refused s r .protect) ∧
        (¬ shut → exec .configureLoop s = accepted s r (d.setLoop n m')
          (encFlag l.enabled ++ encN 1 l.zone ++ encN 1 l.severity.code ++ encN 1 l.debounce ++
            encN 1 m'.accepted.code)))) ∧
    (AtHead s 0x51 r → p.length = 13 →
      let inRange : Prop := field p 0 1 ≤ 7 ∧ field p 1 1 ≤ 1 ∧ field p 2 1 ≤ 3 ∧ 1 ≤ field p 3 1 ∧
        field p 3 1 ≤ 3 ∧ 10 ≤ field p 4 2 ∧ field p 4 2 ≤ 10000 ∧ field p 6 2 ≤ 1023 ∧
        field p 8 2 ≤ 1023 ∧ 1 ≤ field p 10 1 ∧ field p 10 1 ≤ 64 ∧ 1 ≤ field p 11 2
      (¬ inRange → exec .configureAe s = refused s r .range) ∧
      (inRange → ∀ (n : AeId) (z : ZoneId) (severity : Severity), field p 0 1 = n.val →
        field p 2 1 = z.val → field p 3 1 = severity.code →
        let e := s.cm.aes[n]
        let shut : Prop :=
          protects e.enabled enabled e.zone z e.severity severity (e.threshold < field p 11 2)
        (shut → exec .configureAe s = refused s r .protect) ∧
        (¬ shut → exec .configureAe s = accepted s r
          (d.setAe n ⟨enabled, z, severity, field p 4 2, field p 6 2, field p 8 2, field p 10 1,
            field p 11 2, 0, 0, 0, [], none⟩)
          (settings e ++ encN 4 e.total ++ encN 2 e.cycle ++ encN 4 e.ring.sum)))) ∧
    (AtHead s 0x52 r → p.length = 2 →
      (1 < field p 0 1 ∨ (field p 0 1 = 1 ∧ 7 < field p 1 1) →
        exec .readCrackStatus s = refused s r .range) ∧
      (let loop (l : LoopRecord) : Wire := encFlag l.enabled ++ encN 1 l.zone ++ encN 1 l.severity.code ++
        encN 1 l.debounce ++ encN 1 l.latest.code ++ encN 1 l.accepted.code ++ encN 1 l.run ++
        encFlag l.changed ++ encOpt 8 (l.lastChange.map (encN 8))
      let ae (e : AeRecord) : Wire := settings e ++ encN 4 e.total ++ encN 2 e.lockedOut ++ encN 2 e.cycle ++
        encN 1 e.ring.length ++ encN 4 e.ring.sum ++ encOpt 8 (e.lastHit.map fun h => encN 8 h.hall)
      let items : Wire := ((List.finRange 32).map fun n => loop s.cm.loops[n]).flatten ++
        ((List.finRange 8).map fun n => ae s.cm.aes[n]).flatten
      ∃ t : State, (∀ n : LoopId, t.cm.loops[n] = { s.cm.loops[n] with changed := false }) ∧
        t.cm.aes = s.cm.aes ∧ t.cm.nextSampleAt = s.cm.nextSampleAt ∧ t = { d with cm := t.cm } ∧
        (field p 0 1 = 0 → exec .readCrackStatus s = accepted s r t items) ∧
        (∀ n : AeId, field p 0 1 = 1 → field p 1 1 = n.val → exec .readCrackStatus s = accepted s r t
          (items ++ encN 1 s.cm.aes[n].ring.length ++ (s.cm.aes[n].ring.map (encN 2)).flatten))))

/-! ### The Capture Unit -/

/-- CONFIGURE CAPTURE, TRIGGER, READ CAPTURE and RELEASE BLOCK: the tests in the order of R10, what each does
to the blocks, and its reply; for the Capture Unit in a state that it can be in (at most one block active,
none in a stall). The block's number is sent only when recording starts (log 14), a zone mask with a bit
above 3 is RANGE (log 16), TRIGGER sends its own outcome's items alone (log 37), and a block that becomes
FREE holds 0 frames (log 44). -/
def Obligations.CaptureRequests : Prop :=
  ∀ (s : State) (r : Request), CaptureOk s →
    let p := r.payload
    let d := s.dequeued
    let blank : Block := ⟨.free, [], 0, [], 0, none, 0⟩
    let recording (c : CaptureConfig) : Block := ⟨.recording, c.signals, c.pre, [], 0, none, 0⟩
    let idle : Prop := s.cu.stalled = false ∧ ∀ b : BlockId, ¬ s.cu.blocks[b].isActive
    (AtHead s 0x60 r →
      let n := field p 0 1
      (p.length ≠ 7 + 2 * n → exec .configureCapture s = refused s r .malformed) ∧
      (p.length = 7 + 2 * n →
        (readCapture p n = none ∨ 1 < field p (6 + 2 * n) 1 →
          exec .configureCapture s = refused s r .range) ∧
        (∀ cfg, readCapture p n = some cfg → field p (6 + 2 * n) 1 ≤ 1 →
          (¬ idle → exec .configureCapture s = refused s r .state) ∧
          (idle → field p (6 + 2 * n) 1 = 0 → exec .configureCapture s = accepted s r
            { d with cu := { d.cu with cfg } } (captureItems s.cu.cfg)) ∧
          (idle → field p (6 + 2 * n) 1 = 1 →
            ((∀ b : BlockId, s.cu.blocks[b].state ≠ .free) →
              exec .configureCapture s = refused s r .full) ∧
            (∀ b : BlockId, s.cu.blocks[b].state = .free →
              (∀ c : BlockId, c < b → s.cu.blocks[c].state ≠ .free) →
              exec .configureCapture s = accepted s r
                { d with cu := { d.cu with cfg, blocks := d.cu.blocks.set b (recording cfg) } }
                (captureItems s.cu.cfg ++ encN 1 b)))))) ∧
    (AtHead s 0x61 r → p = [] →
      (idle → exec .trigger s = refused s r .state) ∧
      (∀ b : BlockId, s.cu.blocks[b].state = .recording → exec .trigger s = accepted s r
        (d.setBlock b { s.cu.blocks[b] with
          state := .post, trigger := some ⟨s.hall, none⟩, preHeld := s.cu.blocks[b].frames.length })
        (encN 1 0 ++ encN 1 b)) ∧
      (∀ b : BlockId, s.cu.blocks[b].state = .post →
        let further := min (s.cu.blocks[b].further + 1) 65535
        exec .trigger s = accepted s r (d.setBlock b { s.cu.blocks[b] with further })
          (encN 1 1 ++ encN 1 b ++ encN 2 further)) ∧
      (s.cu.stalled = true →
        let missed := min (s.cu.missed + 1) 65535
        exec .trigger s = accepted s r { d with cu := { d.cu with missed } }
          (encN 1 2 ++ encN 2 missed))) ∧
    (AtHead s 0x62 r → p.length = 5 →
      (3 < field p 0 1 → exec .readCapture s = refused s r .range) ∧
      (∀ b : BlockId, field p 0 1 = b.val →
        let k := s.cu.blocks[b]
        let first := field p 1 2
        let last := min (field p 3 2) (k.frames.length - 1)
        (2047 < first ∨ 2047 < field p 3 2 → exec .readCapture s = refused s r .range) ∧
        (first ≤ 2047 → field p 3 2 ≤ 2047 →
          (k.state ≠ .locked → exec .readCapture s = refused s r .state) ∧
          (k.state = .locked → last < first → exec .readCapture s = refused s r .range) ∧
          (k.state = .locked → first ≤ last →
            let count := min (last + 1 - first) 30
            exec .readCapture s = accepted s r d
              (encN 1 b ++ blockItems k ++ encN 2 first ++ encN 1 count ++
                encN 2 (if 30 < last + 1 - first then first + 30 else 65535) ++
                (((k.frames.drop first).take count).map (frameItems k.signals)).flatten))))) ∧
    (AtHead s 0x63 r → p.length = 1 → ∀ b : BlockId, field p 0 1 = b.val →
      let freed : State := { d with
        lp := { d.lp with announce := s.lp.announce.filter (· ≠ b) }
        cu := { d.cu with blocks := d.cu.blocks.set b blank } }
      (s.cu.blocks[b].state = .post ∨ s.cu.blocks[b].state = .free →
        exec .releaseBlock s = refused s r .state) ∧
      (s.cu.blocks[b].state = .recording → exec .releaseBlock s = accepted s r (d.setBlock b blank)
        (encN 1 1 ++ encN 1 3)) ∧
      (s.cu.blocks[b].state = .locked → s.cu.stalled = false → exec .releaseBlock s =
        accepted s r freed (encN 1 3 ++ encN 1 s.cu.state.code)) ∧
      (s.cu.blocks[b].state = .locked → s.cu.stalled = true → exec .releaseBlock s = accepted s r
        { freed with cu := { d.cu with
          stalled := false, blocks := d.cu.blocks.set b (recording s.cu.cfg) } }
        (encN 1 3 ++ encN 1 0)))

/-- A capture frame: each signal's value and mark as the part stands, `chans` being the channels the frame
finds; it joins the ring of a RECORDING block, or the frames of a POST block, which locks at its last one: it
is announced, and recording goes on in the lowest FREE block, stalls, or ends; the new-value marks are then
spent. A raise whose severity and zone qualify is a trigger. Every strobe gives the active block one frame
(here with no alarm trigger configured): each actuator's value as it stood before or after its update of
this strobe, each gauge's value and mark as they stood before this strobe, or, where a scan has completed at
it and before the frame (log 8), after that scan. The marks are spent at a strobe without a frame too (log
25). -/
def Obligations.CaptureFrameRule : Prop :=
  (∀ (s : State) (chans : Vector Channel 8) (timeSet : Bool), CaptureOk s →
    let t := s.takeFrame chans timeSet
    ((∀ b : BlockId, ¬ s.cu.blocks[b].isActive) → t = s) ∧
    (∀ b : BlockId, s.cu.blocks[b].isActive →
      FrameTaken s b
        ⟨s.hall, timeSet, s.cu.blocks[b].signals.map (signalItem (fun a => chans[a]) s.scv)⟩ t ∧
      t = { s with
        scv := { s.scv with written := [] }, cu := t.cu, lp := { s.lp with announce := t.lp.announce } })) ∧
  (∀ (s : State) (r : Raise), CaptureOk s →
    let admitted : Prop := s.cu.cfg.severity ≠ .off ∧ s.cu.cfg.severity.code ≤ r.severity.code ∧
      s.cu.cfg.zoneMask.getLsbD r.zone = true
    (¬ admitted → (s.raise r).cu = s.cu) ∧
    (admitted →
      (s.cu.stalled = false → (∀ b : BlockId, ¬ s.cu.blocks[b].isActive) → (s.raise r).cu = s.cu) ∧
      (s.cu.stalled = true → (s.raise r).cu = { s.cu with missed := min (s.cu.missed + 1) 65535 }) ∧
      (∀ b : BlockId, let x := s.cu.blocks[b]
        (x.state = .post → (s.raise r).cu = { s.cu with
          blocks := s.cu.blocks.set b { x with further := min (x.further + 1) 65535 } }) ∧
        (x.state = .recording → ∀ kind : RaiseKind,
          (kind = .occurrence ↔ ∃ e ∈ s.zs.alarms, e.source = r.source) →
          (kind = .notStored ↔ (∀ e ∈ s.zs.alarms, e.source ≠ r.source ∧ e.severity ≠ .info) ∧
            16 ≤ s.zs.alarms.length) →
          (s.raise r).cu = { s.cu with blocks := s.cu.blocks.set b { x with
            state := .post, preHeld := x.frames.length
            trigger := some ⟨s.hall, some ⟨r.source, r.zone, r.severity, kind⟩⟩ } })))) ∧
  (∀ s t : State, CaptureOk s → s.cu.cfg.severity = .off →
    ∀ i ∈ [Instr.oscillatorStrobe, .substituteStrobe, .syncEdge], exec i s = .next t →
    t.tb.lastStrobeAt ≠ s.tb.lastStrobeAt →
    let quiet : Prop := (∀ z, (s.zone z).capture = .none) ∨
      ∃ q, s.se.scan = some q ∧ ∃ b : BankId, q.awaiting[b] = true
    (quiet → t.scv = { s.scv with written := [] }) ∧
    ((∀ b : BlockId, ¬ s.cu.blocks[b].isActive) → t.cu = s.cu) ∧
    (∀ b : BlockId, s.cu.blocks[b].isActive →
      ∃ (w : State) (seen : ActId → Bool) (v : StrainConverter), t = arbitrate w ∧
        FrameTaken s b ⟨t.hall, s.tb.pendingSet.isSome, s.cu.blocks[b].signals.map
          (signalItem (fun a => if seen a then t.chan a else s.chan a) v)⟩ w ∧
        (v = s.scv ∨ (¬ quiet ∧ t.scv = { v with written := [] } ∧
          ∀ g, g ∈ s.scv.written → g ∈ v.written))))

/-! ### What the gauge, crack and capture blocks' commands and the strobes leave unchanged -/

/-- The requests of the gauge, crack and capture blocks each change their own block alone; the bank ports'
and timers' events keep the time, the Crack Monitor, the channels but for an entry into HOLD, and the zones'
configuration; strobes keep the configuration of channels and zones, the crack loops and the link. -/
def Obligations.GaugeCrackCaptureAndStrobeFrame : Prop :=
  (∀ s t : State, ∀ i ∈ [Instr.setScanList, .setScanInterval, .bankReset, .writeTemplate,
      .setDefaultProfile, .validateTemplates, .readGauges, .setLimitRule, .configureLoop, .configureAe,
      .readCrackStatus, .configureCapture, .trigger, .readCapture, .releaseBlock, .captureStatus],
    exec i s = .next t →
    t.tb = s.tb ∧ t.ac = s.ac ∧ SameZones s t ∧ SameAlarms s t ∧ t.osc = s.osc ∧ SameLink s t ∧
    (i ∉ [Instr.setScanList, .setScanInterval, .bankReset] → t.se = s.se) ∧
    (i ∉ [Instr.writeTemplate, .setDefaultProfile, .validateTemplates] → t.scv = s.scv) ∧
    (i ≠ .setScanInterval → t.sq = s.sq) ∧ (i ≠ .setLimitRule → t.lw = s.lw) ∧
    (i ∉ [Instr.configureLoop, .configureAe, .readCrackStatus] → t.cm = s.cm) ∧
    (i ∉ [Instr.configureCapture, .trigger, .releaseBlock] → t.cu = s.cu)) ∧
  (∀ (s t : State) (b : BankId) (values : List Int) (levels : BitVec 32),
    ∀ i ∈ [Instr.bankAnswer b values, .bankTimeout b, .bankSettlingEnd b, .freeScanExpiry,
      .reportDelayRunOut, .zeroGauges, .loopSample levels], exec i s = .next t →
    t.tb = s.tb ∧ SameLink s t ∧ (i ≠ .loopSample levels → t.cm = s.cm) ∧
    (∀ a, t.chan a = { s.chan a with aHold := (t.chan a).aHold, j := (t.chan a).j }) ∧
    (∀ z, (t.zone z).members = (s.zone z).members ∧ (t.zone z).inc = (s.zone z).inc ∧
      (t.zone z).cycleCount = (s.zone z).cycleCount ∧ (t.zone z).window = (s.zone z).window)) ∧
  (∀ s t : State, ∀ i ∈ [Instr.oscillatorStrobe, .substituteStrobe, .syncEdge], exec i s = .next t →
    SameLink s t ∧ t.cm.loops = s.cm.loops ∧
    (∀ a, (t.chan a).cfg = (s.chan a).cfg ∧ (t.chan a).port = (s.chan a).port ∧
      (t.chan a).dryRun = (s.chan a).dryRun) ∧
    (∀ z, (t.zone z).members = (s.zone z).members ∧ (t.zone z).rate = (s.zone z).rate ∧
      (t.zone z).inc = (s.zone z).inc ∧ (t.zone z).window = (s.zone z).window))

/-! ### Invariants that every step keeps -/

/-- The alarm list never holds more than 16 entries, nor two of one source. -/
def Obligations.EveryStepKeepsTheAlarmList : Prop :=
  ∀ s t : State, AlarmListOk s → step s = .next t → AlarmListOk t

/-- A zone is never in RUN while the list holds a MINOR or MAJOR entry of it; the hold reasons are empty
outside HOLD; an actuator is a member of at most one zone. -/
def Obligations.EveryStepKeepsTheZones : Prop :=
  ∀ s t : State, step s = .next t →
    (NoRunUnderAlarm s → NoRunUnderAlarm t) ∧ (ReasonsOnlyInHold s → ReasonsOnlyInHold t) ∧
    (OneZoneEach s → OneZoneEach t)

/-- Every channel's gain, queue and valve output stay within their bounds, the valve output 0 in OFF, in
FAULT and in dry run, and F min not above F max. -/
def Obligations.EveryStepKeepsTheChannels : Prop :=
  ∀ s t : State, ChannelsOk s → step s = .next t → ChannelsOk t

/-- The request queue and the reply queue stay within four places, and every reservation belongs to a
deferred operation in flight. -/
def Obligations.EveryStepKeepsTheLinkQueues : Prop :=
  ∀ s t : State, LinkOk s → step s = .next t → LinkOk t

/-- The Strain Queue stays within its capacity; at most one capture block is RECORDING or POST, and none in
a stall. -/
def Obligations.EveryStepKeepsTheRecords : Prop :=
  ∀ s t : State, step s = .next t → (StrainOk s → StrainOk t) ∧ (CaptureOk s → CaptureOk t)

/-- The part right after reset satisfies every invariant. -/
def Obligations.ResetSatisfiesTheInvariants : Prop :=
  AlarmListOk State.reset ∧ NoRunUnderAlarm State.reset ∧ ReasonsOnlyInHold State.reset ∧
  OneZoneEach State.reset ∧ ChannelsOk State.reset ∧ LinkOk State.reset ∧ StrainOk State.reset ∧
  CaptureOk State.reset
end

