-- ==== Sys2Proof/Laws/State.lean ====
section
/-! SUPPORT. One lemma per field per update of the state, true by rfl, and the reads of a table after a
write to it. -/

namespace Sys2Proof.Machine

@[simp] theorem State.setChan_lp (s : State) (a : ActId) (c : Channel) : (s.setChan a c).lp = s.lp := rfl
@[simp] theorem State.setChan_tb (s : State) (a : ActId) (c : Channel) : (s.setChan a c).tb = s.tb := rfl
@[simp] theorem State.setChan_ac (s : State) (a : ActId) (c : Channel) : (s.setChan a c).ac = s.ac.set a c := rfl
@[simp] theorem State.setChan_zs (s : State) (a : ActId) (c : Channel) : (s.setChan a c).zs = s.zs := rfl
@[simp] theorem State.setChan_se (s : State) (a : ActId) (c : Channel) : (s.setChan a c).se = s.se := rfl
@[simp] theorem State.setChan_scv (s : State) (a : ActId) (c : Channel) : (s.setChan a c).scv = s.scv := rfl
@[simp] theorem State.setChan_sq (s : State) (a : ActId) (c : Channel) : (s.setChan a c).sq = s.sq := rfl
@[simp] theorem State.setChan_lw (s : State) (a : ActId) (c : Channel) : (s.setChan a c).lw = s.lw := rfl
@[simp] theorem State.setChan_cm (s : State) (a : ActId) (c : Channel) : (s.setChan a c).cm = s.cm := rfl
@[simp] theorem State.setChan_cu (s : State) (a : ActId) (c : Channel) : (s.setChan a c).cu = s.cu := rfl
@[simp] theorem State.setChan_osc (s : State) (a : ActId) (c : Channel) : (s.setChan a c).osc = s.osc := rfl
@[simp] theorem State.setChan_free (s : State) (a : ActId) (c : Channel) : (s.setChan a c).free = s.free := rfl
@[simp] theorem State.setChan_pending (s : State) (a : ActId) (c : Channel) : (s.setChan a c).pending = s.pending := rfl

@[simp] theorem State.setZone_lp (s : State) (z : ZoneId) (x : Zone) : (s.setZone z x).lp = s.lp := rfl
@[simp] theorem State.setZone_tb (s : State) (z : ZoneId) (x : Zone) : (s.setZone z x).tb = s.tb := rfl
@[simp] theorem State.setZone_ac (s : State) (z : ZoneId) (x : Zone) : (s.setZone z x).ac = s.ac := rfl
@[simp] theorem State.setZone_zs (s : State) (z : ZoneId) (x : Zone) : (s.setZone z x).zs = { s.zs with zones := s.zs.zones.set z x } := rfl
@[simp] theorem State.setZone_se (s : State) (z : ZoneId) (x : Zone) : (s.setZone z x).se = s.se := rfl
@[simp] theorem State.setZone_scv (s : State) (z : ZoneId) (x : Zone) : (s.setZone z x).scv = s.scv := rfl
@[simp] theorem State.setZone_sq (s : State) (z : ZoneId) (x : Zone) : (s.setZone z x).sq = s.sq := rfl
@[simp] theorem State.setZone_lw (s : State) (z : ZoneId) (x : Zone) : (s.setZone z x).lw = s.lw := rfl
@[simp] theorem State.setZone_cm (s : State) (z : ZoneId) (x : Zone) : (s.setZone z x).cm = s.cm := rfl
@[simp] theorem State.setZone_cu (s : State) (z : ZoneId) (x : Zone) : (s.setZone z x).cu = s.cu := rfl
@[simp] theorem State.setZone_osc (s : State) (z : ZoneId) (x : Zone) : (s.setZone z x).osc = s.osc := rfl
@[simp] theorem State.setZone_free (s : State) (z : ZoneId) (x : Zone) : (s.setZone z x).free = s.free := rfl
@[simp] theorem State.setZone_pending (s : State) (z : ZoneId) (x : Zone) : (s.setZone z x).pending = s.pending := rfl

@[simp] theorem State.setBank_lp (s : State) (b : BankId) (x : Bank) : (s.setBank b x).lp = s.lp := rfl
@[simp] theorem State.setBank_tb (s : State) (b : BankId) (x : Bank) : (s.setBank b x).tb = s.tb := rfl
@[simp] theorem State.setBank_ac (s : State) (b : BankId) (x : Bank) : (s.setBank b x).ac = s.ac := rfl
@[simp] theorem State.setBank_zs (s : State) (b : BankId) (x : Bank) : (s.setBank b x).zs = s.zs := rfl
@[simp] theorem State.setBank_se (s : State) (b : BankId) (x : Bank) : (s.setBank b x).se = { s.se with banks := s.se.banks.set b x } := rfl
@[simp] theorem State.setBank_scv (s : State) (b : BankId) (x : Bank) : (s.setBank b x).scv = s.scv := rfl
@[simp] theorem State.setBank_sq (s : State) (b : BankId) (x : Bank) : (s.setBank b x).sq = s.sq := rfl
@[simp] theorem State.setBank_lw (s : State) (b : BankId) (x : Bank) : (s.setBank b x).lw = s.lw := rfl
@[simp] theorem State.setBank_cm (s : State) (b : BankId) (x : Bank) : (s.setBank b x).cm = s.cm := rfl
@[simp] theorem State.setBank_cu (s : State) (b : BankId) (x : Bank) : (s.setBank b x).cu = s.cu := rfl
@[simp] theorem State.setBank_osc (s : State) (b : BankId) (x : Bank) : (s.setBank b x).osc = s.osc := rfl
@[simp] theorem State.setBank_free (s : State) (b : BankId) (x : Bank) : (s.setBank b x).free = s.free := rfl
@[simp] theorem State.setBank_pending (s : State) (b : BankId) (x : Bank) : (s.setBank b x).pending = s.pending := rfl

@[simp] theorem State.setRule_lp (s : State) (n : RuleId) (x : LimitRule) : (s.setRule n x).lp = s.lp := rfl
@[simp] theorem State.setRule_tb (s : State) (n : RuleId) (x : LimitRule) : (s.setRule n x).tb = s.tb := rfl
@[simp] theorem State.setRule_ac (s : State) (n : RuleId) (x : LimitRule) : (s.setRule n x).ac = s.ac := rfl
@[simp] theorem State.setRule_zs (s : State) (n : RuleId) (x : LimitRule) : (s.setRule n x).zs = s.zs := rfl
@[simp] theorem State.setRule_se (s : State) (n : RuleId) (x : LimitRule) : (s.setRule n x).se = s.se := rfl
@[simp] theorem State.setRule_scv (s : State) (n : RuleId) (x : LimitRule) : (s.setRule n x).scv = s.scv := rfl
@[simp] theorem State.setRule_sq (s : State) (n : RuleId) (x : LimitRule) : (s.setRule n x).sq = s.sq := rfl
@[simp] theorem State.setRule_lw (s : State) (n : RuleId) (x : LimitRule) : (s.setRule n x).lw = { rules := s.lw.rules.set n x } := rfl
@[simp] theorem State.setRule_cm (s : State) (n : RuleId) (x : LimitRule) : (s.setRule n x).cm = s.cm := rfl
@[simp] theorem State.setRule_cu (s : State) (n : RuleId) (x : LimitRule) : (s.setRule n x).cu = s.cu := rfl
@[simp] theorem State.setRule_osc (s : State) (n : RuleId) (x : LimitRule) : (s.setRule n x).osc = s.osc := rfl
@[simp] theorem State.setRule_free (s : State) (n : RuleId) (x : LimitRule) : (s.setRule n x).free = s.free := rfl
@[simp] theorem State.setRule_pending (s : State) (n : RuleId) (x : LimitRule) : (s.setRule n x).pending = s.pending := rfl

@[simp] theorem State.setLoop_lp (s : State) (n : LoopId) (x : LoopRecord) : (s.setLoop n x).lp = s.lp := rfl
@[simp] theorem State.setLoop_tb (s : State) (n : LoopId) (x : LoopRecord) : (s.setLoop n x).tb = s.tb := rfl
@[simp] theorem State.setLoop_ac (s : State) (n : LoopId) (x : LoopRecord) : (s.setLoop n x).ac = s.ac := rfl
@[simp] theorem State.setLoop_zs (s : State) (n : LoopId) (x : LoopRecord) : (s.setLoop n x).zs = s.zs := rfl
@[simp] theorem State.setLoop_se (s : State) (n : LoopId) (x : LoopRecord) : (s.setLoop n x).se = s.se := rfl
@[simp] theorem State.setLoop_scv (s : State) (n : LoopId) (x : LoopRecord) : (s.setLoop n x).scv = s.scv := rfl
@[simp] theorem State.setLoop_sq (s : State) (n : LoopId) (x : LoopRecord) : (s.setLoop n x).sq = s.sq := rfl
@[simp] theorem State.setLoop_lw (s : State) (n : LoopId) (x : LoopRecord) : (s.setLoop n x).lw = s.lw := rfl
@[simp] theorem State.setLoop_cm (s : State) (n : LoopId) (x : LoopRecord) : (s.setLoop n x).cm = { s.cm with loops := s.cm.loops.set n x } := rfl
@[simp] theorem State.setLoop_cu (s : State) (n : LoopId) (x : LoopRecord) : (s.setLoop n x).cu = s.cu := rfl
@[simp] theorem State.setLoop_osc (s : State) (n : LoopId) (x : LoopRecord) : (s.setLoop n x).osc = s.osc := rfl
@[simp] theorem State.setLoop_free (s : State) (n : LoopId) (x : LoopRecord) : (s.setLoop n x).free = s.free := rfl
@[simp] theorem State.setLoop_pending (s : State) (n : LoopId) (x : LoopRecord) : (s.setLoop n x).pending = s.pending := rfl

@[simp] theorem State.setAe_lp (s : State) (n : AeId) (x : AeRecord) : (s.setAe n x).lp = s.lp := rfl
@[simp] theorem State.setAe_tb (s : State) (n : AeId) (x : AeRecord) : (s.setAe n x).tb = s.tb := rfl
@[simp] theorem State.setAe_ac (s : State) (n : AeId) (x : AeRecord) : (s.setAe n x).ac = s.ac := rfl
@[simp] theorem State.setAe_zs (s : State) (n : AeId) (x : AeRecord) : (s.setAe n x).zs = s.zs := rfl
@[simp] theorem State.setAe_se (s : State) (n : AeId) (x : AeRecord) : (s.setAe n x).se = s.se := rfl
@[simp] theorem State.setAe_scv (s : State) (n : AeId) (x : AeRecord) : (s.setAe n x).scv = s.scv := rfl
@[simp] theorem State.setAe_sq (s : State) (n : AeId) (x : AeRecord) : (s.setAe n x).sq = s.sq := rfl
@[simp] theorem State.setAe_lw (s : State) (n : AeId) (x : AeRecord) : (s.setAe n x).lw = s.lw := rfl
@[simp] theorem State.setAe_cm (s : State) (n : AeId) (x : AeRecord) : (s.setAe n x).cm = { s.cm with aes := s.cm.aes.set n x } := rfl
@[simp] theorem State.setAe_cu (s : State) (n : AeId) (x : AeRecord) : (s.setAe n x).cu = s.cu := rfl
@[simp] theorem State.setAe_osc (s : State) (n : AeId) (x : AeRecord) : (s.setAe n x).osc = s.osc := rfl
@[simp] theorem State.setAe_free (s : State) (n : AeId) (x : AeRecord) : (s.setAe n x).free = s.free := rfl
@[simp] theorem State.setAe_pending (s : State) (n : AeId) (x : AeRecord) : (s.setAe n x).pending = s.pending := rfl

@[simp] theorem State.setBlock_lp (s : State) (b : BlockId) (x : Block) : (s.setBlock b x).lp = s.lp := rfl
@[simp] theorem State.setBlock_tb (s : State) (b : BlockId) (x : Block) : (s.setBlock b x).tb = s.tb := rfl
@[simp] theorem State.setBlock_ac (s : State) (b : BlockId) (x : Block) : (s.setBlock b x).ac = s.ac := rfl
@[simp] theorem State.setBlock_zs (s : State) (b : BlockId) (x : Block) : (s.setBlock b x).zs = s.zs := rfl
@[simp] theorem State.setBlock_se (s : State) (b : BlockId) (x : Block) : (s.setBlock b x).se = s.se := rfl
@[simp] theorem State.setBlock_scv (s : State) (b : BlockId) (x : Block) : (s.setBlock b x).scv = s.scv := rfl
@[simp] theorem State.setBlock_sq (s : State) (b : BlockId) (x : Block) : (s.setBlock b x).sq = s.sq := rfl
@[simp] theorem State.setBlock_lw (s : State) (b : BlockId) (x : Block) : (s.setBlock b x).lw = s.lw := rfl
@[simp] theorem State.setBlock_cm (s : State) (b : BlockId) (x : Block) : (s.setBlock b x).cm = s.cm := rfl
@[simp] theorem State.setBlock_cu (s : State) (b : BlockId) (x : Block) : (s.setBlock b x).cu = { s.cu with blocks := s.cu.blocks.set b x } := rfl
@[simp] theorem State.setBlock_osc (s : State) (b : BlockId) (x : Block) : (s.setBlock b x).osc = s.osc := rfl
@[simp] theorem State.setBlock_free (s : State) (b : BlockId) (x : Block) : (s.setBlock b x).free = s.free := rfl
@[simp] theorem State.setBlock_pending (s : State) (b : BlockId) (x : Block) : (s.setBlock b x).pending = s.pending := rfl

@[simp] theorem State.bumpFree_lp (s : State) : (s.bumpFree).lp = s.lp := rfl
@[simp] theorem State.bumpFree_tb (s : State) : (s.bumpFree).tb = s.tb := rfl
@[simp] theorem State.bumpFree_ac (s : State) : (s.bumpFree).ac = s.ac := rfl
@[simp] theorem State.bumpFree_zs (s : State) : (s.bumpFree).zs = s.zs := rfl
@[simp] theorem State.bumpFree_se (s : State) : (s.bumpFree).se = s.se := rfl
@[simp] theorem State.bumpFree_scv (s : State) : (s.bumpFree).scv = s.scv := rfl
@[simp] theorem State.bumpFree_sq (s : State) : (s.bumpFree).sq = s.sq := rfl
@[simp] theorem State.bumpFree_lw (s : State) : (s.bumpFree).lw = s.lw := rfl
@[simp] theorem State.bumpFree_cm (s : State) : (s.bumpFree).cm = s.cm := rfl
@[simp] theorem State.bumpFree_cu (s : State) : (s.bumpFree).cu = s.cu := rfl
@[simp] theorem State.bumpFree_osc (s : State) : (s.bumpFree).osc = s.osc := rfl
@[simp] theorem State.bumpFree_free (s : State) : (s.bumpFree).free = s.free + 1 := rfl
@[simp] theorem State.bumpFree_pending (s : State) : (s.bumpFree).pending = s.pending := rfl

@[simp] theorem State.alarm_lp (s : State) : (s.alarm).lp = { s.lp with alarmPending := true } := rfl
@[simp] theorem State.alarm_tb (s : State) : (s.alarm).tb = s.tb := rfl
@[simp] theorem State.alarm_ac (s : State) : (s.alarm).ac = s.ac := rfl
@[simp] theorem State.alarm_zs (s : State) : (s.alarm).zs = s.zs := rfl
@[simp] theorem State.alarm_se (s : State) : (s.alarm).se = s.se := rfl
@[simp] theorem State.alarm_scv (s : State) : (s.alarm).scv = s.scv := rfl
@[simp] theorem State.alarm_sq (s : State) : (s.alarm).sq = s.sq := rfl
@[simp] theorem State.alarm_lw (s : State) : (s.alarm).lw = s.lw := rfl
@[simp] theorem State.alarm_cm (s : State) : (s.alarm).cm = s.cm := rfl
@[simp] theorem State.alarm_cu (s : State) : (s.alarm).cu = s.cu := rfl
@[simp] theorem State.alarm_osc (s : State) : (s.alarm).osc = s.osc := rfl
@[simp] theorem State.alarm_free (s : State) : (s.alarm).free = s.free := rfl
@[simp] theorem State.alarm_pending (s : State) : (s.alarm).pending = s.pending := rfl

/-! ### Reads after writes -/

@[simp] theorem State.zone_setZone (s : State) (z y : ZoneId) (x : Zone) :
    (s.setZone z x).zone y = if y = z then x else s.zone y := by
  simp only [State.zone, State.setZone_zs]
  by_cases h : y = z
  · subst h; simp
  · have : z.val ≠ y.val := fun e => h (Fin.ext e.symm)
    simp [h, this]

@[simp] theorem State.zone_setChan (s : State) (a : ActId) (c : Channel) (y : ZoneId) :
    (s.setChan a c).zone y = s.zone y := rfl
@[simp] theorem State.zone_alarm (s : State) (y : ZoneId) : s.alarm.zone y = s.zone y := rfl
@[simp] theorem State.zone_bumpFree (s : State) (y : ZoneId) : s.bumpFree.zone y = s.zone y := rfl

@[simp] theorem State.chan_setChan (s : State) (a b : ActId) (c : Channel) :
    (s.setChan a c).chan b = if b = a then c else s.chan b := by
  simp only [State.chan, State.setChan_ac]
  by_cases h : b = a
  · subst h; simp
  · have : a.val ≠ b.val := fun e => h (Fin.ext e.symm)
    simp [h, this]

@[simp] theorem State.chan_setZone (s : State) (z : ZoneId) (x : Zone) (a : ActId) :
    (s.setZone z x).chan a = s.chan a := rfl
@[simp] theorem State.chan_alarm (s : State) (a : ActId) : s.alarm.chan a = s.chan a := rfl
@[simp] theorem State.chan_bumpFree (s : State) (a : ActId) : s.bumpFree.chan a = s.chan a := rfl

/-- The i-th entry of a mapped table. -/
theorem tabMap_get {α β : Type} {n : Nat} (f : Fin n → α → β) (v : Vector α n) (i : Fin n) :
    (tabMap f v)[i] = f i v[i] := by
  simp [tabMap]

/-- The same with the index as a number. -/
@[simp] theorem tabMap_getElem {α β : Type} {n : Nat} (f : Fin n → α → β) (v : Vector α n) (i : Fin n) :
    (tabMap f v)[(i : Nat)] = f i v[i] := by
  simp [tabMap]

/-- A table mapped by a function that keeps every entry is the table. -/
theorem tabMap_eq_self {α : Type} {n : Nat} (f : Fin n → α → α) (v : Vector α n)
    (h : ∀ i, f i v[i] = v[i]) : tabMap f v = v := by
  apply Vector.ext
  intro i hi
  have := h ⟨i, hi⟩
  simpa [tabMap] using this

end Sys2Proof.Machine
end

