-- ==== Sys2Proof/Laws/Link.lean ====
section
/-! SUPPORT. What the Link Port's shared operations do: the arbiter, the taking of a request, replies,
and the timers of the part. -/

namespace Sys2Proof.Machine

/-! ### Folds -/

/-- What every step of a fold keeps, the fold keeps. -/
theorem foldl_keeps {α β : Type} (P : α → Prop) (f : α → β → α) (h : ∀ a b, P a → P (f a b))
    (l : List β) : ∀ a, P a → P (l.foldl f a) := by
  induction l with
  | nil => intro a ha; exact ha
  | cons b l ih => intro a ha; exact ih _ (h a b ha)

/-! ### The arbiter -/

/-- What the arbiter may change: the frame being sent, the pending flag, the reply queue from its head,
the announce marks from their head, the reported flags, and the free-value counter. -/
structure ArbiterFrame (s t : State) : Prop where
  tb : t.tb = s.tb
  ac : t.ac = s.ac
  zones : t.zs.zones = s.zs.zones
  overflow : t.zs.overflow = s.zs.overflow
  alarms : t.zs.alarms = s.zs.alarms ∨
    t.zs.alarms = s.zs.alarms.map fun e => { e with reported := true }
  se : t.se = s.se
  scv : t.scv = s.scv
  sq : t.sq = s.sq
  lw : t.lw = s.lw
  cm : t.cm = s.cm
  cu : t.cu = s.cu
  osc : t.osc = s.osc
  pending : t.pending = s.pending
  nodeAddr : t.lp.nodeAddr = s.lp.nodeAddr
  groupAddr : t.lp.groupAddr = s.lp.groupAddr
  line : t.lp.line = s.lp.line
  rx : t.lp.rx = s.lp.rx
  requests : t.lp.requests = s.lp.requests
  replies : t.lp.replies = s.lp.replies ∨ t.lp.replies = s.lp.replies.tail
  reservations : t.lp.reservations = s.lp.reservations
  restart : t.lp.restart = s.lp.restart
  reporting : t.lp.reporting = s.lp.reporting
  counts : t.lp.counts = s.lp.counts

theorem ArbiterFrame.refl (s : State) : ArbiterFrame s s := by
  constructor <;> first | rfl | exact Or.inl rfl

theorem buildStrain_frame (s : State) : ArbiterFrame s s.buildStrain := by
  unfold State.buildStrain
  split
  · exact ArbiterFrame.refl s
  · split
    · constructor <;> first | rfl | exact Or.inl rfl
    · exact ArbiterFrame.refl s

theorem arbitrate_frame (s : State) : ArbiterFrame s (arbitrate s) := by
  unfold arbitrate
  split
  · exact ArbiterFrame.refl s
  split
  · constructor <;> first | rfl | exact Or.inl rfl | exact Or.inr rfl
  split
  · rename_i r rest h
    constructor <;> first | rfl | exact Or.inl rfl | (right; simp [State.buildReply, State.sendFrame, h])
  split
  · split
    · constructor <;> first | rfl | exact Or.inl rfl
    · exact buildStrain_frame s
  · exact buildStrain_frame s

@[simp] theorem arbitrate_tb (s : State) : (arbitrate s).tb = s.tb := (arbitrate_frame s).tb
@[simp] theorem arbitrate_ac (s : State) : (arbitrate s).ac = s.ac := (arbitrate_frame s).ac
@[simp] theorem arbitrate_zones (s : State) : (arbitrate s).zs.zones = s.zs.zones :=
  (arbitrate_frame s).zones
@[simp] theorem arbitrate_overflow (s : State) : (arbitrate s).zs.overflow = s.zs.overflow :=
  (arbitrate_frame s).overflow
@[simp] theorem arbitrate_se (s : State) : (arbitrate s).se = s.se := (arbitrate_frame s).se
@[simp] theorem arbitrate_scv (s : State) : (arbitrate s).scv = s.scv := (arbitrate_frame s).scv
@[simp] theorem arbitrate_sq (s : State) : (arbitrate s).sq = s.sq := (arbitrate_frame s).sq
@[simp] theorem arbitrate_lw (s : State) : (arbitrate s).lw = s.lw := (arbitrate_frame s).lw
@[simp] theorem arbitrate_cm (s : State) : (arbitrate s).cm = s.cm := (arbitrate_frame s).cm
@[simp] theorem arbitrate_cu (s : State) : (arbitrate s).cu = s.cu := (arbitrate_frame s).cu
@[simp] theorem arbitrate_osc (s : State) : (arbitrate s).osc = s.osc := (arbitrate_frame s).osc
@[simp] theorem arbitrate_pending (s : State) : (arbitrate s).pending = s.pending :=
  (arbitrate_frame s).pending
@[simp] theorem arbitrate_requests (s : State) : (arbitrate s).lp.requests = s.lp.requests :=
  (arbitrate_frame s).requests
@[simp] theorem arbitrate_reservations (s : State) :
    (arbitrate s).lp.reservations = s.lp.reservations := (arbitrate_frame s).reservations
@[simp] theorem arbitrate_restart (s : State) : (arbitrate s).lp.restart = s.lp.restart :=
  (arbitrate_frame s).restart
@[simp] theorem arbitrate_reporting (s : State) : (arbitrate s).lp.reporting = s.lp.reporting :=
  (arbitrate_frame s).reporting
@[simp] theorem arbitrate_counts (s : State) : (arbitrate s).lp.counts = s.lp.counts :=
  (arbitrate_frame s).counts
@[simp] theorem arbitrate_groupAddr (s : State) : (arbitrate s).lp.groupAddr = s.lp.groupAddr :=
  (arbitrate_frame s).groupAddr
@[simp] theorem arbitrate_nodeAddr (s : State) : (arbitrate s).lp.nodeAddr = s.lp.nodeAddr :=
  (arbitrate_frame s).nodeAddr
@[simp] theorem arbitrate_zone (s : State) (z : ZoneId) : (arbitrate s).zone z = s.zone z := by
  simp [State.zone]
@[simp] theorem arbitrate_chan (s : State) (a : ActId) : (arbitrate s).chan a = s.chan a := by
  simp [State.chan]

theorem arbitrate_replies_le (s : State) :
    (arbitrate s).lp.replies.length ≤ s.lp.replies.length := by
  rcases (arbitrate_frame s).replies with h | h <;> rw [h]
  simp

/-! ### Taking a request -/

/-- What a reply adds: an entry of the reply queue, and a count of the free values. -/
structure ReplyFrame (s t : State) : Prop where
  tb : t.tb = s.tb
  ac : t.ac = s.ac
  zs : t.zs = s.zs
  se : t.se = s.se
  scv : t.scv = s.scv
  sq : t.sq = s.sq
  lw : t.lw = s.lw
  cm : t.cm = s.cm
  cu : t.cu = s.cu
  osc : t.osc = s.osc
  pending : t.pending = s.pending
  lp : ∃ l, t.lp = { s.lp with replies := l } ∧ (l = s.lp.replies ∨ ∃ x, l = s.lp.replies ++ [x])

theorem pushReply_frame (s : State) (tag kind : Byte) (code : Nat) (w : Wire) (restart : Bool) :
    ReplyFrame s (s.pushReply tag kind code w restart) := by
  constructor <;> first | rfl | exact ⟨_, rfl, Or.inr ⟨_, rfl⟩⟩

theorem ReplyFrame.refl (s : State) : ReplyFrame s s := by
  constructor <;> first | rfl | exact ⟨_, rfl, Or.inl rfl⟩

/-- The end of an accepted request changes the part only by its reply. -/
theorem answer_accepted_frame (s : State) (r : Request) (t : State) (w : Wire) :
    ReplyFrame t (s.answer r (.accepted t w)) := by
  simp only [State.answer]
  split
  · exact ReplyFrame.refl t
  · exact pushReply_frame ..

/-- A refused request changes nothing but by its reply (01 R10). -/
theorem answer_refused_frame (s : State) (r : Request) (why : Reason) (w : Wire) :
    ReplyFrame s (s.answer r (.refused why w)) := by
  simp only [State.answer]
  split
  · exact ReplyFrame.refl s
  · exact pushReply_frame ..

/-- A request that may be taken is taken. -/
theorem takeIf_ready (s : State) (p : Byte → Bool) (act : Request → State → Answer) (r : Request)
    (rest : List Request) (h : s.lp.requests = r :: rest) (hk : p r.kind = true)
    (hm : s.mayTake r = true) : s.takeIf p act = s.dequeued.answer r (act r s.dequeued) := by
  simp [State.takeIf, State.dequeued, h, hk, hm]

/-- Otherwise nothing is taken, or the head request is taken and answered. -/
theorem takeIf_cases (s : State) (p : Byte → Bool) (act : Request → State → Answer) :
    s.takeIf p act = s ∨ ∃ r rest, s.lp.requests = r :: rest ∧ p r.kind = true ∧ s.mayTake r = true ∧
      s.takeIf p act = s.dequeued.answer r (act r s.dequeued) := by
  cases h : s.lp.requests with
  | nil => left; simp [State.takeIf, h]
  | cons r rest =>
    by_cases hc : (p r.kind && s.mayTake r) = true
    · right
      simp only [Bool.and_eq_true] at hc
      exact ⟨r, rest, rfl, hc.1, hc.2, takeIf_ready s p act r rest h hc.1 hc.2⟩
    · left; simp [State.takeIf, h, hc]

/-- The taking of a request of one kind. -/
theorem takes_ready (kind : Byte) (act : Request → State → Answer) (s : State) (r : Request)
    (rest : List Request) (h : s.lp.requests = r :: rest) (hk : r.kind = kind)
    (hm : s.mayTake r = true) :
    takes kind act s = .next (arbitrate (s.dequeued.answer r (act r s.dequeued))) := by
  unfold takes
  rw [takeIf_ready s _ act r rest h (by simp [hk]) hm]

/-! ### The downlink's space -/

/-- What begins in time, or outside a frame, finds the link as it stands (01 R4). -/
theorem timed_inTime (l : LinkPort) (now len : Nat)
    (h : l.rx.mode = .hunt ∨ l.line ≠ .mark ∨ now ≤ l.lastByteAt + 20 + len) : l.timed now len = l := by
  unfold LinkPort.timed
  rw [if_neg]
  simp only [Config.gapTime, Bool.and_eq_true, bne_iff_ne, ne_eq, decide_eq_true_eq]
  rintro ⟨⟨hm, hl⟩, hn⟩
  rcases h with h | h | h
  · exact hm h
  · exact h hl
  · have := of_decide_eq_true hn; omega

/-- What begins late inside a frame finds the frame abandoned and the gap counted (01 R4). -/
theorem timed_late (l : LinkPort) (now len : Nat) (hm : l.rx.mode ≠ .hunt) (hl : l.line = .mark)
    (h : l.lastByteAt + 20 + len < now) : l.timed now len = l.gapOut := by
  simp [LinkPort.timed, hm, hl, h]

/-! ### Timers -/

/-- `allTimers` lists every timer. -/
theorem mem_allTimers (t : Timer) : t ∈ allTimers := by
  cases t with
  | bank b => revert b; decide
  | settling b => revert b; decide
  | _ => decide

/-- Time may reach the moment `m` when no timer's limit stands before it (log 4). -/
theorem reachable_iff (s : State) (m : Nat) :
    s.reachable m = true ↔ ∀ t d, s.limit t = some d → m ≤ d := by
  simp only [State.reachable, List.all_eq_true, Option.all_eq_true, decide_eq_true_eq]
  exact ⟨fun h t d => h t (mem_allTimers t) d, fun h t _ d => h t d⟩

/-- Only the gap timer lets time pass its due moment. -/
theorem limit_of_ne_gap (s : State) (t : Timer) (h : t ≠ .gap) : s.limit t = s.deadline t := by
  cases t <;> first | rfl | exact absurd rfl h

/-- A timer that runs out moves the oscillator to its moment and changes nothing else. -/
theorem expire_eq (s t : State) (x : Timer) (h : s.expire x = some t) :
    ∃ d, s.deadline x = some d ∧ s.reachable d = true ∧ t = { s with osc := max s.osc d } := by
  unfold State.expire at h
  split at h
  · simp at h
  · rename_i d hd
    split at h
    · rename_i hr
      exact ⟨d, hd, hr, (Option.some.inj h).symm⟩
    · simp at h

/-- A timer runs out at its moment unless another keeps time from it. -/
theorem expire_of_reachable (s : State) (x : Timer) (d : Nat) (hd : s.deadline x = some d)
    (hr : ∀ t m, s.limit t = some m → d ≤ m) : s.expire x = some { s with osc := max s.osc d } := by
  simp [State.expire, hd, (reachable_iff s d).mpr hr]

/-- The timers do not look at the commands that wait. -/
@[simp] theorem deadline_pending (s : State) (q : List Instr) (t : Timer) :
    ({ s with pending := q } : State).deadline t = s.deadline t := by
  cases t <;> rfl

@[simp] theorem limit_pending (s : State) (q : List Instr) (t : Timer) :
    ({ s with pending := q } : State).limit t = s.limit t := by
  cases t <;> rfl

theorem expire_pending (s : State) (q : List Instr) (t : Timer) :
    ({ s with pending := q } : State).expire t = (s.expire t).map fun u => { u with pending := q } := by
  have hr : ({ s with pending := q } : State).reachable = s.reachable := by
    funext m
    simp only [State.reachable, limit_pending]
  unfold State.expire
  rw [deadline_pending, hr]
  split
  · rfl
  · split <;> rfl

theorem atExpiry_some (s t : State) (x : Timer) (f : State → State) (h : s.expire x = some t) :
    s.atExpiry x f = f t := by
  simp [State.atExpiry, h]

theorem atExpiry_none (s : State) (x : Timer) (f : State → State) (h : s.expire x = none) :
    s.atExpiry x f = s := by
  simp [State.atExpiry, h]

/-- What the running out of a timer keeps, if its work keeps it and the passing of time does. -/
theorem atExpiry_keeps (P : State → Prop) (s : State) (x : Timer) (f : State → State)
    (hs : P s) (ho : ∀ m, P { s with osc := m }) (hf : ∀ t, P t → P (f t)) : P (s.atExpiry x f) := by
  cases h : s.expire x with
  | none => rw [atExpiry_none s x f h]; exact hs
  | some t =>
    obtain ⟨d, -, -, ht⟩ := expire_eq s t x h
    rw [atExpiry_some s t x f h]
    exact hf t (ht ▸ ho _)

end Sys2Proof.Machine
end

