-- ==== Sys2Proof/Laws/Alarms.lean ====
section
/-! SUPPORT. What the Zone Supervisor's shared operations change: entry into HOLD, UNLOAD and SAFE, and
a raise. -/

namespace Sys2Proof.Machine

/-! ### What may change -/

/-- A channel as an entry into HOLD may leave it: only its hold amplitude and its ramp-out count differ. -/
def Channel.SameButHold (c d : Channel) : Prop := d = { c with aHold := d.aHold, j := d.j }

theorem Channel.SameButHold.refl (c : Channel) : c.SameButHold c := rfl

theorem Channel.SameButHold.trans {c d e : Channel} (h : c.SameButHold d) (k : d.SameButHold e) :
    c.SameButHold e := by
  unfold Channel.SameButHold at *
  rw [k, h]

theorem Channel.beginHold_same (c : Channel) : c.SameButHold c.beginHold := by
  unfold Channel.beginHold Channel.SameButHold
  split <;> rfl

/-- The configuration and the counts of a zone, which its supervision between strobes keeps. -/
structure Zone.SameConfig (x y : Zone) : Prop where
  members : y.members = x.members
  rate : y.rate = x.rate
  inc : y.inc = x.inc
  nin : y.nin = x.nin
  nout : y.nout = x.nout
  unloadRate : y.unloadRate = x.unloadRate
  window : y.window = x.window
  capture : y.capture = x.capture
  everyNth : y.everyNth = x.everyNth
  counter : y.counter = x.counter
  cycleCount : y.cycleCount = x.cycleCount
  origin : y.origin = x.origin
  latestN : y.latestN = x.latestN
  guardRun : y.guardRun = x.guardRun
  guardSum : y.guardSum = x.guardSum

theorem Zone.SameConfig.refl (x : Zone) : x.SameConfig x := by constructor <;> rfl

theorem Zone.SameConfig.trans {x y z : Zone} (h : x.SameConfig y) (k : y.SameConfig z) :
    x.SameConfig z := by
  constructor
  · rw [k.members, h.members]
  · rw [k.rate, h.rate]
  · rw [k.inc, h.inc]
  · rw [k.nin, h.nin]
  · rw [k.nout, h.nout]
  · rw [k.unloadRate, h.unloadRate]
  · rw [k.window, h.window]
  · rw [k.capture, h.capture]
  · rw [k.everyNth, h.everyNth]
  · rw [k.counter, h.counter]
  · rw [k.cycleCount, h.cycleCount]
  · rw [k.origin, h.origin]
  · rw [k.latestN, h.latestN]
  · rw [k.guardRun, h.guardRun]
  · rw [k.guardSum, h.guardSum]

/-- Every reason of `q` is one of `r`. -/
structure HoldReasons.Within (q r : HoldReasons) : Prop where
  request : q.request = true → r.request = true
  segment : q.segment = true → r.segment = true
  alarm : q.alarm = true → r.alarm = true
  sync : q.sync = true → r.sync = true

theorem HoldReasons.within_add (q : HoldReasons) (r : HoldReason) : q.Within (q.add r) := by
  cases r <;> constructor <;> intro h <;> simp [HoldReasons.add, h]

/-- How causes of HOLD and UNLOAD and a zone's own moves at a strobe may move it (06 R111, R112, R114, R115):
never back to RUN; in HOLD no reason is lost, and HELD stays; a stopped clock stays stopped; and after the
first update in UNLOAD none is the first again. -/
structure Zone.Later (x y : Zone) : Prop where
  idle : x.state = .idle → y.state = .idle
  safe : x.state = .safe → y.state = .safe
  ready : x.state = .ready → y.state = .ready ∨ y.state = .unload ∨ y.state = .safe
  run : x.state = .run → y.state = .run ∨ y.state = .hold ∨ y.state = .unload ∨ y.state = .safe
  hold : x.state = .hold → y.state = .hold ∨ y.state = .unload ∨ y.state = .safe
  unload : x.state = .unload → y.state = .unload ∨ y.state = .safe
  held : x.state = .hold → y.state = .hold → x.sub = .held → y.sub = .held
  stopped : x.clockRunning = false → y.clockRunning = false
  reasons : x.state = .hold → y.state = .hold → x.reasons.Within y.reasons
  unloadFirst : x.state = .unload ∨ x.state = .safe → x.unloadFirst = false → y.unloadFirst = false

theorem Zone.Later.refl (x : Zone) : x.Later x := by
  constructor <;> intros <;> first | (constructor <;> exact id) | simp_all

theorem Zone.Later.trans {x y z : Zone} (h : x.Later y) (k : y.Later z) : x.Later z := by
  have back : x.state = .hold → z.state = .hold → y.state = .hold := by
    intro e f
    rcases h.hold e with g | g | g
    · exact g
    · rcases k.unload g with l | l <;> simp [l] at f
    · have l := k.safe g; simp [l] at f
  constructor
  · exact fun e => k.idle (h.idle e)
  · exact fun e => k.safe (h.safe e)
  · intro e
    rcases h.ready e with g | g | g
    · exact k.ready g
    · exact Or.inr (k.unload g)
    · exact Or.inr (Or.inr (k.safe g))
  · intro e
    rcases h.run e with g | g | g | g
    · exact k.run g
    · exact Or.inr (k.hold g)
    · exact Or.inr (Or.inr (k.unload g))
    · exact Or.inr (Or.inr (Or.inr (k.safe g)))
  · intro e
    rcases h.hold e with g | g | g
    · exact k.hold g
    · exact Or.inr (k.unload g)
    · exact Or.inr (Or.inr (k.safe g))
  · intro e
    rcases h.unload e with g | g
    · exact k.unload g
    · exact Or.inr (k.safe g)
  · exact fun e f g => k.held (back e f) f (h.held e (back e f) g)
  · exact fun e => k.stopped (h.stopped e)
  · intro e f
    have a := h.reasons e (back e f)
    have b := k.reasons (back e f) f
    exact ⟨fun g => b.request (a.request g), fun g => b.segment (a.segment g),
      fun g => b.alarm (a.alarm g), fun g => b.sync (a.sync g)⟩
  · intro e f
    refine k.unloadFirst ?_ (h.unloadFirst e f)
    rcases e with e | e
    · exact h.unload e
    · exact Or.inr (h.safe e)

/-- A zone whose state, sub-state, clock, reasons and first-update mark stay. -/
theorem Zone.Later.of_same {x y : Zone} (state : y.state = x.state) (sub : y.sub = x.sub)
    (clock : y.clockRunning = x.clockRunning) (reasons : y.reasons = x.reasons)
    (first : x.unloadFirst = false → y.unloadFirst = false) : x.Later y := by
  have w : x.reasons.Within y.reasons := by rw [reasons]; exact ⟨id, id, id, id⟩
  constructor <;> intros <;> first | exact w | simp_all

/-- What the blocks' work other than the channels' updates may change: nothing of the Time Base, of the
Crack Monitor, of the oscillator, of the command queue; of the link neither the receiver, the request
queue, the settings, the counts nor the frame being sent; of the channels only what an entry into
HOLD sets; of the zones no configuration, and their state only onward. -/
structure Inner (s t : State) : Prop where
  tb : t.tb = s.tb
  cm : t.cm = s.cm
  osc : t.osc = s.osc
  pending : t.pending = s.pending
  lp : t.lp = { s.lp with
    alarmPending := t.lp.alarmPending, replies := t.lp.replies
    reservations := t.lp.reservations, announce := t.lp.announce }
  ac : ∀ a, (s.chan a).SameButHold (t.chan a)
  zones : ∀ z, (s.zone z).SameConfig (t.zone z)
  later : ∀ z, (s.zone z).Later (t.zone z)

theorem Inner.refl (s : State) : Inner s s := by
  constructor <;> first | rfl | intro _; rfl | skip
  all_goals intro z
  · exact Zone.SameConfig.refl _
  · exact Zone.Later.refl _

theorem Inner.trans {s t u : State} (h : Inner s t) (k : Inner t u) : Inner s u := by
  constructor
  · rw [k.tb, h.tb]
  · rw [k.cm, h.cm]
  · rw [k.osc, h.osc]
  · rw [k.pending, h.pending]
  · rw [k.lp, h.lp]
  · intro a; exact (h.ac a).trans (k.ac a)
  · intro z; exact (h.zones z).trans (k.zones z)
  · intro z; exact (h.later z).trans (k.later z)

/-- `Inner.trans` with its second part first. -/
theorem Inner.after {s t u : State} (k : Inner t u) (h : Inner s t) : Inner s u := h.trans k

/-- A fold of steps each of which is inner work is inner work. -/
theorem foldl_inner {β : Type} (f : State → β → State) (h : ∀ s b, Inner s (f s b)) (l : List β)
    (s : State) : Inner s (l.foldl f s) := by
  refine foldl_keeps (fun t => Inner s t) f ?_ l s (Inner.refl s)
  intro t b k
  exact k.trans (h t b)

/-- One zone record written with its configuration kept and its state moved onward. -/
theorem setZone_inner (s : State) (z : ZoneId) (x : Zone) (h : (s.zone z).SameConfig x)
    (k : (s.zone z).Later x) : Inner s (s.setZone z x) := by
  constructor <;> first | rfl | intro _; rfl | skip
  all_goals
    intro y
    rw [State.zone_setZone]
    split
  · rename_i e; rw [e]; exact h
  · exact Zone.SameConfig.refl _
  · rename_i e; rw [e]; exact k
  · exact Zone.Later.refl _

theorem alarm_inner (s : State) : Inner s s.alarm := by
  constructor <;> first | rfl | intro _; rfl | skip
  all_goals intro z
  · exact Zone.SameConfig.refl _
  · exact Zone.Later.refl _

theorem bumpFree_inner (s : State) : Inner s s.bumpFree := by
  constructor <;> first | rfl | intro _; rfl | skip
  all_goals intro z
  · exact Zone.SameConfig.refl _
  · exact Zone.Later.refl _

/-- Work that changes none of the parts an inner work must keep. -/
theorem inner_of_parts (s t : State) (tb : t.tb = s.tb) (cm : t.cm = s.cm) (osc : t.osc = s.osc)
    (pending : t.pending = s.pending) (lp : t.lp = s.lp) (ac : t.ac = s.ac)
    (zones : t.zs.zones = s.zs.zones) : Inner s t := by
  constructor
  · exact tb
  · exact cm
  · exact osc
  · exact pending
  · rw [lp]
  · intro a; simp [State.chan, ac, Channel.SameButHold]
  · intro z; simp only [State.zone, zones]; exact Zone.SameConfig.refl _
  · intro z; simp only [State.zone, zones]; exact Zone.Later.refl _

/-! ### The operations -/

theorem addReason_later (x : Zone) (r : HoldReason) : x.Later { x with reasons := x.reasons.add r } := by
  constructor <;> intro h
  all_goals first
    | exact h
    | exact Or.inl h
    | (intro k; first | exact id | exact k | exact HoldReasons.within_add _ _)

theorem addReason_inner (s : State) (z : ZoneId) (r : HoldReason) : Inner s (s.addReason z r) := by
  unfold State.addReason
  dsimp only
  split
  · exact Inner.refl s
  · refine (setZone_inner s z _ ?_ (addReason_later _ r)).trans (alarm_inner _)
    constructor <;> rfl

@[simp] theorem mapMembers_ac_get (s : State) (z : ZoneId) (f : Channel → Channel) (a : ActId) :
    (s.mapMembers z f).chan a = if (s.zone z).has a then f (s.chan a) else s.chan a := by
  simp [State.mapMembers, State.chan]

theorem enterHold_config (x : Zone) (b : Bool) (r : HoldReason) : x.SameConfig (x.enterHold b r) := by
  constructor <;> rfl

theorem enterUnload_config (x : Zone) (b : Bool) : x.SameConfig (x.enterUnload b) := by
  constructor <;> rfl

theorem beginHold_inner (s : State) (z : ZoneId) : Inner s (s.mapMembers z Channel.beginHold) := by
  constructor <;> first | rfl | skip
  · intro a
    rw [mapMembers_ac_get]
    split
    · exact Channel.beginHold_same _
    · exact Channel.SameButHold.refl _
  · intro y; exact Zone.SameConfig.refl _
  · intro y; exact Zone.Later.refl _

theorem enterHold_later (x : Zone) (b : Bool) (r : HoldReason) (h : x.state = .run) :
    x.Later (x.enterHold b r) := by
  constructor <;> simp_all [Zone.enterHold]

theorem enterUnload_later (x : Zone) (b : Bool) (h : x.state = .ready ∨ x.state = .run ∨ x.state = .hold) :
    x.Later (x.enterUnload b) := by
  rcases h with h | h | h <;> constructor <;> simp_all [Zone.enterUnload]

theorem enterSafe_later (x : Zone) (b : Bool) (h : x.state = .unload)
    (hb : x.unloadFirst = false → b = false) : x.Later { x with state := .safe, unloadFirst := b } := by
  constructor <;> simp_all

theorem holdZone_inner (s : State) (z : ZoneId) (r : HoldReason) : Inner s (s.holdZone z r) := by
  unfold State.holdZone
  dsimp only
  split
  · rename_i h
    exact ((setZone_inner s z _ (enterHold_config _ _ _) (enterHold_later _ _ _ h)).trans
      (beginHold_inner _ z)).trans (alarm_inner _)
  · exact addReason_inner s z r
  all_goals exact Inner.refl s

theorem safeIfAllFaulted_inner (s : State) (z : ZoneId) : Inner s (s.safeIfAllFaulted z) := by
  unfold State.safeIfAllFaulted
  split
  · rename_i h
    simp only [Bool.and_eq_true, decide_eq_true_eq] at h
    refine (setZone_inner s z _ ?_ (enterSafe_later _ _ h.1 id)).trans (alarm_inner _)
    constructor <;> rfl
  · exact Inner.refl s

theorem unloadZone_inner (s : State) (z : ZoneId) (b : Bool) : Inner s (s.unloadZone z b) := by
  unfold State.unloadZone
  split
  all_goals first
    | exact Inner.refl s
    | (rename_i h
       exact ((setZone_inner s z _ (enterUnload_config _ b) (enterUnload_later _ b (by simp [h]))).trans
         (alarm_inner _)).trans (safeIfAllFaulted_inner _ z))

theorem severityAction_inner (s : State) (z : ZoneId) (v : Severity) : Inner s (s.severityAction z v) := by
  cases v
  · exact Inner.refl s
  · exact holdZone_inner s z .alarm
  · exact unloadZone_inner s z true

theorem trigger_inner (s : State) (x : Trigger) : Inner s (s.trigger x) := by
  unfold State.trigger
  split
  · dsimp only; split <;> exact inner_of_parts _ _ rfl rfl rfl rfl rfl rfl rfl
  · split
    · exact inner_of_parts _ _ rfl rfl rfl rfl rfl rfl rfl
    · exact Inner.refl s

theorem alarmTrigger_inner (s : State) (time : Nat) (x : AlarmTrigger) :
    Inner s (s.alarmTrigger time x) := by
  unfold State.alarmTrigger
  split
  · exact trigger_inner s _
  · exact Inner.refl s

theorem take_zones (q : ZoneSupervisor) (r : Raise) (time : Nat) : (q.take r time).1.zones = q.zones := by
  unfold ZoneSupervisor.take
  split
  · rfl
  split
  · rfl
  split <;> rfl

theorem enlist_inner (s : State) (r : Raise) : Inner s (s.enlist r) := by
  have h : Inner s { s with zs := (s.zs.take r s.hall).1 } :=
    inner_of_parts _ _ rfl rfl rfl rfl rfl rfl (take_zones ..)
  unfold State.enlist
  dsimp only
  split
  · exact h
  · exact h.trans (alarm_inner _)

/-- A raise is inner work (06 R118 to R121). -/
theorem raise_inner (s : State) (r : Raise) : Inner s (s.raise r) :=
  ((enlist_inner s r).trans (severityAction_inner _ _ _)).trans (alarmTrigger_inner _ _ _)

theorem holdZone_zone_ne (s : State) (y z : ZoneId) (r : HoldReason) (h : y ≠ z) :
    (s.holdZone z r).zone y = s.zone y := by
  unfold State.holdZone State.addReason State.mapMembers
  dsimp only
  split
  · show ((s.setZone z _).zone y) = _
    rw [State.zone_setZone, if_neg h]
  · split
    · rfl
    · rw [State.zone_alarm, State.zone_setZone, if_neg h]
  all_goals rfl

theorem unloadZone_zone_ne (s : State) (y z : ZoneId) (b : Bool) (h : y ≠ z) :
    (s.unloadZone z b).zone y = s.zone y := by
  have safe : ∀ t : State, (t.safeIfAllFaulted z).zone y = t.zone y := by
    intro t
    unfold State.safeIfAllFaulted
    split
    · rw [State.zone_alarm, State.zone_setZone, if_neg h]
    · rfl
  unfold State.unloadZone
  split <;> first | rfl | rw [safe, State.zone_alarm, State.zone_setZone, if_neg h]

theorem enlist_zone (s : State) (r : Raise) (z : ZoneId) : (s.enlist r).zone z = s.zone z := by
  unfold State.enlist
  dsimp only
  split
  · simp [State.zone, take_zones]
  · rw [State.zone_alarm]; simp [State.zone, take_zones]

theorem alarmTrigger_zs (s : State) (time : Nat) (x : AlarmTrigger) : (s.alarmTrigger time x).zs = s.zs := by
  unfold State.alarmTrigger State.trigger
  split
  · split
    · dsimp only; split <;> rfl
    · split <;> rfl
  · rfl

/-- A raise acts on no other zone, and an INFO raise on none (06 R120). -/
theorem raise_zone_ne (s : State) (r : Raise) (z : ZoneId) (h : z ≠ r.zone ∨ r.severity = .info) :
    (s.raise r).zone z = s.zone z := by
  have e : (s.raise r).zone z = ((s.enlist r).severityAction r.zone r.severity).zone z := by
    unfold State.raise State.zone
    rw [alarmTrigger_zs]
  rw [e, ← enlist_zone s r z]
  rcases h with h | h
  · cases r.severity
    · rfl
    · exact holdZone_zone_ne _ _ _ _ h
    · exact unloadZone_zone_ne _ _ _ _ h
  · rw [h]; rfl

theorem raiseAll_inner (s : State) (l : List Raise) : Inner s (s.raiseAll l) :=
  (bumpFree_inner s).trans (foldl_inner _ raise_inner _ _)

/-! ### The scan blocks, which a raise and a zone change leave alone -/

/-- Work that leaves the Scan Engine, the Strain Converter, the Strain Queue, the Limit Watch and the
link's reply queue alone. -/
structure ScanFrame (s t : State) : Prop where
  se : t.se = s.se
  scv : t.scv = s.scv
  sq : t.sq = s.sq
  lw : t.lw = s.lw
  replies : t.lp.replies = s.lp.replies
  reservations : t.lp.reservations = s.lp.reservations

theorem ScanFrame.refl (s : State) : ScanFrame s s := by constructor <;> rfl

theorem ScanFrame.trans {s t u : State} (h : ScanFrame s t) (k : ScanFrame t u) : ScanFrame s u := by
  constructor
  · rw [k.se, h.se]
  · rw [k.scv, h.scv]
  · rw [k.sq, h.sq]
  · rw [k.lw, h.lw]
  · rw [k.replies, h.replies]
  · rw [k.reservations, h.reservations]

theorem holdZone_scan (s : State) (z : ZoneId) (r : HoldReason) : ScanFrame s (s.holdZone z r) := by
  unfold State.holdZone State.addReason
  dsimp only
  split
  · constructor <;> rfl
  · split <;> constructor <;> rfl
  all_goals exact ScanFrame.refl s

theorem safeIfAllFaulted_scan (s : State) (z : ZoneId) : ScanFrame s (s.safeIfAllFaulted z) := by
  unfold State.safeIfAllFaulted
  split <;> constructor <;> rfl

theorem unloadZone_scan (s : State) (z : ZoneId) (b : Bool) : ScanFrame s (s.unloadZone z b) := by
  unfold State.unloadZone
  split
  all_goals first
    | exact ScanFrame.refl s
    | (refine ScanFrame.trans ?_ (safeIfAllFaulted_scan _ z); constructor <;> rfl)

theorem alarmTrigger_scan (s : State) (time : Nat) (x : AlarmTrigger) :
    ScanFrame s (s.alarmTrigger time x) := by
  unfold State.alarmTrigger State.trigger
  split
  · split
    · dsimp only; split <;> constructor <;> rfl
    · split <;> constructor <;> rfl
  · exact ScanFrame.refl s

theorem severityAction_scan (s : State) (z : ZoneId) (v : Severity) :
    ScanFrame s (s.severityAction z v) := by
  cases v
  · exact ScanFrame.refl s
  · exact holdZone_scan s z .alarm
  · exact unloadZone_scan s z true

theorem raise_scan (s : State) (r : Raise) : ScanFrame s (s.raise r) := by
  refine ScanFrame.trans (ScanFrame.trans ?_ (severityAction_scan _ _ _)) (alarmTrigger_scan _ _ _)
  unfold State.enlist
  dsimp only
  split <;> constructor <;> rfl

theorem raiseAll_scan (s : State) (l : List Raise) : ScanFrame s (s.raiseAll l) := by
  have hb : ScanFrame s s.bumpFree := by constructor <;> rfl
  refine hb.trans (foldl_keeps (fun t => ScanFrame s.bumpFree t) _ ?_ _ _ (ScanFrame.refl _))
  intro t b k
  exact k.trans (raise_scan t b)

end Sys2Proof.Machine
end

