-- ==== Sys2Proof/Laws/Channel.lean ====
section
/-! SUPPORT. What a channel's operations change: the drop of its segment, its program, its update. -/

namespace Sys2Proof.Machine

/-- The drop of the current segment in one form, whether there is one or not (03 R52). -/
theorem Channel.drop_eq (c : Channel) : c.drop = { c with
    current := none
    dropped := if c.current.isSome then min (c.dropped + 1) 4294967295 else c.dropped
    afterCycle := c.afterCycle && !c.current.isSome } := by
  unfold Channel.drop
  by_cases h : c.current.isSome = true
  · simp [h, bump]
  · have e : c.current = none := by simpa using h
    obtain ⟨⟩ := c
    simp at e
    subst e
    simp

/-- `d` differs from `c` in the program's fields and the unload remainder alone. -/
def Channel.SameButProgram (c d : Channel) : Prop :=
  d = { c with
    current := d.current, queued := d.queued, programValue := d.programValue, k := d.k, j := d.j
    aHold := d.aHold, aEff := d.aEff, afterCycle := d.afterCycle, inUnderrun := d.inUnderrun
    completed := d.completed, lastTag := d.lastTag, underruns := d.underruns, dropped := d.dropped
    underrunFlag := d.underrunFlag, unloadRem := d.unloadRem }

theorem Channel.SameButProgram.refl (c : Channel) : c.SameButProgram c := rfl

theorem Channel.SameButProgram.trans {c d e : Channel} (h : c.SameButProgram d) (k : d.SameButProgram e) :
    c.SameButProgram e := by
  unfold Channel.SameButProgram at *
  rw [k, h]

theorem Channel.advance_program (c : Channel) (v : ZoneView) (x : Current) :
    c.SameButProgram (c.advance v x).chan := by
  cases x with
  | ramp g r => simp only [Channel.advance, Channel.advanceRamp]; split <;> rfl
  | dwell g l => simp only [Channel.advance, Channel.advanceDwell]; split <;> rfl
  | cycle g p =>
    cases p with
    | waiting => simp only [Channel.advance, Channel.advanceCycle]; split <;> rfl
    | cycling n =>
      simp only [Channel.advance, Channel.advanceCycle]
      split
      · split <;> rfl
      · rfl

theorem Channel.take_program (c : Channel) (v : ZoneView) (b : Bool) (g : Segment) :
    c.SameButProgram (c.take v b g).chan := by
  cases g with
  | ramp g => exact c.advance_program v (.ramp g 0)
  | dwell g => exact c.advance_program v (.dwell g (2 * g.duration))
  | cycle g =>
    simp only [Channel.take]
    split <;> rfl

theorem Channel.consume_program (c : Channel) (v : ZoneView) : c.SameButProgram (c.consume v).chan := by
  have h : c.SameButProgram { c with afterCycle := false } := rfl
  unfold Channel.consume
  dsimp only
  split
  · exact h.trans (Channel.advance_program _ v _)
  · split
    · rename_i q rest _
      have k : c.SameButProgram { c with afterCycle := false, queued := rest, inUnderrun := false } := rfl
      exact k.trans (Channel.take_program _ v _ q)
    · refine h.trans ?_
      unfold Channel.underrun
      split <;> rfl

theorem Channel.enterRun_program (c : Channel) (v : ZoneView) : c.SameButProgram (c.enterRun v) := by
  unfold Channel.enterRun
  split
  · rfl
  split
  · dsimp only; split <;> rfl
  · rfl

/-- Stage 2 changes the program's fields and the unload remainder alone (04 R57). -/
theorem Channel.profile_program (c : Channel) (view : Option ZoneView) :
    c.SameButProgram (c.profile view).chan := by
  cases view with
  | none => rfl
  | some v =>
    cases h : v.state <;> simp only [Channel.profile, h]
    · rfl
    · rfl
    · exact (c.enterRun_program v).trans (Channel.consume_program _ v)
    · unfold Channel.holdProfile; dsimp only; split <;> rfl
    · simp only [Channel.unloadProfile, Channel.drop_eq]; rfl
    · rfl

end Sys2Proof.Machine
end

