-- ==== Sys2Proof/Laws/Scan.lean ====
section
/-! SUPPORT. What the scan blocks' work, the capture frame and a strobe change. -/

namespace Sys2Proof.Machine

/-! ### Scans -/

/-- Work on the link's reply queue and reservations alone is inner work. -/
theorem deferredReply_inner (s : State) (tag : Option Byte) (kind : Byte) (w : Wire) :
    Inner s (s.deferredReply tag kind w) := by
  unfold State.deferredReply State.pushReply
  split
  · exact Inner.refl s
  · constructor <;> first | rfl | intro _; rfl | skip
    all_goals intro z
    · exact Zone.SameConfig.refl _
    · exact Zone.Later.refl _

theorem convertScan_inner (s : State) (x : Scan) : Inner s (s.convertScan x) := by
  unfold State.convertScan
  dsimp only
  split
  · exact inner_of_parts _ _ rfl rfl rfl rfl rfl rfl rfl
  · exact (raiseAll_inner _ _).after (inner_of_parts _ _ rfl rfl rfl rfl rfl rfl rfl)

theorem zeroScan_inner (s : State) (x : Scan) : Inner s (s.zeroScan x) := by
  unfold State.zeroScan
  dsimp only
  split
  · exact (deferredReply_inner _ _ _ _).after (inner_of_parts _ _ rfl rfl rfl rfl rfl rfl rfl)
  · exact inner_of_parts _ _ rfl rfl rfl rfl rfl rfl rfl

theorem finishScan_inner (s : State) (x : Scan) : Inner s (s.finishScan x) := by
  unfold State.finishScan
  dsimp only
  split
  · exact (zeroScan_inner _ _).after (inner_of_parts _ _ rfl rfl rfl rfl rfl rfl rfl)
  · exact (convertScan_inner _ _).after (inner_of_parts _ _ rfl rfl rfl rfl rfl rfl rfl)

theorem startScan_inner (s : State) (k : ScanKind) (p : Option (ZoneId × PhaseRequest)) :
    Inner s (s.startScan k p) :=
  inner_of_parts _ _ rfl rfl rfl rfl rfl rfl rfl

theorem runScans_inner (n : Nat) : ∀ s : State, Inner s (s.runScans n) := by
  induction n with
  | zero => intro s; exact Inner.refl s
  | succ n ih =>
    intro s
    unfold State.runScans
    split
    · split
      · exact (finishScan_inner s _).trans (ih _)
      · exact Inner.refl s
    · split
      · exact (startScan_inner s _ _).trans (ih _)
      · exact Inner.refl s

/-- The arbiter's consultation is inner work (07 R131). -/
theorem consult_inner (s : State) : Inner s s.consult := runScans_inner 14 s

/-- The arbiter does nothing while a scan in flight waits for a bank (07 R131). -/
theorem consult_awaiting (s : State) (x : Scan) (b : BankId) (h : s.se.scan = some x)
    (hb : x.awaiting[b] = true) : s.consult = s := by
  unfold State.consult State.runScans
  rw [h]
  dsimp only
  rw [if_neg]
  simp only [Scan.done, List.all_eq_true, List.mem_finRange, true_implies, not_forall]
  exact ⟨b, by simpa using hb⟩

theorem phaseRequest_inner (s : State) (p : PhaseRequest) : Inner s (s.phaseRequest p) := by
  unfold State.phaseRequest
  dsimp only
  refine Inner.trans ?_ (consult_inner _)
  split
  · refine (setZone_inner _ _ _ ?_ ?_).after (inner_of_parts _ _ rfl rfl rfl rfl rfl rfl rfl)
    · constructor <;> rfl
    · exact Zone.Later.of_same rfl rfl rfl rfl id
  · exact inner_of_parts _ _ rfl rfl rfl rfl rfl rfl rfl

theorem scanAnswer_inner (s : State) (b : BankId) (v : Option (List Int)) :
    Inner s (s.scanAnswer b v) := by
  unfold State.scanAnswer
  split
  · exact Inner.refl s
  · exact inner_of_parts _ _ rfl rfl rfl rfl rfl rfl rfl

theorem testEnd_inner (s : State) (b : BankId) (v : Option Int) : Inner s (s.testEnd b v) := by
  unfold State.testEnd
  split
  · exact Inner.refl s
  · exact (deferredReply_inner _ _ _ _).after (inner_of_parts _ _ rfl rfl rfl rfl rfl rfl rfl)

theorem setBank_inner (s : State) (b : BankId) (x : Bank) : Inner s (s.setBank b x) :=
  inner_of_parts _ _ rfl rfl rfl rfl rfl rfl rfl

theorem conversionEnd_inner (s : State) (b : BankId) (c : Conversion) (v : Option (List Int)) :
    Inner s (s.conversionEnd b c v) := by
  unfold State.conversionEnd
  dsimp only
  refine Inner.trans ?_ (consult_inner _)
  refine Inner.trans ?_ (setBank_inner _ _ _)
  split
  · exact scanAnswer_inner _ _ _
  · exact testEnd_inner _ _ _

theorem dropWaitingScan_inner (s : State) (b : BankId) : Inner s (s.dropWaitingScan b) := by
  unfold State.dropWaitingScan
  dsimp only
  split
  · exact Inner.refl s
  · exact (setBank_inner _ _ _).trans (scanAnswer_inner _ _ _)

/-! ### The arbiter runs to its end (07 R131) -/

/-- The requests that wait at the Scan Engine. -/
def ScanEngine.waiting (e : ScanEngine) : Nat :=
  ((List.finRange 4).countP fun z => e.slots[z].isSome) + e.zeroRequest.toNat + e.freeRequest.toNat

/-- The steps the arbiter can take: a completion of the scan in flight, a start and a completion for each
request that waits. -/
def ScanEngine.steps (e : ScanEngine) : Nat := (if e.scan.isSome then 1 else 0) + 2 * e.waiting

/-- The slot the arbiter chooses holds the request it chooses. -/
theorem firstSlot_mem (e : ScanEngine) (x : ZoneId × PhaseRequest) (h : e.firstSlot = some x) :
    e.slots[x.1] = some x.2 := by
  have all : ∀ (l : List ZoneId) (b : Option (ZoneId × PhaseRequest)),
      (∀ y, b = some y → e.slots[y.1] = some y.2) → ∀ y, l.foldl e.earlierSlot b = some y →
      e.slots[y.1] = some y.2 := by
    intro l
    induction l with
    | nil => intro b hb y hy; exact hb y hy
    | cons z l ih =>
      intro b hb y hy
      refine ih _ ?_ y hy
      intro w hw
      unfold ScanEngine.earlierSlot at hw
      split at hw
      · exact hb w hw
      · rename_i k; injection hw with hw; rw [← hw]; exact k
      · rename_i k
        split at hw
        · injection hw with hw; rw [← hw]; exact k
        · exact hb w hw
  exact all _ none (by simp) x h

/-- A request that leaves its place waits no longer. -/
theorem leave_waiting (e : ScanEngine) (k : ScanKind) (p : Option (ZoneId × PhaseRequest))
    (h : e.choice = some (k, p)) : (e.leave k p).waiting + 1 = e.waiting := by
  unfold ScanEngine.choice at h
  split at h
  · rename_i x hx
    injection h with h
    injection h with _ h
    subst h
    have m := firstSlot_mem e x hx
    have count : ∀ z : ZoneId, e.slots[z].isSome = true →
        ((List.finRange 4).countP fun y => (e.slots.set z none)[y].isSome) + 1 =
          (List.finRange 4).countP fun y => e.slots[y].isSome := by
      intro z hz
      simp only [List.finRange_succ, List.finRange_zero, List.countP_cons, List.map_cons, List.map_nil,
        List.countP_nil, Fin.getElem_fin, Vector.getElem_set]
      fin_cases z <;> simp_all <;> omega
    have := count x.1 (by rw [m]; rfl)
    unfold ScanEngine.leave ScanEngine.waiting
    dsimp only
    omega
  · split at h
    · rename_i hz
      injection h with h
      injection h with a b
      subst a b
      simp [ScanEngine.leave, ScanEngine.waiting, hz]
      omega
    · split at h
      · rename_i hf
        injection h with h
        injection h with a b
        subst a b
        simp [ScanEngine.leave, ScanEngine.waiting, hf]
      · simp at h

theorem finishScan_se (s : State) (x : Scan) : (s.finishScan x).se = { s.se with scan := none } := by
  unfold State.finishScan State.zeroScan State.convertScan State.deferredReply State.pushReply
  dsimp only
  split
  · split
    · split <;> rfl
    · rfl
  · split
    · rfl
    · rw [(raiseAll_scan _ _).se]

theorem finishScan_steps (s : State) (x : Scan) (h : s.se.scan = some x) :
    (s.finishScan x).se.steps + 1 = s.se.steps := by
  rw [finishScan_se]
  simp [ScanEngine.steps, ScanEngine.waiting, h]
  omega

theorem startScan_steps (s : State) (k : ScanKind) (p : Option (ZoneId × PhaseRequest))
    (h : s.se.scan = none) (hc : s.se.choice = some (k, p)) :
    (s.startScan k p).se.steps + 1 = s.se.steps := by
  have w := leave_waiting s.se k p hc
  have e : (s.startScan k p).se.waiting = (s.se.leave k p).waiting := rfl
  have f : (s.startScan k p).se.scan.isSome = true := rfl
  simp only [ScanEngine.steps, e, f, h]
  simp
  omega

theorem choice_none_of_waiting (e : ScanEngine) (h : e.waiting = 0) : e.choice = none := by
  cases c : e.choice with
  | none => rfl
  | some x => have := leave_waiting e x.1 x.2 c; omega

/-- More fuel than the arbiter has steps to take changes nothing. -/
theorem runScans_succ : ∀ (n : Nat) (s : State), s.se.steps ≤ n → s.runScans (n + 1) = s.runScans n := by
  intro n
  induction n with
  | zero =>
    intro s h
    have hs : s.se.scan = none := by
      cases c : s.se.scan with
      | none => rfl
      | some x => simp [ScanEngine.steps, c] at h
    have hw : s.se.waiting = 0 := by simp only [ScanEngine.steps] at h; omega
    simp only [State.runScans, hs, choice_none_of_waiting _ hw]
  | succ n ih =>
    intro s h
    rw [State.runScans, State.runScans]
    split
    · rename_i x hx
      split
      · have := finishScan_steps s x hx
        exact ih _ (by omega)
      · rfl
    · rename_i hx
      split
      · rename_i k p hc
        have := startScan_steps s k p hx hc
        exact ih _ (by omega)
      · rfl

theorem steps_le (e : ScanEngine) : e.steps ≤ 13 := by
  have c : e.waiting ≤ 6 := by
    have l : ((List.finRange 4).countP fun z => e.slots[z].isSome) ≤ 4 := List.countP_le_length
    have z := Bool.toNat_le e.zeroRequest
    have f := Bool.toNat_le e.freeRequest
    unfold ScanEngine.waiting
    omega
  unfold ScanEngine.steps
  split <;> omega

/-- The arbiter's first step is the completion of a scan that awaits no bank; it goes on from there. -/
theorem consult_finish (s : State) (x : Scan) (h : s.se.scan = some x) (d : x.done = true) :
    s.consult = (s.finishScan x).consult := by
  have e : s.consult = (s.finishScan x).runScans 13 := by
    rw [State.consult, State.runScans, h]
    exact if_pos d
  rw [e, State.consult, runScans_succ 13 _ (steps_le _)]

/-- With no scan in flight, the arbiter's first step is the start of the scan it chooses; it goes on from
there. -/
theorem consult_start (s : State) (k : ScanKind) (p : Option (ZoneId × PhaseRequest))
    (h : s.se.scan = none) (c : s.se.choice = some (k, p)) : s.consult = (s.startScan k p).consult := by
  have e : s.consult = (s.startScan k p).runScans 13 := by
    rw [State.consult, State.runScans, h]
    dsimp only
    rw [c]
  rw [e, State.consult, runScans_succ 13 _ (steps_le _)]

/-! ### Capture frames -/

theorem startRecording_inner (s : State) (b : BlockId) : Inner s (s.startRecording b) :=
  inner_of_parts _ _ rfl rfl rfl rfl rfl rfl rfl

theorem announce_inner (s : State) (l : List BlockId) :
    Inner s { s with lp := { s.lp with announce := l } } := by
  constructor <;> first | rfl | intro _; rfl | skip
  all_goals intro z
  · exact Zone.SameConfig.refl _
  · exact Zone.Later.refl _

theorem lockBlock_inner (s : State) (b : BlockId) : Inner s (s.lockBlock b) := by
  unfold State.lockBlock
  dsimp only
  have h := (inner_of_parts s (s.setBlock b { s.cu.blocks[b] with state := .locked })
    rfl rfl rfl rfl rfl rfl rfl).trans (announce_inner _ (s.lp.announce ++ [b]))
  split
  · split
    · exact h.trans (startRecording_inner _ _)
    · exact h.trans (inner_of_parts _ _ rfl rfl rfl rfl rfl rfl rfl)
  · exact h

theorem takeFrame_inner (s : State) (chans : Vector Channel 8) (b : Bool) :
    Inner s (s.takeFrame chans b) := by
  unfold State.takeFrame
  split
  · exact Inner.refl s
  · dsimp only
    have h : ∀ x : BlockId × Block, Inner s ({ s with scv := { s.scv with written := [] } }.setBlock x.1 x.2) :=
      fun _ => inner_of_parts _ _ rfl rfl rfl rfl rfl rfl rfl
    split
    · exact h (_, _)
    · split
      · exact (h (_, _)).trans (lockBlock_inner _ _)
      · exact h (_, _)

/-! ### The strobe -/

theorem syncLoss_inner (s : State) (r : Raise) : Inner s (s.syncLoss r) := by
  unfold State.syncLoss
  split
  · exact (raise_inner _ _).trans (holdZone_inner _ _ _)
  · exact Inner.refl s

/-- What an event of a strobe's work hands over is inner work. -/
theorem strobeEvent_inner (s : State) (q : Seen) (e : StrobeTask) : Inner s (s.strobeEvent q e) := by
  cases e
  · exact raise_inner _ _
  · exact syncLoss_inner _ _
  · exact foldl_inner _ phaseRequest_inner _ _
  · exact takeFrame_inner _ _ _

/-- What every event of a strobe's work keeps, its events together keep. -/
theorem strobeEvents_keeps (P : State → Prop) (seed : Nat) (l : List StrobeEvent)
    (h : ∀ s q, ∀ e ∈ l, P s → P (s.strobeEvent q e.task)) :
    ∀ (s : State) (i : Nat) (q : Seen), P s → P (s.strobeEvents seed i q l) := by
  induction l with
  | nil => intro s i q hs; exact hs
  | cons e l ih =>
    intro s i q hs
    exact ih (fun s q f hf => h s q f (List.mem_cons_of_mem _ hf)) _ _ _ (h s _ e List.mem_cons_self hs)

theorem strobeEvents_inner (s : State) (seed i : Nat) (q : Seen) (l : List StrobeEvent) :
    Inner s (s.strobeEvents seed i q l) :=
  strobeEvents_keeps (Inner s) seed l (fun t q e _ k => k.trans (strobeEvent_inner t q e.task)) s i q
    (Inner.refl s)

theorem pickAt_perm {α : Type} : ∀ (i : Nat) (l : List α) (x : α) (r : List α),
    pickAt i l = some (x, r) → (x :: r).Perm l
  | _, [], _, _, h => by simp [pickAt] at h
  | 0, y :: ys, x, r, h => by simp [pickAt] at h; rw [h.1, h.2]
  | i + 1, y :: ys, x, r, h => by
    unfold pickAt at h
    split at h
    · rename_i a as e
      simp at h
      rw [← h.1, ← h.2]
      exact (List.Perm.swap _ _ _).trans ((pickAt_perm i ys a as e).cons y)
    · simp at h

/-- The events of one moment are taken each once, whatever their order. -/
theorem arrange_perm {α : Type} (seed : Nat) : ∀ (n : Nat) (l : List α), (arrange seed n l).Perm l
  | 0, l => List.Perm.refl l
  | n + 1, l => by
    unfold arrange
    split
    · exact List.Perm.refl _
    · exact List.Perm.refl _
    · split
      · rename_i e rest h
        exact ((arrange_perm seed n rest).cons e).trans (pickAt_perm _ _ _ _ h)
      · exact List.Perm.refl _

theorem pickAt_map {α β : Type} (f : α → β) : ∀ (i : Nat) (l : List α),
    pickAt i (l.map f) = (pickAt i l).map fun x => (f x.1, x.2.map f)
  | _, [] => by simp [pickAt]
  | 0, x :: xs => by simp [pickAt]
  | i + 1, x :: xs => by
    simp only [List.map_cons, pickAt, pickAt_map f i xs]
    cases pickAt i xs <;> simp

/-- The order of the events of one moment is by their places alone. -/
theorem arrange_map {α β : Type} (f : α → β) (seed : Nat) : ∀ (n : Nat) (l : List α),
    arrange seed n (l.map f) = (arrange seed n l).map f
  | 0, _ => rfl
  | n + 1, l => by
    match l with
    | [] => rfl
    | [x] => rfl
    | x :: y :: zs =>
      simp only [List.map_cons, arrange, List.length_map]
      rw [show f x :: f y :: zs.map f = (x :: y :: zs).map f from rfl, pickAt_map]
      cases pickAt (Config.nextEvent seed n % (zs.length + 2)) (x :: y :: zs) with
      | none => rfl
      | some r => simp [arrange_map f seed n]

theorem inOrder_map {α β : Type} (f : α → β) (s : State) (l : List α) :
    s.inOrder (l.map f) = (s.inOrder l).map f := by
  unfold State.inOrder
  rw [arrange_map, List.length_map]

theorem inOrder_perm {α : Type} (s : State) (l : List α) : (s.inOrder l).Perm l := arrange_perm _ _ _

/-- What one event of a strobe's work establishes, from what the events before it keep, and what the events
after it keep, holds after them all. -/
theorem strobeEvents_establish (pre post : State → Prop) (e : StrobeEvent) (seed : Nat)
    (l : List StrobeEvent) (he : e ∈ l) (hpre : ∀ s q, ∀ f ∈ l, pre s → pre (s.strobeEvent q f.task))
    (make : ∀ (s : State) (q : Seen), pre s → post (s.strobeEvent q e.task))
    (keep : ∀ s q, ∀ f ∈ l, post s → post (s.strobeEvent q f.task)) :
    ∀ (s : State) (i : Nat) (q : Seen), pre s → post (s.strobeEvents seed i q l) := by
  induction l with
  | nil => simp at he
  | cons f l ih =>
    intro s i q hs
    have keep' : ∀ s q, ∀ f ∈ l, post s → post (s.strobeEvent q f.task) :=
      fun s q g hg => keep s q g (List.mem_cons_of_mem _ hg)
    rcases List.mem_cons.mp he with rfl | he
    · exact strobeEvents_keeps post seed l keep' _ _ _ (make _ _ hs)
    · exact ih he (fun s q g hg => hpre s q g (List.mem_cons_of_mem _ hg)) keep' _ _ _
        (hpre s _ f List.mem_cons_self hs)

/-! ### What an event finds -/

/-- A channel as an event finds it: after its update if the event cannot come before that. -/
theorem advance_chan_updated (q : Seen) (s : State) (seed i : Nat) (e : StrobeEvent) (a : ActId)
    (h : a ∈ e.updated) : (q.advance s seed i e).chans[a] = s.chan a := by
  simp [Seen.advance, State.chan, h]

/-- A channel as an event finds it: as it is, or as the event before found it. -/
theorem advance_chan (q : Seen) (s : State) (seed i : Nat) (e : StrobeEvent) (a : ActId) :
    (q.advance s seed i e).chans[a] = s.chan a ∨ (q.advance s seed i e).chans[a] = q.chans[a] := by
  simp only [Seen.advance, State.chan, tabMap_get]
  split <;> simp

/-- A cycle count as an event finds it: as it is, or as the event before found it. -/
theorem advance_count (q : Seen) (s : State) (seed i : Nat) (e : StrobeEvent) (z : ZoneId) :
    (q.advance s seed i e).counts[z] = (s.zone z).cycleCount ∨
      (q.advance s seed i e).counts[z] = q.counts[z] := by
  simp only [Seen.advance, tabMap_get]
  split <;> simp

theorem enterHeld_later (x : Zone) : x.Later { x with sub := .held, clockRunning := false } := by
  constructor <;> intro h
  all_goals first
    | exact h
    | exact Or.inl h
    | rfl
    | (intro k; first | exact k | (intro _; rfl) | exact ⟨id, id, id, id⟩)

theorem atSafe_unload {s : State} {outs : Vector Outcomes 8} {z : ZoneId} (h : s.atSafe outs z = true) :
    (s.zone z).state = .unload := by
  simp only [State.atSafe, Bool.and_eq_true, decide_eq_true_eq] at h
  exact h.1

theorem zoneMoves_inner (s : State) (outs : Vector Outcomes 8) (z : ZoneId) :
    Inner s (s.zoneMoves outs z) := by
  unfold State.zoneMoves
  dsimp only
  split
  · rename_i h
    refine (setZone_inner s z _ ?_ (enterHeld_later _)).trans (alarm_inner _); constructor <;> rfl
  split
  · rename_i h
    refine (setZone_inner s z _ ?_ (enterSafe_later _ _ (atSafe_unload h) fun _ => rfl)).trans (alarm_inner _)
    constructor <;> rfl
  split
  · exact holdZone_inner _ _ _
  split
  · refine setZone_inner s z _ ?_ (Zone.Later.of_same rfl rfl rfl rfl fun _ => rfl); constructor <;> rfl
  · exact Inner.refl s

/-- The part after the updates, the clocks' work and the windows' work of a strobe, before the zones'
moves and the events. -/
def State.strobeUpdated (s : State) (started : ZoneId → Bool) : State :=
  let t := s.updated started
  { t with
    zs := { t.zs with zones := tabMap (fun z _ => (t.clockWork s.ac z).zone) t.zs.zones }
    cm := { t.cm with aes := tabMap (fun _ (e : AeRecord) =>
      if t.windowDue e then e.windowWork.1 else e) t.cm.aes } }

theorem tabMap_tabMap {α β γ : Type} {n : Nat} (f : Fin n → α → β) (g : Fin n → β → γ) (v : Vector α n) :
    tabMap g (tabMap f v) = tabMap (fun i x => g i (f i x)) v := by
  apply Vector.ext
  intro i hi
  simp [tabMap]

/-- A strobe's work after the updates is the zones' moves and the events: inner work. -/
theorem strobeWork_inner (s : State) (started : ZoneId → Bool) (lost timeSet : Bool) :
    Inner (s.strobeUpdated started) (s.strobeWork started lost timeSet) := by
  unfold State.strobeWork
  dsimp only
  refine Inner.trans ?_ (strobeEvents_inner _ _ _ _ _)
  refine Inner.trans ?_ (bumpFree_inner _)
  refine Inner.trans ?_ (foldl_inner _ (fun u z => zoneMoves_inner u _ z) _ _)
  refine inner_of_parts _ _ rfl ?_ rfl rfl rfl rfl ?_
  · simp only [State.strobeUpdated, tabMap_tabMap]
    congr 2
    funext i e
    split <;> rfl
  · simp only [State.strobeUpdated, tabMap_tabMap]

/-! ### The start decisions -/

theorem decideStart_tb (s : State) (z : ZoneId) : (s.decideStart z).tb = s.tb := by
  unfold State.decideStart
  dsimp only
  split
  · split
    · rfl
    split <;> rfl
  · rfl

end Sys2Proof.Machine
end

