-- ==== Sys2Proof/Laws/Strobe.lean ====
section
/-! SUPPORT. The parts of a strobe's work: wraps, the clocks' work, the zones' own moves, the start decisions. -/

namespace Sys2Proof.Machine

/-- A wrap, by the wrap numbers of two strobes in a row (04 R60). -/
theorem isWrap_iff (inc n : Nat) :
    isWrap inc n = true ↔ 1 ≤ n ∧ (n - 1) * inc / 2 ^ 32 < n * inc / 2 ^ 32 := by
  unfold isWrap wrapNumber
  rw [Bool.and_eq_true, decide_eq_true_eq, decide_eq_true_eq]

/-- A free choice between two values is one of the two, by what the choice says. -/
theorem either_eq {α : Type} [DecidableEq α] (after : Bool) (old new : α) :
    either after old new = if after then new else old := by
  unfold either
  split
  · rename_i h; subst h; split <;> rfl
  · rfl

/-- Some member of a zone satisfies `p`. -/
theorem Zone.any_member (x : Zone) (p : ActId → Bool) :
    x.memberList.any p = true ↔ ∃ a : ActId, x.members.getLsbD a = true ∧ p a = true := by
  simp [Zone.memberList, Zone.has, List.any_eq_true]

/-- Every member of a zone satisfies `p`. -/
theorem Zone.all_member (x : Zone) (p : ActId → Bool) :
    x.memberList.all p = true ↔ ∀ a : ActId, x.members.getLsbD a = true → p a = true := by
  simp only [Zone.memberList, Zone.has, List.all_eq_true, List.mem_filter, List.mem_finRange, true_and]

/-- What one step of a fold establishes, from what the steps before it keep, and what the steps after it
keep, holds after the fold. -/
theorem foldl_establish {α β : Type} (pre post : α → Prop) (f : α → β → α) (b : β) (l : List β)
    (hb : b ∈ l) (hpre : ∀ s, ∀ c ∈ l, c ≠ b → pre s → pre (f s c)) (make : ∀ s, pre s → post (f s b))
    (keep : ∀ s, ∀ c ∈ l, post s → post (f s c)) : ∀ s, pre s → post (l.foldl f s) := by
  induction l with
  | nil => simp at hb
  | cons c l ih =>
    intro s hs
    have keep' : ∀ s, ∀ d ∈ l, post s → post (f s d) := fun s d hd => keep s d (List.mem_cons_of_mem _ hd)
    have stay : ∀ (m : List β) (s : α), (∀ s, ∀ d ∈ m, post s → post (f s d)) → post s →
        post (m.foldl f s) := by
      intro m
      induction m with
      | nil => intro s _ hs; exact hs
      | cons d m im =>
        intro s k hs
        exact im _ (fun s e he => k s e (List.mem_cons_of_mem _ he)) (k s d List.mem_cons_self hs)
    by_cases e : c = b
    · subst e
      exact stay l _ keep' (make s hs)
    · rcases List.mem_cons.mp hb with h | h
      · exact absurd h.symm e
      · exact ih h (fun s d hd => hpre s d (List.mem_cons_of_mem _ hd)) keep' _
          (hpre s c List.mem_cons_self e hs)

/-! ### The clocks' work -/

/-- `y` differs from `x` in the counts, the guard's items and the latest n alone. -/
def Zone.SameButClock (x y : Zone) : Prop :=
  y = { x with
    cycleCount := y.cycleCount, counter := y.counter, guardRun := y.guardRun, guardSum := y.guardSum
    latestN := y.latestN }

theorem Zone.SameButClock.trans {x y z : Zone} (h : x.SameButClock y) (k : y.SameButClock z) :
    x.SameButClock z := by
  unfold Zone.SameButClock at *
  rw [k, h]

theorem wrapWork_clock (x : Zone) (b : Bool) : x.SameButClock (x.wrapWork b) := by
  unfold Zone.wrapWork
  split <;> rfl

theorem guard_clock (x : Zone) (lo hi sum : Int) : x.SameButClock (x.guard lo hi sum).1 := by
  unfold Zone.guard
  dsimp only
  split
  · split <;> rfl
  · rfl

/-- The clock's strobe work changes the counts, the guard's items and the latest n of a zone alone. -/
theorem clockWork_clock (s : State) (old : Vector Channel 8) (z : ZoneId) :
    (s.zone z).SameButClock (s.clockWork old z).zone := by
  unfold State.clockWork
  dsimp only
  split
  · rfl
  · rename_i n _
    have wrapped : (s.zone z).SameButClock (if isWrap (s.zone z).inc n then
        ({ s.zone z with latestN := some n } : Zone).wrapWork
          ((s.zone z).memberList.any fun a => old[a].wasCycling)
        else { s.zone z with latestN := some n }) := by
      split
      · exact Zone.SameButClock.trans (y := { s.zone z with latestN := some n }) rfl (wrapWork_clock _ _)
      · rfl
    split
    · exact wrapped.trans rfl
    · exact wrapped.trans (guard_clock _ _ _ _)

/-- A captured crossing is of its own zone (06 R104). -/
theorem clockWork_capture_zone (s : State) (old : Vector Channel 8) (z : ZoneId) (p : PhaseRequest)
    (h : (s.clockWork old z).capture = some p) : p.zone = z := by
  have captured : ∀ (x : Zone) (n : Nat), s.captured old z x n = some p → p.zone = z := by
    intro x n e
    unfold State.captured at e
    split at e
    · simp at e
    · split at e
      · injection e with e; rw [← e]
      · simp at e
  unfold State.clockWork at h
  dsimp only at h
  split at h
  · simp at h
  · split at h <;> exact captured _ _ h

/-! ### The zones' own moves -/

theorem holdZone_chan (s : State) (z : ZoneId) (r : HoldReason) (a : ActId)
    (h : (s.zone z).members.getLsbD a = false) : (s.holdZone z r).chan a = s.chan a := by
  unfold State.holdZone State.addReason
  dsimp only
  split
  · rw [State.chan_alarm, mapMembers_ac_get, State.zone_setZone, if_pos rfl, if_neg]
    · rfl
    · simpa only [Zone.has, Zone.enterHold, Bool.not_eq_true] using h
  · split <;> rfl
  all_goals rfl

/-- A zone's own move at a strobe leaves the other zones alone. -/
theorem zoneMoves_zone_ne (s : State) (outs : Vector Outcomes 8) (y z : ZoneId) (h : y ≠ z) :
    (s.zoneMoves outs z).zone y = s.zone y := by
  unfold State.zoneMoves
  dsimp only
  split
  · rw [State.zone_alarm, State.zone_setZone, if_neg h]
  split
  · rw [State.zone_alarm, State.zone_setZone, if_neg h]
  split
  · exact holdZone_zone_ne _ _ _ _ h
  split
  · rw [State.zone_setZone, if_neg h]
  · rfl

/-- A zone's own move at a strobe leaves the channels of no member of it alone. -/
theorem zoneMoves_chan (s : State) (outs : Vector Outcomes 8) (z : ZoneId) (a : ActId)
    (h : (s.zone z).members.getLsbD a = false) : (s.zoneMoves outs z).chan a = s.chan a := by
  unfold State.zoneMoves
  dsimp only
  split
  · rfl
  split
  · rfl
  split
  · exact holdZone_chan _ _ _ _ h
  split <;> rfl

/-! ### The start decisions -/

/-- The start decision of one zone in one form (06 R109). -/
def State.startOf (s : State) (z : ZoneId) : Zone :=
  let x := s.zone z
  if x.startsAt s.strobeHall then
    if s.scv.zeroOp.isSome then { x with pendingStart := none, lastStart := .late }
    else if s.standing z || s.zs.overflow then { x with pendingStart := none, lastStart := .cancelled }
    else x.enterRun s.strobeHall
  else x

/-- The start decisions change the zones and ALARM-pending alone. -/
structure StartFrame (s t : State) : Prop where
  tb : t.tb = s.tb
  ac : t.ac = s.ac
  se : t.se = s.se
  scv : t.scv = s.scv
  sq : t.sq = s.sq
  lw : t.lw = s.lw
  cm : t.cm = s.cm
  cu : t.cu = s.cu
  osc : t.osc = s.osc
  free : t.free = s.free
  pending : t.pending = s.pending
  alarms : t.zs.alarms = s.zs.alarms
  overflow : t.zs.overflow = s.zs.overflow
  lp : t.lp = { s.lp with alarmPending := t.lp.alarmPending }

theorem decideStart_frame (s : State) (z : ZoneId) : StartFrame s (s.decideStart z) := by
  unfold State.decideStart
  dsimp only
  split
  · split
    · constructor <;> rfl
    split <;> constructor <;> rfl
  · constructor <;> rfl

theorem decideStart_zone (s : State) (y z : ZoneId) :
    (s.decideStart z).zone y = if y = z then s.startOf z else s.zone y := by
  unfold State.decideStart State.startOf
  dsimp only
  split
  · split
    · rw [State.zone_setZone]
    split
    · rw [State.zone_setZone]
    · rw [State.zone_alarm, State.zone_setZone]
  · split
    · rename_i h; rw [h]
    · rfl

theorem startOf_congr (s t : State) (z : ZoneId) (h : StartFrame s t) (e : t.zone z = s.zone z) :
    t.startOf z = s.startOf z := by
  unfold State.startOf State.standing State.strobeHall
  rw [e, h.tb, h.scv, h.alarms, h.overflow]

/-- After the start decisions each zone is as its own decision leaves it (06 R109). -/
theorem decideStarts_spec (s : State) :
    StartFrame s s.decideStarts ∧ ∀ z, s.decideStarts.zone z = s.startOf z := by
  have trans : ∀ s t u : State, StartFrame s t → StartFrame t u → StartFrame s u := by
    intro s t u h k
    constructor
    · rw [k.tb, h.tb]
    · rw [k.ac, h.ac]
    · rw [k.se, h.se]
    · rw [k.scv, h.scv]
    · rw [k.sq, h.sq]
    · rw [k.lw, h.lw]
    · rw [k.cm, h.cm]
    · rw [k.cu, h.cu]
    · rw [k.osc, h.osc]
    · rw [k.free, h.free]
    · rw [k.pending, h.pending]
    · rw [k.alarms, h.alarms]
    · rw [k.overflow, h.overflow]
    · rw [k.lp, h.lp]
  have fold : ∀ l : List ZoneId, l.Nodup → ∀ t : State, StartFrame s t →
      (∀ z ∈ l, t.zone z = s.zone z) → StartFrame s (l.foldl State.decideStart t) ∧
        ∀ z, (l.foldl State.decideStart t).zone z = if z ∈ l then s.startOf z else t.zone z := by
    intro l
    induction l with
    | nil => intro _ t h _; exact ⟨h, fun z => by simp⟩
    | cons y l ih =>
      intro hn t h e
      have hy := List.nodup_cons.mp hn
      have step := ih hy.2 (t.decideStart y) (trans _ _ _ h (decideStart_frame t y)) (by
        intro z hz
        have ne : z ≠ y := fun k => hy.1 (k ▸ hz)
        rw [decideStart_zone, if_neg ne]
        exact e z (List.mem_cons_of_mem _ hz))
      refine ⟨step.1, fun z => ?_⟩
      rw [List.foldl_cons, step.2 z, decideStart_zone]
      by_cases k : z = y
      · subst k
        rw [if_neg hy.1, if_pos rfl, if_pos List.mem_cons_self]
        exact startOf_congr s t z h (e z List.mem_cons_self)
      · simp [k]
  have all := fold (List.finRange 4) (List.nodup_finRange 4) s
    (by constructor <;> rfl) (fun _ _ => rfl)
  exact ⟨all.1, fun z => by have := all.2 z; rw [if_pos (List.mem_finRange z)] at this; exact this⟩

/-! ### Sync regained -/

/-- A zone told that sync is regained: SYNC leaves its reasons, with ALARM-pending when it was among them. -/
theorem dropSyncReason_eq (s : State) (z : ZoneId) :
    s.dropSyncReason z = { s with
      zs := { s.zs with
        zones := s.zs.zones.set z
          { s.zone z with reasons := { (s.zone z).reasons with sync := false } } }
      lp := { s.lp with alarmPending := s.lp.alarmPending || (s.zone z).reasons.sync } } := by
  unfold State.dropSyncReason
  dsimp only
  split
  · rename_i h
    simp [State.setZone, State.alarm, h]
  · rename_i h
    have h : (s.zone z).reasons.sync = false := by simpa using h
    have same : { s.zone z with reasons := { (s.zone z).reasons with sync := false } } = s.zone z := by
      rw [← h]
    rw [same, h, Bool.or_false]
    simp [State.zone]

/-- Every zone told that sync is regained (06 R116). -/
theorem dropSyncReasons_eq (s : State) :
    (List.finRange 4).foldl State.dropSyncReason s = { s with
      zs := { s.zs with
        zones := s.zs.zones.map fun x => { x with reasons := { x.reasons with sync := false } } }
      lp := { s.lp with alarmPending := s.lp.alarmPending ||
        (List.finRange 4).any fun z => (s.zone z).reasons.sync } } := by
  have h : List.finRange 4 = [0, 1, 2, 3] := by decide
  rw [h]
  simp only [List.foldl, dropSyncReason_eq]
  congr 1
  · simp [State.zone, Bool.or_assoc]
  · congr 1
    ext i hi
    simp only [State.zone]
    interval_cases i <;> simp

end Sys2Proof.Machine
end

