-- ==== Sys2Proof/Tests/Slice0.lean ====
section
/-! SUPPORT. The model's own tests: the smoke of the well-formedness check, the spec's worked figures, and
for every statement with hypotheses states and operands that meet them, clause by clause. -/

namespace Sys2Proof.Tests
open Sys2Proof Sys2Proof.Machine Sys2Proof.Statements Host

set_option Elab.async false

/-! ### Helpers -/

/-- The request of kind `k` with the payload `p`, tag 1, sent to the node address. -/
def rq (k : Byte) (p : List Byte) : Request := ⟨1, k, p, .node⟩
/-- The part after reset with that request waiting. -/
def req (k : Byte) (p : List Byte) : State :=
  { State.reset with lp := { LinkPort.reset with requests := [rq k p] } }
/-- The part with zone `z` changed. -/
def withZone (s : State) (z : ZoneId) (f : Zone → Zone) : State := s.setZone z (f (s.zone z))
/-- The part with channel `a` changed. -/
def withChan (s : State) (a : ActId) (f : Channel → Channel) : State := s.setChan a (f (s.chan a))
/-- The part with zone 0 in a state. -/
def inState (s : State) (x : ZoneState) : State := withZone s 0 fun z => { z with state := x }
/-- The payload of the reply that a request brings, waiting behind a report or being sent. -/
def reply (o : Result) : List Byte :=
  match o with
  | .next t =>
    match t.lp.replies, t.lp.tx with
    | x :: _, _ => x.payload
    | [], some f => (f.bytes.drop 6).take (f.bytes.length - 8)
    | [], none => []
  | .fault _ => []
  | .refused _ => []

/-- What holds of the next state that a command answers. -/
def after {α : Type} (o : Result) (f : State → α) : Option α :=
  match o with
  | .next t => some (f t)
  | .fault _ => none
  | .refused _ => none

theorem atHead (s : State) (k : Byte) (p : List Byte) (h : s.lp = (req k p).lp) : AtHead s k (rq k p) := by
  refine ⟨⟨[], ?_⟩, rfl, ?_, Or.inr ?_⟩ <;> simp [h, req, LinkPort.reset]

/-! ### Well-formedness -/

theorem test_wf_refuses_addr_64 : (Instr.reset 64).wellFormed = false := by decide
theorem test_wf_takes_addr_63 : (Instr.reset 63).wellFormed = true := by decide

/-! ### The spec's worked figures -/

/-- 04: the amplitudes of one stretch. -/
theorem test_stretch : ([0, 1, 2].map fun k => stretchAmp 5000 k 3) = [1667, 3333, 5000] ∧
    ([0, 1, 2, 3, 4].map fun j => rampOutAmp 3333 j 4) = [3333, 2500, 1667, 833, 0] := by decide

/-- 04: limits narrowed during a cycle, the two updates. -/
theorem test_limits_narrowed :
    let c : Channel := { Channel.reset with
      prev := 24000, cfg := { ChannelConfig.reset with rateStep := 200, fMax := 22000 } }
    (c.clamps 24150).2 = 22000 ∧ (c.clamps 24150).1.limitFlag = true ∧ (c.clamps 24150).1.rateFlag = false ∧
    (({ c with prev := 22000 }).clamps 24300).1.p1 = 22200 ∧
    (({ c with prev := 22000 }).clamps 24300).2 = 22000 := by decide

/-- 04: conditional integration at the valve limit, the three updates. -/
theorem test_conditional_integration :
    let c : Channel := { Channel.reset with
      integrator := 40960000, cfg := { ChannelConfig.reset with kp := 4096, ki := 512, iLimit := 20000 } }
    let c1 := c.servo 30000
    let c2 := c1.servo 18000
    let c3 := c2.servo (-5000)
    c1.v = 32767 ∧ c1.iTerm = 13750 ∧ c1.integrator = 40960000 ∧ c1.driveFlag = true ∧
    c2.v = 30250 ∧ c2.integrator = 50176000 ∧ c3.v = 6625 ∧ c3.integrator = 47616000 := by decide

/-- 04: the sine table's quarter points and the default phase increment. -/
theorem test_phase : sine 0 = 0 ∧ sine 128 = 23170 ∧ sine 256 = 32767 ∧ sine 768 = -32767 ∧
    phaseInc 1000 = 2147484 ∧ phaseInc 10 = 21475 ∧ phaseInc 20000 = 42949673 := by decide +kernel

/-- 07: forming a scan set. -/
theorem test_scan_set :
    (scanSet [⟨120, 20⟩, ⟨70, 10⟩, ⟨200, 3⟩]).map Fin.val =
      (List.range 16).map (64 + ·) ++ (List.range 8).map (120 + ·) ++ [200, 201, 202] := by
  decide +kernel

/-- 08: the worked conversions. -/
theorem test_conversions :
    ([(⟨.quarter, 2100, 32768⟩, 3400, 163400), (⟨.full, 2000, 34000⟩, 0, 100000),
      (⟨.half, 2050, 32768⟩, 3000, -120457), (⟨.quarter, 1000, 40000⟩, 0, 4000000),
      (⟨.quarter, 2000, 32768⟩, 5000, 8388607)] : List (Profile × Int × Int)).map
        (fun x => let r := sampleOf x.1 false x.2.1 0 (some x.2.2); (r.value, r.flags.overRange)) =
      [(30574, false), (5188, false), (-12045, false), (2000000, true), (2000000, true)] := by
  decide +kernel

/-- 08: the template table. -/
theorem test_templates :
    let v : StrainConverter := { StrainConverter.reset with
      tableValid := true
      templates := ((StrainConverter.reset.templates.set 0 ⟨true, 72, 248, ⟨.off, 2000, 32768⟩⟩).set 1
        ⟨true, 64, 192, ⟨.half, 2050, 32768⟩⟩).set 2 ⟨true, 0, 0, ⟨.quarter, 2105, 32912⟩⟩ }
    ([72, 64, 63] : List GaugeId).map v.chosen = [some 0, some 1, some 2] ∧
    { v with tableValid := false }.chosen 72 = none ∧
    { StrainConverter.reset with tableValid := true }.chosen 72 = none ∧
    v.countOf (some 0) = 8 ∧ v.countOf (some 1) = 56 ∧ v.countOf (some 2) = 192 ∧ v.countOf none = 0 := by
  decide +kernel

/-- 01: the check of R6, for the nine digits that the CRC's usual check value is given for. -/
theorem test_crc : crc16 [0x31, 0x32, 0x33, 0x34, 0x35, 0x36, 0x37, 0x38, 0x39] = 0x29B1 := by
  decide +kernel

/-! ### Replies at the boundaries of the fields: 0 is ACCEPTED, the others the reasons of R10 -/

theorem test_set_group : ([[0, 0], [1, 63], [1, 64], [1, 254], [1, 255], [2, 0], [0]].map fun p =>
    (reply (exec .setGroup (req 0x03 p))).take 2) =
    [[3, 0], [3, 2], [3, 0], [3, 0], [3, 2], [3, 2], [3, 1]] := by decide +kernel

theorem test_set_cycle_rate : ([[0, 0, 9], [0, 0, 10], [3, 0x4E, 0x20], [0, 0x4E, 0x21], [4, 0, 10]].map
    fun p => (reply (exec .setCycleRate (req 0x31 p))).take 2) =
    [[0x31, 2], [0x31, 0], [0x31, 0], [0x31, 2], [0x31, 2]] := by decide +kernel

theorem test_reset_cycle_count :
    reply (exec .resetCycleCount (withZone (req 0x38 [2]) 2 fun z => { z with cycleCount := 258, missed := 3 })) =
      [0x38, 0, 0, 0, 0, 1, 2, 0, 3] ∧
    reply (exec .resetCycleCount (withZone (req 0x38 [2]) 2 fun z => { z with state := .ready })) =
      [0x38, 3] := by decide +kernel

theorem test_set_dry_run : reply (exec .setDryRun (req 0x23 [7, 1])) = [0x23, 0, 0] ∧
    reply (exec .setDryRun (req 0x23 [8, 1])) = [0x23, 2] ∧
    reply (exec .setDryRun (req 0x23 [7, 2])) = [0x23, 2] ∧
    reply (exec .setDryRun (withChan (req 0x23 [0, 1]) 0 fun c => { c with state := .standby })) =
      [0x23, 3] := by decide +kernel

theorem test_set_time : ([[0, 0, 0, 0, 0, 0, 1, 0xF4], [0, 0, 0, 0, 0, 0, 1, 0xF5],
    [0, 0, 0, 0, 0, 0, 0, 0]].map fun p => (reply (exec .setTime (req 0x10 p))).take 2) =
    [[0x10, 0], [0x10, 2], [0x10, 5]] := by decide +kernel

theorem test_enable_needs_feedback : reply (exec .enableActuator (req 0x21 [0])) = [0x21, 3] ∧
    reply (exec .enableActuator (withChan (req 0x21 [0]) 0 fun c =>
      { c with seen := true, measured := ⟨-2, 0, .normal⟩ })) = [0x21, 0, 0xFF, 0xFF, 0xFF, 0xFE] := by
  decide +kernel

theorem test_load_segments :
    let dwell : List Byte := [2, 0, 0, 0, 0, 5, 0, 0, 0]
    reply (exec .loadSegments (req 0x24 ([3, 1] ++ dwell))) = [0x24, 0, 2, 1, 1] ∧
    reply (exec .loadSegments (req 0x24 ([3, 2] ++ dwell))) = [0x24, 1] ∧
    reply (exec .loadSegments (req 0x24 ([0, 1] ++ dwell))) = [0x24, 2] := by decide +kernel

theorem test_hold_and_resume : reply (exec .hold (inState (req 0x34 [0]) .run)) = [0x34, 0, 3, 1] ∧
    reply (exec .resume (inState (req 0x35 [0]) .hold)) = [0x35, 0, 2] ∧
    reply (exec .resume (req 0x35 [0])) = [0x35, 3] := by decide +kernel

theorem test_configure_loop : ([[31, 1, 3, 3, 1], [32, 1, 3, 3, 1], [0, 1, 0, 1, 1], [0, 1, 0, 2, 0]].map
    fun p => (reply (exec .configureLoop (req 0x50 p))).take 2) =
    [[0x50, 0], [0x50, 2], [0x50, 2], [0x50, 2]] := by decide +kernel

theorem test_configure_capture :
    (reply (exec .configureCapture (req 0x60 [1, 5, 255, 7, 0xFF, 1, 15, 0, 1]))).take 2 = [0x60, 0] ∧
    (reply (exec .configureCapture (req 0x60 [0, 7, 0xFF, 1, 15, 0, 1]))).take 2 = [0x60, 2] ∧
    (reply (exec .configureCapture (req 0x60 [1, 5, 255, 8, 0, 1, 15, 0, 1]))).take 2 = [0x60, 2] := by
  decide +kernel

/-! ### States and operands that meet the statements' hypotheses -/

theorem test_witness_step :
    ({ State.reset with pending := [.gap] } : State).pending = [.gap] ∧ State.reset.pending = [] ∧
    (∀ t d, State.reset.limit t = some d → State.reset.osc + 1 ≤ d) ∧
    (∃ t d, ({ State.reset with osc := 500 } : State).limit t = some d ∧ d < 501) := by
  refine ⟨rfl, rfl, (reachable_iff _ _).mp (by decide +kernel), .strobe, 500, rfl, by decide⟩

theorem test_witness_timers :
    State.reset.tb.role ≠ .follower ∧
    ({ TimeBase.reset with role := .follower } : TimeBase).syncLost = false ∧
    ({ TimeBase.reset with role := .master, line := .high } : TimeBase).line = .high ∧
    0 < ({ TimeBase.reset with role := .follower, syncLost := true, regainRun := 1 } : TimeBase).regainRun ∧
    ({ StrainQueue.reset with timer := .running 3 } : StrainQueue).timer = .running 3 ∧
    State.reset.sq.timer = .stopped ∧ State.reset.se.interval = 0 ∧ State.reset.lp.rx.mode = .hunt ∧
    State.reset.lp.line = .mark ∧
    ({ LinkPort.reset with rx := ⟨.header, []⟩ } : LinkPort).rx.mode ≠ .hunt := by decide +kernel

/-- At reset the strobe's timer may run out; the loops' timer is kept from its moment by it, and the regain
timer does not run. -/
theorem test_witness_expiry :
    State.reset.deadline .strobe = some 500 ∧ (∀ x m, State.reset.limit x = some m → 500 ≤ m) ∧
    State.reset.deadline .loop = some 1000 ∧ State.reset.limit .strobe = some 500 ∧
    State.reset.expire .loop = none ∧ State.reset.deadline .regain = none ∧
    (∀ p ∈ timerCommands 0 0, p.2 ≠ .strobe → State.reset.expire p.2 = none) ∧
    ({ State.reset with pending := [.gap] } : State).pending = .gap :: [] := by
  refine ⟨rfl, (reachable_iff _ _).mp (by decide +kernel), by decide +kernel, by decide +kernel,
    by decide +kernel, by decide +kernel, by decide +kernel, rfl⟩

theorem test_witness_restart :
    (({ State.reset with lp := { LinkPort.reset with restart := .due } } : State).expire .restart).isSome ∧
    (63 : Nat) < 64 := by decide +kernel

/-- A receiver that has read these bytes after the start byte. -/
def rxState (mode : RxMode) (buf : List Byte) : State :=
  { State.reset with lp := { LinkPort.reset with rx := ⟨mode, buf⟩ } }
/-- The bytes of a frame after its start byte, but for the last. -/
def almost (dest : Byte) : List Byte := ((frameBytes dest 9 0x01 []).drop 1).take 6

theorem test_witness_receiver :
    let four : List Byte := [0, 9, 1, 4]
    let last (dest : Byte) : Byte := byteAt (frameBytes dest 9 0x01 []) 7
    let good (dest : Byte) : Prop :=
      beNat ((almost dest ++ [last dest]).drop 5) = (crc16 ((almost dest ++ [last dest]).take 5)).toNat
    field (four ++ [0]) 3 2 = 1024 ∧ field (four ++ [1]) 3 2 = 1025 ∧ (four ++ [0]).length = 5 ∧
    (rxState .body (almost 0)).lp.rx.mode = .body ∧
    (almost 0 ++ [last 0]).length = 5 + field (almost 0 ++ [last 0]) 3 2 + 2 ∧
    good 0 ∧ good 255 ∧ good 64 ∧ good 63 ∧
    ¬ beNat ((almost 0 ++ [last 0 + 1]).drop 5) = (crc16 ((almost 0 ++ [last 0 + 1]).take 5)).toNat ∧
    (0 : Byte).toNat = State.reset.lp.nodeAddr.toNat ∧ (64 : Byte).toNat ≠ State.reset.lp.nodeAddr.toNat ∧
    State.reset.lp.groupAddr ≠ some 63 ∧ (rxState .body [0, 9, 1, 0, 0]).lp.line = .mark ∧
    (25 : Nat) ≤ (rxState .body []).lp.lastByteAt + 25 ∧ (rxState .body []).lp.lastByteAt + 25 < 26 := by
  decide +kernel

/-- 01 R4: a byte that ends 26 microseconds after the byte before finds the frame abandoned. -/
theorem test_late_byte :
    (match exec (.byteReceived 0xC3 .mark) { rxState .header [0] with osc := 26 } with
      | .next t => (t.lp.rx, t.lp.counts.gap)
      | _ => (⟨.hunt, []⟩, 0)) = (⟨.header, []⟩, 1) ∧
    (match exec (.byteReceived 0xC3 .mark) { rxState .header [0] with osc := 25 } with
      | .next t => (t.lp.rx, t.lp.counts.gap)
      | _ => (⟨.hunt, []⟩, 0)) = (⟨.header, [0, 0xC3]⟩, 0) := by decide +kernel

theorem test_witness_line :
    let bad (mode : RxMode) : LinkPort := { LinkPort.reset with line := .badStop, rx := ⟨mode, []⟩ }
    (bad .header).line = .badStop ∧ (bad .header).rx.mode ≠ .hunt ∧ (bad .hunt).rx.mode = .hunt ∧
    ({ LinkPort.reset with line := .brk } : LinkPort).line = .brk ∧
    ((rxState .header []).expire .gap).isSome ∧ (rxState .header []).lp.line ≠ .brk ∧
    (rxState .header []).lp.line = .mark ∧ (30 : Nat) ≤ (rxState .header []).lp.lastByteAt + 30 ∧
    (rxState .header []).lp.lastByteAt + 30 < 31 ∧ Goes (exec .lineReturnsToMark State.reset) :=
  ⟨rfl, by decide, rfl, rfl, by decide +kernel, by decide, rfl, by decide, by decide, ⟨_, rfl⟩⟩

/-- A frame on the uplink that ends at once. -/
def sending (c : Carries) : LinkPort := { LinkPort.reset with tx := some ⟨[], c, 0⟩ }
/-- A record of one entry. -/
def record (sliced : Bool) : StrainRecord :=
  ⟨.free, 0, 0, 0, none, 0, [⟨5, -7, ⟨false, false, false, true⟩⟩], 0, sliced⟩

theorem test_witness_uplink :
    (sending .alarm).tx.isSome ∧ State.reset.lp.tx = none ∧ State.reset.lp.restart ≠ .due ∧
    ({ LinkPort.reset with alarmPending := true } : LinkPort).alarmPending = true ∧
    ({ LinkPort.reset with replies := [⟨1, [1, 0], false⟩] } : LinkPort).replies ≠ [] ∧
    ({ LinkPort.reset with announce := [2] } : LinkPort).announce = [2] ∧
    State.reset.lp.reporting.capture = true ∧ State.reset.lp.reporting.strain = true ∧
    ({ StrainQueue.reset with records := [record false], timer := .runOut } : StrainQueue).timer = .runOut ∧
    (record true).sliced = true ∧ State.reset.sq.records = [] ∧
    (record false).unsent.length < State.reset.lp.reporting.level ∧ (record false).sliced = false ∧
    State.reset.sq.timer ≠ .runOut ∧
    (({ State.reset with lp := sending (.reply true) } : State).expire .uplink).isSome ∧
    (({ State.reset with lp := { sending .alarm with restart := .awaitFrame } } : State).expire
      .uplink).isSome ∧
    (({ State.reset with lp := sending (.strain 1 true)
                         sq := { StrainQueue.reset with records := [record false] } } : State).expire
      .uplink).isSome ∧
    (({ State.reset with lp := { sending (.strain 1 false) with restart := .awaitFrame }
                         sq := { StrainQueue.reset with records := [record false] } } : State).expire
      .uplink).isSome ∧
    (∀ n last, (.reply true : Carries) ≠ .strain n last) := by
  refine ⟨by decide, by decide, by decide, by decide, by decide, by decide, by decide, by decide,
    by decide, by decide, by decide, by decide, by decide, by decide, by decide +kernel,
    by decide +kernel, by decide +kernel, by decide +kernel, ?_⟩
  intro n last h
  cases h

theorem test_witness_room :
    let full : LinkPort := { LinkPort.reset with
      requests := [rq 1 []], replies := [⟨1, [], false⟩, ⟨2, [], false⟩, ⟨3, [], false⟩], reservations := 1 }
    let waiting : LinkPort := { LinkPort.reset with requests := [rq 1 []], restart := .awaitReply }
    4 ≤ full.replies.length + full.reservations ∧ (rq 1 []).cls ≠ .broadcast ∧ waiting.restart ≠ .idle ∧
    full.requests = [rq 1 []] := by decide +kernel

theorem test_witness_malformed :
    AtHead (req 0x03 [0]) 0x03 (rq 0x03 [0]) ∧ (rq 0x03 [0]).payload.length ≠ 2 ∧
    AtHead (req 0x80 []) 0x80 (rq 0x80 []) ∧ (0x80 : Byte) ∉ requestKinds ∧ (0x65 : Byte) ∉ requestKinds ∧
    AtHead (req 0x64 []) 0x64 (rq 0x64 []) ∧ (0x64 : Byte) ∈ requestKinds ∧
    (7 < field [8] 0 1 ∧ 3 < field [4] 0 1) :=
  ⟨atHead _ _ _ rfl, by decide, atHead _ _ _ rfl, by decide, by decide, atHead _ _ _ rfl, by decide,
    by decide⟩

theorem test_witness_plain_reads :
    ∀ k ∈ [(0x01 : Byte), 0x02, 0x05, 0x06, 0x11, 0x3A, 0x44, 0x45, 0x61, 0x64],
      AtHead (req k []) k (rq k []) ∧ (rq k []).payload = [] := fun k _ => ⟨atHead _ k _ rfl, rfl⟩

theorem test_witness_link_settings :
    AtHead (req 0x03 [1, 64]) 0x03 (rq 0x03 [1, 64]) ∧ AtHead (req 0x04 [0, 64, 1, 0]) 0x04 (rq 0x04 [0, 64, 1, 0]) ∧
    field [0, 0] 0 1 = 0 ∧ field [1, 64] 0 1 = 1 ∧ field [1, 64] 1 1 = 64 ∧ field [1, 254] 1 1 = 254 ∧
    field [1, 63] 1 1 = 63 ∧ field [1, 255] 1 1 = 255 ∧ 1 < field [2, 64] 0 1 ∧
    field [8, 0, 1, 0] 0 2 ∈ [64, 256, 1024, 2048] ∧ field [0, 63, 1, 0] 0 2 ∉ [64, 256, 1024, 2048] ∧
    field [0, 64, 1, 0] 2 1 = true.toNat ∧ field [0, 64, 1, 0] 3 1 = false.toNat ∧
    1 < field [0, 64, 2, 0] 2 1 :=
  ⟨atHead _ _ _ rfl, atHead _ _ _ rfl, by decide +kernel⟩

theorem test_witness_restart_request :
    (∀ z : ZoneId, ((req 0x06 []).zone z).state = .idle ∨ ((req 0x06 []).zone z).state = .safe) ∧
    (∃ z : ZoneId, ((inState (req 0x06 []) .run).zone z).state ≠ .idle ∧
      ((inState (req 0x06 []) .run).zone z).state ≠ .safe) ∧
    (rq 0x06 []).cls ≠ .broadcast ∧ ({ rq 0x06 [] with cls := .broadcast } : Request).cls = .broadcast ∧
    (sending .alarm).tx.isSome ∧ (req 0x06 []).lp.tx = none := by decide +kernel

/-- A part in a role, with sync lost or not. -/
def role (r : SyncRole) (lost : Bool) (run at' osc : Nat) : State :=
  { State.reset with
    tb := { TimeBase.reset with role := r, syncLost := lost, regainRun := run, lastEdgeAt := at' }
    osc
    cm := { CrackMonitor.reset 0 with nextSampleAt := 100000 }
    se := { ScanEngine.reset 0 with banks := Vector.replicate 4 { Bank.reset 0 with settlingUntil := none } } }

theorem test_witness_strobes :
    ((role .internal false 0 0 0).expire .strobe).isSome ∧ ((role .follower true 0 0 0).expire .strobe).isSome ∧
    ((role .follower false 0 0 0).expire .strobe).isSome ∧ (role .follower false 0 0 0).tb.subRun ≤ 7 ∧
    ((let s := role .master false 0 0 0
      { s with tb := { s.tb with line := .high } }).expire .syncPulse).isSome ∧
    ((let s := role .follower true 1 0 700
      { s with tb := { s.tb with lastStrobeAt := 400 } }).expire .regain).isSome := by decide +kernel

theorem test_witness_edges :
    (role .internal false 0 0 0).tb.role ≠ .follower ∧
    (role .follower false 0 0 249).osc - (role .follower false 0 0 249).tb.lastStrobeAt < 250 ∧
    250 ≤ (role .follower false 0 0 250).osc ∧ (role .follower false 0 0 750).osc ≤ 750 ∧
    (role .follower true 0 0 0).tb.regainRun = 0 ∧ (role .follower true 0 0 0).tb.syncLost = true ∧
    (let s := role .follower true 1 0 249; 0 < s.tb.regainRun ∧ s.osc - s.tb.lastEdgeAt < 250) ∧
    (let s := role .follower true 14 0 250
     250 ≤ s.osc - s.tb.lastEdgeAt ∧ s.osc - s.tb.lastEdgeAt ≤ 750 ∧ s.tb.regainRun < 15) ∧
    (let s := role .follower true 15 0 750
     250 ≤ s.osc - s.tb.lastEdgeAt ∧ s.osc - s.tb.lastEdgeAt ≤ 750 ∧ s.tb.regainRun = 15) ∧
    (let s := withZone (role .follower true 15 0 750) 2
        fun z => { z with state := .hold, reasons := { z.reasons with sync := true } }
     (s.zone 2).reasons.sync = true ∧ s.tb.regainRun = 15 ∧
     after (exec .syncEdge s) (fun t => (t.tb.syncLost, t.tb.regainRun, (t.zone 2).reasons.sync)) =
       some (false, 0, false)) := by
  decide +kernel

theorem test_witness_time_requests :
    let p : List Byte := [0, 0, 0, 0, 0, 0, 1, 0xF4]
    AtHead (req 0x10 p) 0x10 (rq 0x10 p) ∧ p.length = 8 ∧ field p 0 8 % 500 = 0 ∧
    field p 0 8 ≤ 9000000000000000000 ∧ (req 0x10 p).hall < field p 0 8 ∧
    ¬ field [0, 0, 0, 0, 0, 0, 1, 0xF5] 0 8 % 500 = 0 ∧ field [0, 0, 0, 0, 0, 0, 0, 0] 0 8 ≤ State.reset.hall ∧
    (∀ z, ¬ Busy (req 0x10 p) z) ∧ (∀ z, ((req 0x10 p).zone z).pendingStart = none) ∧
    Busy (inState (req 0x10 p) .run) 0 ∧
    AtHead (req 0x12 [2]) 0x12 (rq 0x12 [2]) ∧ field [2] 0 1 = SyncRole.follower.code ∧ 2 < field [3] 0 1 ∧
    (∀ z : ZoneId, ((req 0x12 [2]).zone z).state = .idle) ∧
    (∃ z : ZoneId, ((inState (req 0x12 [2]) .ready).zone z).state ≠ .idle) := by
  refine ⟨atHead _ _ _ rfl, by decide +kernel, by decide +kernel, by decide +kernel, by decide +kernel,
    by decide +kernel, by decide +kernel, ?_, by decide +kernel, Or.inl rfl, atHead _ _ _ rfl,
    by decide +kernel, by decide +kernel, by decide +kernel, by decide +kernel⟩
  unfold Busy
  decide +kernel

theorem test_witness_feedback :
    (DriveStatus.normal = .normal) ∧ (State.reset.chan 0).state = .off ∧
    (let s := withChan State.reset 0 fun c => { c with state := .standby }
     (s.chan 0).dryRun = false ∧ (s.chan 0).state = .standby) ∧
    (let s := withZone (withChan State.reset 0 fun c => { c with state := .active }) 2
      fun z => { z with state := .run, members := 1 }
     (s.chan 0).state = .active ∧ s.zoneOf 0 = some 2) := by decide +kernel

/-- 05 R85, R86 and 06 R115: a member of zone 2 loses its pressure; what its zone, in a state and with these
members, comes to, and the raise. -/
theorem test_feedback_raises :
    let lose (x : ZoneState) (members : BitVec 8) : Result :=
      exec (.feedbackArrival 0 0 0 .pressureLow) (withZone
        (withChan State.reset 0 fun c => { c with state := .active }) 2 fun z => { z with state := x, members })
    ([(.run, 3), (.run, 1), (.unload, 3), (.unload, 1), (.safe, 1)] : List (ZoneState × BitVec 8)).map
      (fun x => after (lose x.1 x.2) fun t => (t.zone 2).state) =
      [some .unload, some .safe, some .unload, some .safe, some .safe] ∧
    after (lose .run 1) (fun t => t.zs.alarms.map fun e => (e.source, e.zone, e.severity, e.cycle)) =
      some [(.actuator 0, 2, .major, none)] := by decide +kernel

/-- A CONFIGURE ACTUATOR payload for the actuators `m`: F max 1000, rate step `rate`, the rest 0. -/
def actuatorConfig (m rate : Byte) : List Byte :=
  [m, 0, 0, 0, 0, 0, 0, 3, 0xE8, 0, 0, 0, rate, 0, 0, 0, 0, 0, 0, 0, 0, 0, 0, 0, 20] ++
  [0, 0, 0, 0, 0, 0, 0, 0, 0, 0, 0, 0, 0]

theorem test_witness_configure_actuator :
    AtHead (req 0x20 (actuatorConfig 1 50)) 0x20 (rq 0x20 (actuatorConfig 1 50)) ∧
    (actuatorConfig 1 50).length = 38 ∧
    (reply (exec .configureActuator (req 0x20 (actuatorConfig 1 50)))).take 2 = [0x20, 0] ∧
    reply (exec .configureActuator (req 0x20 (actuatorConfig 0 50))) = [0x20, 2] ∧
    reply (exec .configureActuator (req 0x20 (actuatorConfig 1 0))) = [0x20, 2] ∧
    reply (exec .configureActuator (withZone (req 0x20 (actuatorConfig 1 50)) 0
      fun z => { z with state := .run, members := 1 })) = [0x20, 6] :=
  ⟨atHead _ _ _ rfl, by decide +kernel⟩

theorem test_witness_channel_requests :
    (∀ k : Byte, AtHead (req k [7]) k (rq k [7])) ∧ field [7] 0 1 = (7 : ActId).val ∧ 7 < field [8] 0 1 ∧
    (let s := withChan (req 0x21 [7]) 7 fun c => { c with seen := true }
     (s.chan 7).state = .off ∧ (s.chan 7).seen = true) ∧ ((req 0x21 [7]).chan 7).seen = false ∧
    (let s := withChan (req 0x26 [7]) 7 fun c => { c with state := .fault }
     (s.chan 7).state = .fault ∧ s.zoneOf 7 = none) ∧
    (let s := withZone (req 0x26 [7]) 0 fun z => { z with state := .hold, members := 128 }
     s.zoneOf 7 = some 0 ∧ (s.zone 0).state ≠ .idle) ∧
    (let s := withZone (req 0x22 [7]) 3 fun z => { z with members := 128 }
     s.zoneOf 7 = some 3 ∧ (s.zone 3).state = .idle) ∧
    (let s := withChan (req 0x23 [7, 0]) 7 fun c => { c with dryRun := true }
     (s.chan 7).state = .off ∧ (s.chan 7).dryRun = true ∧ (s.chan 7).seen = false ∧
     field [7, 0] 1 1 = false.toNat) := by
  refine ⟨fun k => atHead _ _ _ rfl, by decide +kernel⟩

/-- 03 R37 and 11 R189: fields at the ends of their ranges, and one beyond. -/
theorem test_witness_fields :
    let ramp (bits rate action : Byte) : List Byte :=
      [1, bits, 0xFF, 0xD2, 0x39, 0x40, 0, 0x0F, 0x42, rate, 0, 9, action]
    let cycle (bits offset action : Byte) : List Byte :=
      [3, bits, 0, 0x2D, 0xC6, 0xC0, 0, 0x2D, 0xC6, 0xC0, 0, 0, 0, 0, 3, offset, 0, 9, action]
    readSegment (ramp 6 0x40 1) = some (.ramp ⟨-3000000, 1000000, some 9, .holdZone⟩) ∧
    readSegment (ramp 0 0x40 1) = some (.ramp ⟨-3000000, 1000000, none, .next⟩) ∧
    [ramp 6 0x41 1, ramp 8 0x40 1, ramp 1 0x40 1, ramp 4 0x40 2].map readSegment = List.replicate 4 none ∧
    readSegment (cycle 7 0xFF 0) = some (.cycle ⟨3000000, 3000000, 0, 1023, some 9, .next⟩) ∧
    readSegment (cycle 0 0xFF 1) = some (.cycle ⟨3000000, 3000000, 0, 0, none, .next⟩) ∧
    (cycle 0 0 0).length = 19 ∧ (ramp 0 0 0).length = 13 ∧
    (readCapture [1, 5, 255, 7, 0xFF, 3, 15, 0] 1).isSome ∧ (readCapture [1, 4, 7, 7, 0xFF, 3, 15, 1] 1).isSome ∧
    [[1, 4, 8, 7, 0xFF, 3, 15, 1], [1, 6, 0, 7, 0xFF, 3, 15, 1], [1, 0, 0, 7, 0xFF, 3, 15, 1],
      [1, 5, 0, 8, 0, 3, 15, 1], [1, 5, 0, 7, 0xFF, 4, 15, 1], [1, 5, 0, 7, 0xFF, 3, 16, 1],
      [1, 5, 0, 7, 0xFF, 3, 15, 2]].map (readCapture · 1) = List.replicate 7 none := by decide +kernel

theorem test_witness_segments :
    let dwell : List Byte := [2, 0, 0, 0, 0, 5, 0, 0, 0]
    let far : List Byte := [2, 0, 0, 0, 0, 0, 0, 0, 0]
    AtHead (req 0x24 ([3, 1] ++ dwell)) 0x24 (rq 0x24 ([3, 1] ++ dwell)) ∧
    cutSegments 1 dwell = some [dwell] ∧ cutSegments 2 dwell = none ∧ cutSegments 1 (4 :: dwell) = none ∧
    readAll readSegment [dwell] = some [.dwell ⟨5, none, .next⟩] ∧ readAll readSegment [far] = none ∧
    (∀ a : ActId, ((req 0x24 []).chan a).queued.length ≤ 32 - 8) ∧
    (let s := withChan (req 0x24 []) 1 fun c => { c with queued := List.replicate 32 (.dwell ⟨5, none, .next⟩) }
     32 - 1 < (s.chan 1).queued.length) ∧
    AtHead (req 0x25 [1, 1]) 0x25 (rq 0x25 [1, 1]) ∧ field [1, 0] 1 1 = 0 ∧ field [1, 1] 1 1 = 1 ∧
    1 < field [1, 2] 1 1 ∧ byteAt [1, 1] 0 ≠ 0 ∧ (req 0x25 [1, 1]).zoneOf 0 = none ∧
    (withZone (req 0x25 [1, 1]) 0 fun z => { z with state := .run, members := 1 }).zoneOf 0 = some 0 := by
  refine ⟨atHead _ _ _ rfl, by decide +kernel, by decide +kernel, by decide +kernel, by decide +kernel,
    by decide +kernel, by decide +kernel, by decide +kernel, atHead _ _ _ rfl, by decide +kernel⟩

theorem test_witness_pipeline :
    (-3000000 : Int) ≤ -3000000 ∧ (10 : Nat) ≤ 10 ∧ (20000 : Nat) ≤ 20000 ∧ ChannelConfig.reset.fMin ≤ 0 ∧
    (let c : Channel := { Channel.reset with cfg := { ChannelConfig.reset with kp := 65535 } }
     32767 < roundDiv (c.cfg.kp * 3000) 4096 ∧ roundDiv (c.cfg.kp * (-3000)) 4096 < -32767) ∧
    ChannelConfig.reset.fMin ≤ ChannelConfig.reset.fMax ∧
    (let c : Channel := { Channel.reset with
       prev := 2999999, cfg := { ChannelConfig.reset with rateStep := 5, fMax := 3000000 } }
     let d := (c.clamps 3000001).1
     d.p0 = 3000000 ∧ d.limitFlag = true ∧ d.limitClamps = 1 ∧ d.rateFlag = false ∧
     (c.clamps 3000000).1.limitFlag = false ∧ (c.clamps (-3000001)).1.p0 = -3000000) := by decide +kernel

/-- A member of zone 0 as it reads the zone in the state `x` at its strobe `n`, with two cycles of ramp-in and
of ramp-out, an unload rate of 4000 daN/s and the default cycle rate (a wrap at 2000). -/
def sight (x : ZoneState) (n : Option Nat) : ZoneView := ⟨0, x, false, n, 2147484, 2, 2, 4000, false⟩
/-- An ACTIVE channel with this current segment and this queue. -/
def doing (g : Option Current) (q : List Segment) : Channel :=
  { Channel.reset with state := .active, current := g, queued := q }

/-- 03 R42 to R52, 04 R61 to R63: one update of each kind of program, clause by clause. -/
theorem test_witness_program :
    let ramp (target : Int) : Current := .ramp ⟨target, 2000, some 3, .holdZone⟩ 1000
    let dwell (left : Nat) : Current := .dwell ⟨5, none, .next⟩ left
    let next : CycleSegment := ⟨0, 10, 1, 0, none, .next⟩
    ([(doing (some (ramp 9)) [], .run), (doing (some (ramp 1)) [], .run), (doing (some (dwell 1)) [], .run),
      (doing (some (dwell 2)) [], .run), (doing none [.dwell ⟨5, none, .next⟩], .run),
      (doing none [.cycle next], .run), (doing (some (ramp 9)) [], .hold),
      ({ doing (some (ramp 9)) [] with prev := 5 }, .unload), ({ doing none [] with prev := 5 }, .safe),
      ({ doing none [] with prev := 5 }, .ready)] : List (Channel × ZoneState)).map
      (fun x => let r := x.1.profile (some (sight x.2 (some 7)))
        (r.p0, r.holdZone, r.chan.current)) =
    [(1, false, some (ramp 9)), (1, true, none), (0, false, none), (0, false, some (dwell 1)),
      (0, false, some (dwell 9)), (0, false, some (.cycle next .waiting)), (0, false, some (ramp 9)),
      (3, false, none), (0, false, none), (5, false, none)] ∧
    ((doing none [.ramp ⟨9, 2000, none, .next⟩]).profile (some (sight .run (some 7)))).p0 = 1 ∧
    ((doing none []).profile (some (sight .run (some 7)))).chan.underrunFlag = true := by decide +kernel

/-- 03 R45 to R51, 04 R64 to R66: a CYCLE at its wraps, after a RESUME and in HOLD. -/
theorem test_witness_cycle :
    let g : CycleSegment := ⟨100, 10, 2, 256, none, .next⟩
    let cycling (n : Nat) : Channel := { doing (some (.cycle g (.cycling n))) [] with k := n, aHold := 10 }
    let waiting : Channel := doing (some (.cycle g .waiting)) []
    isWrap 2147484 2000 = true ∧ isWrap 2147484 1999 = false ∧
    ([(waiting, .run, 1999), (waiting, .run, 2000), (cycling 0, .run, 1999), (cycling 0, .run, 2000),
      (cycling 1, .run, 2000), ({ doing none [.cycle g] with afterCycle := true, k := 3 }, .run, 7),
      ({ doing none [.cycle g] with afterCycle := true, k := 3 }, .run, 0), (doing none [.cycle g], .run, 2000),
      (waiting, .run, 0), (cycling 1, .run, 0), (cycling 1, .hold, 7), (cycling 1, .hold, 2000),
      ({ cycling 1 with j := 1 }, .hold, 2000)] : List (Channel × ZoneState × Nat)).map
      (fun x => let r := x.1.profile (some (sight x.2.1 (some x.2.2)))
        (r.p0, r.chan.current.isSome, r.chan.isCycling, r.chan.aEff)) =
    [(0, true, false, 0), (105, true, true, 5), (100, true, true, 0), (110, true, true, 10),
      (100, false, false, 0), (110, true, true, 10), (110, true, true, 10), (0, true, false, 0),
      (0, true, false, 0), (105, true, true, 5),
      (110, true, true, 10), (105, true, true, 5), (100, true, true, 0)] ∧
    (let start (n : Nat) (c : Channel) : Int × Bool × Int :=
       let r := { c with prev := 7 }.profile (some { sight .run (some n) with started := true })
       (r.p0, r.chan.isCycling, r.chan.programValue)
     [start 0 waiting, start 0 (doing none [.cycle g]), start 2000 waiting, start 2000 (doing none [.cycle g])] =
       [(7, false, 7), (7, false, 7), (105, true, 7), (7, false, 7)]) := by decide +kernel

/-- 04 R57, R73, R74 and 05 R82 to R86: one update of a channel, with and without a fault cause. -/
theorem test_witness_update :
    let c : Channel := { doing (some (.cycle ⟨0, 100, 0, 0, none, .next⟩ (.cycling 4))) [] with
      wasCycling := true, aligned := true, aEff := 100, track := some (50, -30), fresh := true
      cfg := { ChannelConfig.reset with fMin := -500, fMax := 500, adapt := 16, rateStep := 400 } }
    let view := sight .run (some 2000)
    (c.program (some view)).chan.gain = 16998 ∧ (c.program (some view)).chan.track = none ∧
    ({ c with track := none }.program (some view)).chan.gain = 16384 ∧
    (c.program (some (sight .run (some 1999)))).chan.track = some (50, -30) ∧
    (c.program (some (sight .run (some 0)))).chan.track = none ∧
    ({ c with aligned := false }.program (some (sight .run (some 0)))).chan.aligned = true ∧
    ({ doing none [.cycle ⟨0, 100, 0, 0, none, .next⟩] with
      afterCycle := true, aligned := true }.program (some (sight .run (some 0)))).chan.aligned = false ∧
    (c.update (some view) 9).2.fault = false ∧ (c.update none 9).1.state = .active ∧
    ({ c with fresh := false, staleRun := 3 }.update (some view) 9).2.fault = true ∧
    ({ c with fresh := false, staleRun := 3 }.update (some view) 9).1.causes = ⟨false, false, true, false⟩ ∧
    ({ c with measured := ⟨0, 100001, .normal⟩ }.update none 9).1.causes = ⟨false, true, false, false⟩ ∧
    ({ c with cfg := { c.cfg with tolerance := 1, trackCount := 5 }, trackRun := 5, prev := 50 }.update
      none 9).1.causes = ⟨true, false, false, false⟩ ∧
    ({ c with dryRun := true, fresh := false, staleRun := 3 }.update none 9).2.fault = false ∧
    ({ c with state := .standby }.update none 9).1.state = .standby := by decide +kernel

/-- A DEFINE ZONE payload for zone 3: members, unload rate, window presence and bounds, capture, every-Nth. -/
def zoneConfig (members rate window lo hi capture nth : Byte) : List Byte :=
  [3, members, 0, 0, 0, 0, 0, rate, window, 0, 0, 0, lo, 0, 0, 0, hi, capture, 0, nth]

theorem test_witness_define_zone :
    let p := zoneConfig 1 1 1 5 5 3 1
    AtHead (req 0x30 p) 0x30 (rq 0x30 p) ∧ p.length = 20 ∧ field p 0 1 = (3 : ZoneId).val ∧
    PhaseCapture.both.code = field p 17 1 ∧
    (reply (exec .defineZone (req 0x30 p))).take 3 = [0x30, 0, 0] ∧
    (reply (exec .defineZone (req 0x30 (zoneConfig 0 1 0 9 5 0 1)))).take 2 = [0x30, 0] ∧
    ([zoneConfig 1 0 0 0 0 0 1, zoneConfig 1 1 2 0 0 0 1, zoneConfig 1 1 1 6 5 0 1, zoneConfig 1 1 0 0 0 4 1,
      zoneConfig 1 1 0 0 0 0 0].map fun q => reply (exec .defineZone (req 0x30 q))) =
        List.replicate 5 [0x30, 2] ∧
    reply (exec .defineZone (withZone (req 0x30 p) 0 fun z => { z with members := 1 })) = [0x30, 3] ∧
    reply (exec .defineZone (withZone (req 0x30 p) 3 fun z => { z with state := .safe })) = [0x30, 3] := by
  refine ⟨atHead _ _ _ rfl, by decide +kernel⟩

theorem test_witness_cycle_rate_and_count :
    AtHead (req 0x31 [0, 0, 10]) 0x31 (rq 0x31 [0, 0, 10]) ∧ field [0, 0, 10] 1 2 = 10 ∧
    field [0, 0, 9] 1 2 < 10 ∧ field [0, 0x4E, 0x20] 1 2 = 20000 ∧ 20000 < field [0, 0x4E, 0x21] 1 2 ∧
    Busy (inState (req 0x31 [0, 0, 10]) .unload) 0 ∧ ¬ Busy (inState (req 0x31 [0, 0, 10]) .safe) 0 ∧
    AtHead (req 0x39 [3]) 0x39 (rq 0x39 [3]) ∧ AtHead (req 0x38 [3]) 0x38 (rq 0x38 [3]) ∧
    field [3] 0 1 = (3 : ZoneId).val ∧ 3 < field [4] 0 1 ∧ ((req 0x38 [3]).zone 3).state = .idle ∧
    ((inState (req 0x38 [0]) .safe).zone 0).state ≠ .idle := by
  refine ⟨atHead _ _ _ rfl, by decide, by decide, by decide, by decide, Or.inr (Or.inr (by decide +kernel)),
    ?_, atHead _ _ _ rfl, atHead _ _ _ rfl, by decide +kernel⟩
  unfold Busy
  decide +kernel

/-- Zone 0 with the member 0, whose feedback has been seen. -/
def ready (s : State) (x : ZoneState) : State :=
  withZone (withChan s 0 fun c => { c with seen := true }) 0 fun z => { z with state := x, members := 1 }
/-- An entry of an alarm for zone 0. -/
def entry (n : LoopId) (v : Severity) : AlarmEntry := ⟨.loop n, 0, v, 0, none, 1, false⟩
/-- The part with these alarms. -/
def alarms (s : State) (l : List AlarmEntry) : State := { s with zs := { s.zs with alarms := l } }

theorem test_witness_prepare :
    AtHead (ready (req 0x32 [0]) .idle) 0x32 (rq 0x32 [0]) ∧
    (let s := ready (req 0x32 [0]) .idle
     (s.zone 0).state = .idle ∧ (s.zone 0).members ≠ 0 ∧ s.scv.zeroOp = none ∧
     (∀ a : ActId, (s.zone 0).members.getLsbD a = true →
       (s.chan a).state ≠ .fault ∧ (s.chan a).seen = true)) ∧
    ((req 0x32 [0]).zone 0).members = 0 ∧
    ({ StrainConverter.reset with zeroOp := some ⟨none⟩ } : StrainConverter).zeroOp ≠ none := by
  refine ⟨atHead _ _ _ rfl, by decide +kernel⟩

theorem test_witness_start :
    let now : List Byte := [0, 0, 0, 0, 0, 0, 0, 0, 0, 0]
    let at' : List Byte := [0, 1, 0, 0, 0, 0, 0, 0, 1, 0xF4]
    let s := ready (req 0x33 now) .ready
    AtHead s 0x33 (rq 0x33 now) ∧ now.length = 10 ∧ field now 0 1 = (0 : ZoneId).val ∧ field now 1 1 = 0 ∧
    field at' 1 1 = 1 ∧ field at' 2 8 % 500 = 0 ∧ field at' 2 8 ≤ s.hall + 60000000 ∧ s.hall < field at' 2 8 ∧
    (s.zone 0).state = .ready ∧ ¬ Blocked s 0 ∧ Blocked (alarms s [entry 0 .minor]) 0 ∧
    ¬ Blocked (alarms s [entry 0 .info]) 0 ∧ s.tb.pendingSet = none ∧
    reply (exec .start (ready (req 0x33 [0, 1, 0, 0, 0, 0, 0, 0, 0, 0]) .ready)) = [0x33, 5] ∧
    reply (exec .start (ready (req 0x33 [0, 1, 0, 0, 0, 0, 0, 0, 1, 0xF5]) .ready)) = [0x33, 2] ∧
    reply (exec .start (ready (req 0x33 [0, 1, 0, 0, 0, 0, 3, 0x93, 0x88, 0xF4]) .ready)) = [0x33, 2] ∧
    reply (exec .start (withZone s 0 fun z => { z with pendingStart := some 500 })) = [0x33, 7] := by
  refine ⟨atHead _ _ _ rfl, by decide, by decide, by decide, by decide, by decide, by decide +kernel,
    by decide +kernel, by decide +kernel, ?_, ?_, ?_, by decide +kernel⟩ <;> unfold Blocked <;> decide +kernel

theorem test_witness_hold_and_unload :
    let s := ready (req 0x34 [0]) .run
    let cycling := withChan s 0 fun c =>
      { c with current := some (.cycle ⟨0, 10, 0, 0, none, .next⟩ (.cycling 0)) }
    let failed := withChan s 0 fun c => { c with state := .fault }
    AtHead s 0x34 (rq 0x34 [0]) ∧ AtHead (ready (req 0x36 [0]) .run) 0x36 (rq 0x36 [0]) ∧
    (s.zone 0).state = .run ∧ (cycling.chan 0).isCycling = true ∧ (∀ a, (s.chan a).isCycling = false) ∧
    ((ready (req 0x34 [0]) .hold).zone 0).reasons.request = false ∧
    ((withZone (ready (req 0x34 [0]) .hold) 0 fun z =>
      { z with reasons := ⟨true, false, false, false⟩ }).zone 0).reasons.request = true ∧
    ((s.zone 0).members.getLsbD 0 = true ∧ (s.chan 0).state ≠ .fault) ∧
    (∀ a : ActId, (failed.zone 0).members.getLsbD a = true → (failed.chan a).state = .fault) ∧
    ((ready (req 0x36 [0]) .safe).zone 0).state = .safe := by
  refine ⟨atHead _ _ _ rfl, atHead _ _ _ rfl, by decide +kernel⟩

theorem test_witness_resume_and_release :
    let s := ready (req 0x35 [0]) .hold
    let left : HoldReasons := ⟨false, false, true, false⟩
    let b := alarms (withZone s 0 fun z => { z with reasons := left }) [entry 0 .major]
    AtHead s 0x35 (rq 0x35 [0]) ∧ AtHead (ready (req 0x37 [0]) .safe) 0x37 (rq 0x37 [0]) ∧
    (s.zone 0).state = .hold ∧ ¬ Blocked s 0 ∧ (s.zone 0).reasons = ⟨false, false, false, false⟩ ∧
    Blocked b 0 ∧ (b.zone 0).reasons.alarm = true ∧ left ≠ ⟨false, false, false, false⟩ ∧
    ((ready (req 0x37 [0]) .ready).zone 0).state = .ready ∧
    ((ready (req 0x37 [0]) .safe).zone 0).state = .safe ∧
    ((ready (req 0x37 [0]) .run).zone 0).state ≠ .safe := by
  refine ⟨atHead _ _ _ rfl, atHead _ _ _ rfl, by decide +kernel, ?_, by decide +kernel, ?_,
    by decide +kernel⟩ <;> unfold Blocked <;> decide +kernel

theorem test_witness_ack_alarm :
    AtHead (alarms (req 0x3B [0, 1, 31, 0]) [entry 31 .major]) 0x3B (rq 0x3B [0, 1, 31, 0]) ∧
    AlarmSource.ofCode 1 31 = some (.loop 31) ∧ AlarmSource.ofCode 1 32 = none ∧ AlarmSource.ofCode 7 0 = none ∧
    reply (exec .ackAlarm (alarms (req 0x3B [0, 1, 31, 0]) [entry 31 .major])) = [0x3B, 0, 1, 0] ∧
    reply (exec .ackAlarm (alarms (req 0x3B [1, 0, 0, 0]) [entry 31 .major, entry 2 .info])) =
      [0x3B, 0, 2, 0] ∧
    reply (exec .ackAlarm (req 0x3B [1, 0, 0, 4])) = [0x3B, 2] ∧
    reply (exec .ackAlarm (req 0x3B [2, 0, 0, 0])) = [0x3B, 0, 0, 0] ∧
    reply (exec .ackAlarm (req 0x3B [3, 0, 0, 0])) = [0x3B, 2] := by
  refine ⟨atHead _ _ _ rfl, by decide +kernel⟩

theorem test_witness_raise :
    let full (v : Severity) : List AlarmEntry := (List.finRange 16).map fun (n : Fin 16) =>
      entry (n.castLE (by decide)) (if n = 3 then v else .major)
    (full .info).length = 16 ∧ (∀ e ∈ full .info, e.source ≠ .loop 31) ∧
    (full .info)[3].severity = .info ∧ (∀ f ∈ (full .info).take 3, f.severity ≠ .info) ∧
    (∀ e ∈ full .minor, e.severity ≠ .info) ∧
    ([] ++ entry 2 .minor :: [] : List AlarmEntry) = [entry 2 .minor] := by decide +kernel

/-- The part at the strobe 500 n, with zone 0 in the state `x`, its clock running from 0, and the member 0. -/
def atStrobe (n : Nat) (x : ZoneState) (c : Channel) : State :=
  withChan (withZone { role .internal false 0 0 0 with tb := { TimeBase.reset with strobeNumber := n } } 0
    fun z => { z with state := x, members := 1, clockRunning := true, nout := 2, capture := .both, guardRun := 3 })
    0 fun _ => { c with fresh := true }
/-- What the update of the member 0 hands over at that strobe. -/
def handsOver (n : Nat) (x : ZoneState) (c : Channel) : Outcomes :=
  let s := atStrobe n x c
  ((s.chan 0).update (s.viewOf (fun _ => false) 0) s.strobeHall).2

theorem test_witness_clock_work :
    let c : Channel := { doing none [] with wasCycling := true }
    let s (n : Nat) : State := atStrobe n .run c
    let old := (s 0).ac
    (State.reset.zone 0).clockRunning = false ∧ ((s 0).zone 0).origin ≤ 0 ∧
    (s 0).strobeHall < ({ (s 0).zone 0 with origin := 500 } : Zone).origin ∧
    old[(0 : ActId)].wasCycling = true ∧ ((s 0).zone 0).members.getLsbD (0 : ActId) = true ∧
    ((s 2000).clockWork old 0).zone.cycleCount = 1 ∧
    (let full := (withZone (s 2000) 0 fun z =>
       { z with everyNth := 9, cycleCount := 4294967295, counter := 5 }).clockWork old 0
     full.zone.cycleCount = 4294967295 ∧ full.zone.counter = 5) ∧
    ((s 1999).clockWork old 0).zone.cycleCount = 0 ∧
    ((s 500).clockWork old 0).capture.map PhaseRequest.peak = some true ∧
    ((s 1500).clockWork old 0).capture.map PhaseRequest.peak = some false ∧
    ((s 501).clockWork old 0).capture = none ∧
    ((withZone (s 500) 0 fun z => { z with counter := 1 }).clockWork old 0).capture = none ∧
    ([((0 : Int), (5 : Int)), (1, 5)].map fun w =>
      ((withZone (s 7) 0 fun z => { z with window := some w }).clockWork old 0).total) = [false, true] ∧
    ((withZone (s 7) 0 fun z => { z with window := some (1, 5), guardRun := 2 }).clockWork old 0).total = false ∧
    ({ AeRecord.reset with threshold := 1, cycle := 1 }.windowWork.2 = true ∧
     { AeRecord.reset with threshold := 2, cycle := 1 }.windowWork.2 = false) := by decide +kernel

theorem test_witness_strobe_work :
    let out : Channel := { doing (some (.cycle ⟨0, 10, 2, 0, none, .next⟩ (.cycling 1))) [] with j := 1 }
    let last : Channel := doing (some (.dwell ⟨5, none, .holdZone⟩ 1)) []
    let window (v : Severity) : AeRecord :=
      { AeRecord.reset with enabled := true, severity := v, threshold := 1, cycle := 1 }
    ((atStrobe 2000 .hold out).updated fun _ => false).wrapsAt 0 = true ∧
    ((withZone (atStrobe 2000 .hold out) 0 fun z => { z with sub := .rampingOut }).updated
      fun _ => false).ramped 0 = true ∧
    (handsOver 7 .unload (doing none [])).atSafe = true ∧ (handsOver 7 .unload last).holdZone = false ∧
    (handsOver 7 .run last).holdZone = true ∧
    (handsOver 7 .run { last with measured := ⟨0, 100001, .normal⟩ }).fault = true ∧
    (atStrobe 7 .run last).zoneOf 0 = some 0 ∧ (atStrobe 7 .run last).zoneOf 1 = none ∧
    (window .minor).windowWork.2 = true ∧ (window .major).windowWork.2 = true ∧
    ((withZone (atStrobe 7 .run last) 0 fun z =>
      { z with window := some (1, 5) }).clockWork (atStrobe 7 .run last).ac 0).total = true ∧
    OneZoneEach (atStrobe 7 .run last) ∧
    (let t := withZone (atStrobe 0 .ready last) 0 fun z => { z with pendingStart := some 500 }
     (t.zone 0).startsAt (500 * (t.tb.strobeNumber + 1)) = true ∧ t.scv.zeroOp = none ∧ t.standing 0 = false) ∧
    (role .follower false 0 0 0).tb.syncLost = false := by
  refine ⟨?_, ?_, ?_, ?_, ?_, ?_, ?_, ?_, ?_, ?_, ?_, ?_, ?_, ?_⟩ <;> (try unfold OneZoneEach) <;> decide +kernel

/-- What raises leave: the alarms, each with its source, zone, severity and time, and zone 0. -/
structure Worked where
  alarms : List (AlarmSource × ZoneId × Severity × Nat)
  state  : ZoneState
  sub    : HoldSub
  deriving DecidableEq

/-- That of the part `t`. -/
def leaves (t : State) : Worked :=
  ⟨t.zs.alarms.map fun e => (e.source, e.zone, e.severity, e.raised), (t.zone 0).state, (t.zone 0).sub⟩

/-- 05 R86, 06 R105, R111, R112, R115, R116 and 10 R183: the raises of a strobe that has one cause, and of one
that has none; and the zone after it. -/
theorem test_strobe_raises :
    let worked (s : State) : Worked := leaves (s.strobeWork (fun _ => false) false false)
    let idle : Channel := doing none []
    let window (v : Severity) : State := (atStrobe 2000 .run idle).setAe 0
      { AeRecord.reset with enabled := true, severity := v, threshold := 1, cycle := 1 }
    let ramping (n : Nat) (j : Nat) : State := withZone (atStrobe n .hold
      { doing (some (.cycle ⟨0, 10, 2, 0, none, .next⟩ (.cycling 1))) [] with j }) 0
      fun z => { z with sub := .rampingOut }
    let far : Channel := { idle with prev := 20000, cfg := { ChannelConfig.reset with fMax := 30000 } }
    worked (atStrobe 7 .run idle) = ⟨[], .run, .held⟩ ∧
    worked (atStrobe 7 .run { idle with measured := ⟨0, 100001, .normal⟩ }) =
      ⟨[(.actuator 0, 0, .major, 3500)], .safe, .held⟩ ∧
    worked (withZone (atStrobe 7 .run idle) 0 fun z => { z with window := some (1, 5) }) =
      ⟨[(.total 0, 0, .major, 3500)], .unload, .held⟩ ∧
    worked (window .minor) = ⟨[(.ae 0, 0, .minor, 1000000)], .hold, .held⟩ ∧
    worked (window .info) = ⟨[(.ae 0, 0, .info, 1000000)], .run, .held⟩ ∧
    leaves ((atStrobe 7 .run idle).syncLoss ⟨.sync 0, 0, .info, none⟩) =
      ⟨[(.sync 0, 0, .info, 3500)], .hold, .held⟩ ∧
    leaves ((atStrobe 7 .idle idle).syncLoss ⟨.sync 0, 0, .info, none⟩) = ⟨[], .idle, .held⟩ ∧
    worked (ramping 7 0) = ⟨[], .hold, .rampingOut⟩ ∧
    worked (ramping 2000 0) = ⟨[], .hold, .rampingOut⟩ ∧
    worked (ramping 2000 1) = ⟨[], .hold, .held⟩ ∧
    worked (atStrobe 7 .unload far) = ⟨[], .unload, .held⟩ ∧
    (∀ z : ZoneId, (((atStrobe 7 .run idle).updated fun _ => false).clockWork
      (atStrobe 7 .run idle).ac z).capture = none) := by decide +kernel

/-- A HOLD entered: the zone's clock, and the hold amplitude and ramp-out count of its member 0. -/
structure Entered where
  clock : Bool
  aHold : Nat
  j     : Nat
  deriving DecidableEq

/-- 06 R111, 03 R50: the HOLD that a MINOR raise and a MINOR window of a strobe bring, with a cycling member
and without one; a raise that finds no place and the overflow flag set (log 23). -/
theorem test_hold_entered :
    let member (t : State) : Entered := ⟨(t.zone 0).clockRunning, (t.chan 0).aHold, (t.chan 0).j⟩
    let cycling : Channel :=
      { doing (some (.cycle ⟨0, 10, 0, 0, none, .next⟩ (.cycling 1))) [] with aEff := 10, j := 3 }
    let window (c : Channel) : State := (atStrobe 2000 .run c).setAe 0
      { AeRecord.reset with enabled := true, severity := .minor, threshold := 1, cycle := 1 }
    let full : State := alarms State.reset ((List.finRange 16).map fun (n : Fin 16) =>
      entry (n.castLE (by decide)) .major)
    member ((atStrobe 7 .run cycling).raise ⟨.loop 0, 0, .minor, none⟩) = ⟨true, 10, 0⟩ ∧
    member ((atStrobe 7 .run (doing none [])).raise ⟨.loop 0, 0, .minor, none⟩) = ⟨false, 0, 0⟩ ∧
    member ((window cycling).strobeWork (fun _ => false) false false) = ⟨true, 10, 0⟩ ∧
    member ((window (doing none [])).strobeWork (fun _ => false) false false) = ⟨false, 0, 0⟩ ∧
    (full.raise ⟨.loop 31, 0, .info, none⟩).lp.alarmPending = true ∧
    ({ full with zs := { full.zs with overflow := true } }.raise
      ⟨.loop 31, 0, .info, none⟩).lp.alarmPending = false ∧
    ((inState { full with zs := { full.zs with overflow := true } } .run).raise
      ⟨.loop 31, 0, .minor, none⟩).lp.alarmPending = true := by decide +kernel

/-- 07 R129, R131: a crossing captured at a strobe with no scan in flight starts its scan, which here involves
no bank and completes at once; the gauge is newly written until the next strobe (11 R190, log 25). -/
theorem test_crossing_scanned :
    let s : State := atStrobe 500 .run
      { doing (some (.cycle ⟨0, 10, 0, 0, none, .next⟩ (.cycling 1))) [] with wasCycling := true }
    let t : State := { s with se := { s.se with
      scanList := [⟨3, 1⟩], banks := s.se.banks.set 0 { s.se.banks[(0 : BankId)] with online := false } } }
    let u : State := t.strobeWork (fun _ => false) false false
    u.se.slots[(0 : ZoneId)] = none ∧ u.se.scan = none ∧ (u.sq.records.map StrainRecord.kind) = [.peak] ∧
    u.scv.written = [3] ∧ (u.tbStrobe .oscillator).scv.written = [] ∧
    (u.scv.latest[(3 : GaugeId)]).flags.noData = true := by decide +kernel

/-- A strobe: OSCILLATOR_STROBE from reset comes 500 microseconds after it. -/
theorem test_witness_strobe_issued :
    (match exec .oscillatorStrobe State.reset with
      | .next t => t.tb.lastStrobeAt
      | _ => 0) = 500 ∧
    (match exec .oscillatorStrobe { State.reset with osc := 501 } with
      | .next t => t.tb.lastStrobeAt
      | _ => 1) = 501 ∧
    (∀ a, (State.reset.chan a).cfg.fMin ≤ (State.reset.chan a).cfg.fMax) ∧
    State.reset.cu.cfg.severity = .off := by decide +kernel

theorem test_witness_scan_arbiter :
    let p (z : ZoneId) (c : Nat) : PhaseRequest := ⟨z, true, 0, c, []⟩
    let e : ScanEngine := { ScanEngine.reset 0 with
      scanList := [⟨64, 1⟩], freeRequest := true, slots := Vector.ofFn fun z : Fin 4 => some (p z (9 - z.val / 2)) }
    (e.slots[(2 : ZoneId)] = some (p 2 8) ∧ ∀ y : ZoneId, ∀ q ∈ e.slots[y],
      (p 2 8).crossing < q.crossing ∨ ((p 2 8).crossing = q.crossing ∧ 2 ≤ y)) ∧
    (e.banks[(1 : BankId)].online = true ∧ ∃ g ∈ scanSet e.scanList, g.val / 64 = (1 : BankId).val) ∧
    (∀ z : ZoneId, (ScanEngine.reset 0).slots[z] = none) ∧ (ScanEngine.reset 0).zeroRequest = false ∧
    (ScanEngine.reset 0).freeRequest = false ∧ (ScanEngine.reset 0).scan = none ∧
    (ScanEngine.reset 0).banks[(1 : BankId)].settlingUntil ≠ none := by decide +kernel

/-- A scan that awaits these banks. -/
def scanning (banks : List BankId) : Scan :=
  ⟨.free, 0, [], none, 0, Vector.ofFn fun b : Fin 4 => banks.contains b, Vector.replicate 4 none⟩
/-- The part with bank 0 free of settling, with an outstanding conversion. -/
def banking (c : Option Conversion) : State :=
  { role .internal false 0 0 0 with se := { ScanEngine.reset 0 with
    scan := some (scanning [0, 1])
    bankReset := some ⟨0, some 7⟩
    banks := (role .internal false 0 0 0).se.banks.set 0
      { Bank.reset 0 with settlingUntil := none, outstanding := c, timeoutAt := 400 } } }

theorem test_witness_bank_port :
    (State.reset.se.banks[(0 : BankId)]).settlingUntil ≠ none ∧
    (banking none).se.banks[(0 : BankId)].outstanding = none ∧
    (banking (some (.test 0))).se.banks[(0 : BankId)].outstanding = some (.test 0) ∧
    ([1, 2] : List Int).length ≠ 1 ∧
    (banking (some (.scan [3]))).se.banks[(0 : BankId)].settlingUntil = none ∧
    (∃ c : BankId, c ≠ 0 ∧ (scanning [0, 1]).awaiting[c] = true) ∧
    ((banking (some (.test 0))).expire (.bank 0)).isSome ∧ ((banking (some (.scan [3]))).expire (.bank 0)).isSome ∧
    ScansQuiet (banking (some (.test 0))) := by
  refine ⟨by decide +kernel, by decide +kernel, by decide +kernel, by decide, by decide +kernel,
    by decide +kernel, by decide +kernel, by decide +kernel, Or.inl ⟨_, rfl, 0, ?_⟩⟩
  decide +kernel

/-- Whether bank 0 is ONLINE, what its port has sent and what waits there, the timeouts in a row, and the
bank's part of the scan in flight. -/
structure Port where
  online      : Bool
  outstanding : Option Conversion
  waiting     : List Conversion
  consecutive : Nat
  part        : Option (Bool × Option (List Int))
  deriving DecidableEq

/-- That of the part `t`. -/
def port (t : State) : Port :=
  let k := t.se.banks[(0 : BankId)]
  ⟨k.online, k.outstanding, k.waiting, k.consecutive,
    t.se.scan.map fun x => (x.awaiting[(0 : BankId)], x.answers[(0 : BankId)])⟩

/-- 07 R133, R135, R137, R138: the conversion that waits is sent when the outstanding one ends; a port that
goes OFFLINE drops the scan part that waits; the deferred reply of a test, answered and timed out. -/
theorem test_waiting_conversions :
    let s (n : Nat) (c : List Conversion) : State :=
      let t := banking (some (.test 0))
      let u := { t with lp := { LinkPort.reset with reservations := 1 } }
      u.setBank 0 { u.se.banks[(0 : BankId)] with waiting := c, consecutive := n }
    after (exec (.bankAnswer 0 [5]) (s 2 [.scan [9]])) port =
      some ⟨true, some (.scan [9]), [], 0, some (true, none)⟩ ∧
    reply (exec (.bankAnswer 0 [5]) (s 2 [])) = [0x46, 0, 0, 0, 0, 0, 0, 5, 0, 0] ∧
    after (exec (.bankTimeout 0) (s 1 [.scan [9]])) port =
      some ⟨true, some (.scan [9]), [], 2, some (true, none)⟩ ∧
    after (exec (.bankTimeout 0) (s 2 [.scan [9]])) port =
      some ⟨false, none, [], 3, some (false, none)⟩ ∧
    (reply (exec (.bankTimeout 0) (s 2 []))).take 4 = [0x46, 0, 0, 1] ∧
    (reply (exec (.bankTimeout 0) (s 2 []))).drop 8 = [1, 3] := by decide +kernel

/-- 07 R129, R132, R136 and 08 R154: a scan's last answer, a scan without a bank, and a zero scan. -/
theorem test_witness_scan_completion :
    let x : Scan := { scanning [0] with gauges := [3], kind := .zero }
    let s : State := { banking (some (.scan [3])) with
      se := { (banking (some (.scan [3]))).se with scan := some x }
      scv := { StrainConverter.reset with zeroOp := some ⟨some 9⟩ }
      lp := { LinkPort.reset with reservations := 1 } }
    (∀ c : BankId, c ≠ 0 → x.awaiting[c] = false) ∧ (∀ z : ZoneId, s.se.slots[z] = none) ∧
    s.se.zeroRequest = false ∧ s.se.freeRequest = false ∧
    (s.expire (.bank 0)).isSome ∧ x.gauges = scanSet [⟨3, 1⟩] ∧
    reply (exec (.bankAnswer 0 [77]) s) = [0x45, 0, 0, 1, 0, 0, 0, 0] ∧
    after (exec (.bankAnswer 0 [77]) (s.setBank 0 { s.se.banks[(0 : BankId)] with waiting := [.test 0] }))
      (fun t => (t.se.scan, t.se.banks[(0 : BankId)].outstanding)) = some (none, some (.test 0)) ∧
    (let y : Scan := { x with answers := x.answers.set 0 (some [77]) }
     y.results = [(3, some 77)] ∧ ((s.zeroScan y).scv.zeros[(3 : GaugeId)] = 77) ∧
     (y.results.map Prod.fst).Nodup) ∧
    (∀ g ∈ scanSet State.reset.se.scanList, g.val / 64 ≠ (0 : BankId).val) ∧
    (let p : PhaseRequest := ⟨2, true, 0, 0, []⟩
     let full : ScanEngine := { s.se with slots := s.se.slots.set 2 (some p) }
     full.slots[p.zone] ≠ none ∧ (∀ z : ZoneId, z ≠ p.zone → full.slots[z] = none) ∧
     x.awaiting[(0 : BankId)] = true) := by decide +kernel

/-- 07 R131, R136: at a completion the request that waits starts its scan. -/
theorem test_completion_starts_the_next :
    let s : State := banking (some (.scan [3]))
    let t : State := { s with se := { s.se with
      scan := some { scanning [0] with gauges := [3] }, freeRequest := true, scanList := [⟨64, 1⟩] } }
    after (exec (.bankAnswer 0 [5]) t) (fun u => (u.se.scan.map Scan.gauges, u.se.freeRequest)) =
      some (some [64], false) ∧
    after (exec (.bankAnswer 0 [5]) t) (fun u => (u.scv.written, u.scv.latest[(3 : GaugeId)].time)) =
      some ([3], 0) := by decide +kernel

theorem test_witness_scan_timers :
    let s : State := { role .internal false 0 0 0 with se :=
      { (role .internal false 0 0 0).se with interval := 1, expiryAt := 500 } }
    (s.expire .freeScan).isSome ∧ s.se.freeRequest = false ∧ (∀ x ∈ s.se.scan, x.kind ≠ .free) ∧
    (scanning []).kind = .free ∧
    (({ s with se := (s.setBank 0 { Bank.reset 500 with waiting := [.test 0] }).se } : State).expire
      (.settling 0)).isSome ∧
    (Bank.reset 500).waiting = [] ∧ (Bank.reset 500).outstanding = none := by decide +kernel

theorem test_witness_scan_requests :
    AtHead (req 0x40 [1, 255, 64]) 0x40 (rq 0x40 [1, 255, 64]) ∧
    reply (exec .setScanList (req 0x40 [1, 255, 64])) = [0x40, 0, 0, 64, 0] ∧
    after (exec .bankReset { req 0x46 [3] with se := (role .internal false 0 0 0).se })
      (fun t => t.se.banks[(3 : BankId)].outstanding) = some (some (.test 192)) ∧
    reply (exec .setScanList (req 0x40 [1, 255, 65])) = [0x40, 2] ∧
    reply (exec .setScanList (req 0x40 [1, 255, 0])) = [0x40, 2] ∧
    reply (exec .setScanList (req 0x40 [0])) = [0x40, 0, 0, 0, 0] ∧
    reply (exec .setScanList (req 0x40 [1])) = [0x40, 1] ∧
    reply (exec .setScanList (req 0x40 (17 :: List.replicate 34 1))) = [0x40, 2] ∧
    (∀ k : Byte, AtHead (req k [3, 0xE8]) k (rq k [3, 0xE8])) ∧ field [3, 0xE8] 0 2 = 1000 ∧
    1000 < field [3, 0xE9] 0 2 ∧ (∀ k : Byte, AtHead (req k [3]) k (rq k [3])) ∧
    field [3] 0 1 = (3 : BankId).val ∧ State.reset.se.bankReset = none ∧ State.reset.scv.zeroOp = none ∧
    (banking none).se.bankReset ≠ none := by
  refine ⟨atHead _ _ _ rfl, by decide +kernel, by decide +kernel, by decide +kernel, by decide +kernel,
    by decide +kernel, by decide +kernel, by decide +kernel, fun k => atHead _ _ _ rfl, by decide +kernel,
    by decide +kernel, fun k => atHead _ _ _ rfl, by decide +kernel⟩

theorem test_witness_converter_requests :
    let t (n gfHi gfLo calHi : Byte) : List Byte := [n, 1, 0, 0, 3, gfHi, gfLo, calHi, 0]
    AtHead (req 0x42 (t 7 3 0xE8 0x40)) 0x42 (rq 0x42 (t 7 3 0xE8 0x40)) ∧
    ([t 7 3 0xE8 0x40, t 7 0x13 0x88 0xFF, t 8 3 0xE8 0x40, t 7 3 0xE7 0x40, t 7 0x13 0x89 0x40,
      t 7 3 0xE8 0x3F].map fun p => (reply (exec .writeTemplate (req 0x42 p))).take 2) =
      [[0x42, 0], [0x42, 0], [0x42, 2], [0x42, 2], [0x42, 2], [0x42, 2]] ∧
    reply (exec .writeTemplate (inState (req 0x42 (t 7 3 0xE8 0x40)) .hold)) = [0x42, 6] ∧
    (reply (exec .setDefaultProfile (req 0x43 [3, 3, 0xE8, 0x40, 0]))).take 2 = [0x43, 0] ∧
    reply (exec .setDefaultProfile (req 0x43 [4, 3, 0xE8, 0x40, 0])) = [0x43, 2] ∧
    reply (exec .validateTemplates (inState (req 0x44 []) .unload)) = [0x44, 6] ∧
    (reply (exec .validateTemplates (req 0x44 []))).take 2 = [0x44, 0] ∧
    (reply (exec .readGauges (req 0x47 [224, 32]))).take 3 = [0x47, 0, 32] ∧
    ((reply (exec .readGauges (req 0x47 [0, 1]))).getLast? = some 0 ∧
     0 < (reply (exec .readGauges (req 0x47 [0, 32]))).getLast?.elim 0 BitVec.toNat ∧
     (reply (exec .readGauges (req 0x47 [0, 32]))).length ≤ 1024) ∧
    ([[225, 32], [0, 0], [0, 33]].map fun p => reply (exec .readGauges (req 0x47 p))) =
      List.replicate 3 [0x47, 2] := by
  refine ⟨atHead _ _ _ rfl, by decide +kernel⟩

theorem test_witness_conversion :
    (Profile.reset.bridge ≠ .off) ∧ (⟨.off, 1000, 16384⟩ : Profile).bridge = .off ∧
    (let x : Scan := { scanning [] with
      gauges := [0, 1, 64], answers := (Vector.replicate 4 none).set 0 (some [5, -5]) }
     x.results = [(0, some 5), (1, some (-5)), (64, none)] ∧ (x.results.map Prod.fst).Nodup ∧
     (2 : GaugeId) ∉ x.results.map Prod.fst ∧
     (let s := State.reset.setRule 3 { LimitRule.reset with enabled := true, persistence := 1 }
      (((s.convertScan x).zs.alarms.map fun e => (e.source, e.severity, e.cycle)),
        (s.convertScan x).lw.rules[(3 : RuleId)].latched, (s.convertScan x).sq.records.map fun r =>
          r.unsent.map (·.gauge)) = ([(.limit 3, .info, none)], true, [[0, 1, 64]]) ∧
      (State.reset.convertScan x).zs.alarms = [])) := by decide +kernel

theorem test_witness_strain_queue :
    let r := record false
    r.kind = .free ∧ ({ r with unsent := [] } : StrainRecord).unsent = [] ∧ r.unsent ≠ [] ∧
    StrainQueue.reset.entriesHeld + r.unsent.length ≤ 4096 ∧ StrainQueue.reset.records.length < 256 ∧
    (256 : Nat) ≤ (List.replicate 256 r).length ∧
    (({ role .internal false 0 0 500 with
        sq := { StrainQueue.reset with timer := .running 0 }
        tb := { TimeBase.reset with lastStrobeAt := 400000 }
        cm := { CrackMonitor.reset 0 with nextSampleAt := 400000 } } : State).expire .delay).isSome := by
  decide +kernel

/-- A SET LIMIT RULE payload for rule `n`, gauge 255, threshold 1. -/
def ruleConfig (n enabled mask persistence action zone trip : Byte) : List Byte :=
  [n, enabled, 255, 0, 0, 0, 1, mask, persistence, action, zone, trip]

theorem test_witness_limit_rule :
    AtHead (req 0x48 (ruleConfig 31 1 7 1 2 3 1)) 0x48 (rq 0x48 (ruleConfig 31 1 7 1 2 3 1)) ∧
    ([ruleConfig 31 1 7 1 2 3 1, ruleConfig 32 1 7 1 2 3 1, ruleConfig 31 2 7 1 2 3 1, ruleConfig 31 1 0 1 2 3 1,
      ruleConfig 31 1 8 1 2 3 1, ruleConfig 31 1 7 0 2 3 1, ruleConfig 31 1 7 1 3 3 1,
      ruleConfig 31 1 7 1 2 4 1, ruleConfig 31 1 7 1 2 3 2].map fun p =>
        (reply (exec .setLimitRule (req 0x48 p))).take 2) = [0x48, 0] :: List.replicate 8 [0x48, 2] ∧
    reply (exec .setLimitRule ((inState (req 0x48 (ruleConfig 0 0 7 1 2 0 1)) .run).setRule 0
      { LimitRule.reset with enabled := true })) = [0x48, 6] ∧
    (let x (v : Int) (bad : Bool) : Sample := ⟨v, ⟨false, false, bad, false⟩, 0, false⟩
     let q : LimitRule := { LimitRule.reset with enabled := true, persistence := 2 }
     q.atScan [(0, x 1 false)] = { q with counter := 1 } ∧
     { q with counter := 1 }.atScan [(0, x 1 false)] = { q with latched := true } ∧
     { q with counter := 1 }.atScan [(0, x 0 false)] = q ∧
     { q with counter := 1 }.atScan [(0, x 1 true)] = { q with counter := 1 } ∧
     { q with trip := true }.atScan [(0, x 0 true)] = { q with trip := true, counter := 1 } ∧
     q.atScan [(1, x 1 false)] = q) := by
  refine ⟨atHead _ _ _ rfl, by decide +kernel⟩

theorem test_witness_loops :
    let s := role .internal false 0 0 0
    let t : State := { s with cm := { CrackMonitor.reset 0 with nextSampleAt := 400 } }
    let u : State := t.setLoop 31 { LoopRecord.reset with enabled := true, debounce := 2, run := 1 }
    let two : State := u.setLoop 30 { LoopRecord.reset with enabled := true, debounce := 1 }
    (t.expire .loop).isSome ∧ (u.expire .loop).isSome ∧
    (0x80000000#32).getLsbD (31 : LoopId) = true ∧ LoopLevel.opened ≠ u.cm.loops[(31 : LoopId)].accepted ∧
    u.cm.loops[(31 : LoopId)].debounce ≤ u.cm.loops[(31 : LoopId)].run + 1 ∧
    (∀ m : LoopId, m ≠ 31 → (0x80000000#32).getLsbD m = false) ∧
    (∀ m ∈ ([30, 31] : List LoopId), (0xC0000000#32).getLsbD m = true ∧
      two.cm.loops[m].accepted = .closed ∧ two.cm.loops[m].debounce ≤ two.cm.loops[m].run + 1 ∧
      two.cm.loops[m].enabled = true) ∧
    after (exec (.loopSample 0x80000000) u) (fun t => t.zs.alarms.map AlarmEntry.source) =
      some [.loop 31] ∧
    ¬ LoopRecord.reset.debounce ≤ LoopRecord.reset.run + 1 ∧ LoopRecord.reset.accepted = .closed := by
  decide +kernel

theorem test_witness_hits :
    let e : AeRecord := { AeRecord.reset with enabled := true, winStart := 1000, winEnd := 10 }
    let s := withChan (ready State.reset .run) 0 fun c => { c with wasCycling := true }
    let s := withZone (s.setAe 0 e) 0 fun z => { z with clockRunning := true, latestN := some 0 }
    AeRecord.reset.enabled = false ∧ e.enabled = true ∧ e.lastHit = none ∧
    (99 : Nat) - 0 < e.lockout ∧ ¬ (100 : Nat) - 0 < e.lockout ∧
    (s.zone 0).clockRunning = true ∧ (s.zone 0).members.getLsbD 0 = true ∧ (s.chan 0).wasCycling = true ∧
    (s.zone 0).latestN = some 0 ∧ ((ready State.reset .run).zone 0).latestN = none ∧
    phaseIndex (s.zone 0).inc 0 ≤ e.winEnd ∧ e.winEnd < e.winStart ∧
    ¬ phaseIndex 2147484 22 ≤ e.winEnd ∧ ¬ (State.reset.zone 0).clockRunning = true := by decide +kernel

theorem test_witness_crack_requests :
    let ae (n severity lockout start ring threshold : Byte) : List Byte :=
      [n, 1, 3, severity, 0, lockout, start, 0, 3, 0xFF, ring, 0, threshold]
    AtHead (req 0x50 [31, 1, 3, 2, 1]) 0x50 (rq 0x50 [31, 1, 3, 2, 1]) ∧
    AtHead (req 0x51 (ae 7 1 10 0 64 1)) 0x51 (rq 0x51 (ae 7 1 10 0 64 1)) ∧
    AtHead (req 0x52 [1, 7]) 0x52 (rq 0x52 [1, 7]) ∧
    ([ae 7 1 10 0 64 1, ae 7 3 10 3 1 1, ae 8 1 10 0 64 1, ae 7 0 10 0 64 1, ae 7 4 10 0 64 1, ae 7 1 9 0 64 1,
      ae 7 1 10 4 64 1, ae 7 1 10 0 65 1, ae 7 1 10 0 0 1, ae 7 1 10 0 64 0].map fun p =>
        (reply (exec .configureAe (req 0x51 p))).take 2) =
      [[0x51, 0], [0x51, 0]] ++ List.replicate 8 [0x51, 2] ∧
    reply (exec .configureAe ((inState (req 0x51 (ae 0 1 10 0 64 101)) .run).setAe 0
      { AeRecord.reset with enabled := true })) = [0x51, 6] ∧
    reply (exec .configureLoop ((inState (req 0x50 [0, 1, 0, 3, 11]) .run).setLoop 0
      { LoopRecord.reset with enabled := true })) = [0x50, 6] ∧
    (reply (exec .configureLoop ((inState (req 0x50 [0, 1, 0, 3, 10]) .run).setLoop 0
      { LoopRecord.reset with enabled := true }))).take 2 = [0x50, 0] ∧
    field [1, 7] 0 1 = 1 ∧ field [1, 7] 1 1 ≤ 7 ∧ 7 < field [1, 8] 1 1 ∧ 1 < field [2, 0] 0 1 := by
  refine ⟨atHead _ _ _ rfl, atHead _ _ _ rfl, atHead _ _ _ rfl, by decide +kernel⟩

/-- The part with block 3 in a state, holding `n` frames without signals. -/
def block (s : State) (x : BlockState) (n : Nat) : State :=
  s.setBlock 3 { Block.reset with state := x, frames := List.replicate n ⟨0, false, []⟩ }

theorem test_witness_capture :
    let stalled (s : State) : State := { s with cu := { s.cu with stalled := true } }
    AtHead (req 0x60 [1, 5, 255, 7, 0xFF, 1, 15, 0, 1]) 0x60 (rq 0x60 [1, 5, 255, 7, 0xFF, 1, 15, 0, 1]) ∧
    AtHead (block (req 0x62 [3, 0, 0, 7, 0xFF]) .locked 2) 0x62 (rq 0x62 [3, 0, 0, 7, 0xFF]) ∧
    AtHead (block (req 0x63 [3]) .locked 2) 0x63 (rq 0x63 [3]) ∧
    reply (exec .configureCapture (block (req 0x60 [1, 5, 255, 7, 0xFF, 1, 15, 0, 0]) .post 0)) = [0x60, 3] ∧
    reply (exec .trigger (req 0x61 [])) = [0x61, 3] ∧
    reply (exec .trigger (block (req 0x61 []) .recording 0)) = [0x61, 0, 0, 3] ∧
    reply (exec .trigger (block (req 0x61 []) .post 0)) = [0x61, 0, 1, 3, 0, 1] ∧
    reply (exec .trigger (stalled (req 0x61 []))) = [0x61, 0, 2, 0, 1] ∧
    (reply (exec .readCapture (block (req 0x62 [3, 0, 1, 7, 0xFF]) .locked 2))).take 3 = [0x62, 0, 3] ∧
    reply (exec .readCapture (block (req 0x62 [3, 0, 2, 7, 0xFF]) .locked 2)) = [0x62, 2] ∧
    reply (exec .readCapture (block (req 0x62 [3, 0, 0, 8, 0]) .locked 2)) = [0x62, 2] ∧
    reply (exec .readCapture (req 0x62 [3, 0, 0, 0, 0])) = [0x62, 3] ∧
    reply (exec .readCapture (req 0x62 [4, 0, 0, 0, 0])) = [0x62, 2] ∧
    reply (exec .releaseBlock (block (req 0x63 [3]) .locked 2)) = [0x63, 0, 3, 3] ∧
    reply (exec .releaseBlock (stalled (block (req 0x63 [3]) .locked 2))) = [0x63, 0, 3, 0] ∧
    reply (exec .releaseBlock (block (req 0x63 [3]) .recording 2)) = [0x63, 0, 1, 3] ∧
    reply (exec .releaseBlock (req 0x63 [3])) = [0x63, 3] := by
  refine ⟨atHead _ _ _ rfl, atHead _ _ _ rfl, atHead _ _ _ rfl, by decide +kernel⟩

/-- 11 R193 to R197: a frame of a RECORDING and of a POST block, its last one included; a raise that triggers. -/
theorem test_witness_frames_taken :
    let keep (s : State) : State := s.setBlock 3 { s.cu.blocks[(3 : BlockId)] with pre := 2046 }
    let on (s : State) : State := { s with cu := { s.cu with cfg := { s.cu.cfg with
      severity := .info, zoneMask := 1, continues := true } } }
    let r : Raise := ⟨.loop 0, 0, .minor, none⟩
    let after (s : State) : BlockState × Nat :=
      let b := (s.takeFrame s.ac false).cu.blocks[(3 : BlockId)]
      (b.state, b.frames.length)
    after (keep (block State.reset .recording 0)) = (.recording, 1) ∧
    after (keep (block State.reset .post 0)) = (.post, 1) ∧
    after (keep (block State.reset .post 1)) = (.locked, 2) ∧
    ((on (keep (block State.reset .post 1))).takeFrame State.reset.ac false).cu.blocks[(0 : BlockId)].state =
      .recording ∧
    ((on (block State.reset .recording 0)).raise r).cu.blocks[(3 : BlockId)].state = .post ∧
    ((on (block State.reset .post 0)).raise r).cu.blocks[(3 : BlockId)].further = 1 ∧
    ((on { State.reset with cu := { CaptureUnit.reset with stalled := true } }).raise r).cu.missed = 1 ∧
    (block State.reset .recording 0).cu.state = .recording ∧ (block State.reset .post 0).cu.state = .post ∧
    State.reset.cu.cfg.severity = .off ∧ State.reset.cu.cfg.continues = false := by decide +kernel

/-- 11 R191, R197: the frame of a strobe, taken by a POST block: not its last one, and its last one, when the
block locks and its report is sent. -/
theorem test_strobe_frames :
    let strobe (pre held : Nat) : Option (BlockState × Nat × Option Carries) :=
      let s := block (role .internal false 0 0 500) .post held
      after (exec .oscillatorStrobe (s.setBlock 3 { s.cu.blocks[(3 : BlockId)] with pre }))
        fun t => (t.cu.blocks[(3 : BlockId)].state, t.cu.blocks[(3 : BlockId)].frames.length,
          t.lp.tx.map TxFrame.carries)
    strobe 2045 1 = some (.post, 2, none) ∧ strobe 2046 1 = some (.locked, 2, some .capture) := by
  decide +kernel

/-- The hypothesis of the capture statement holds with a block active, and in a stall. -/
theorem test_witness_capture_ok :
    CaptureOk (block State.reset .recording 0) ∧
    CaptureOk { State.reset with cu := { CaptureUnit.reset with stalled := true } } := by
  refine ⟨⟨?_, ?_⟩, ⟨?_, ?_⟩⟩ <;> unfold Block.isActive <;> decide +kernel

/-- The hypotheses of the frames and of the invariants: a step from reset. -/
theorem test_witness_invariants : (∃ t, step State.reset = .next t) ∧ AlarmListOk State.reset ∧
    NoRunUnderAlarm State.reset ∧ ReasonsOnlyInHold State.reset ∧ OneZoneEach State.reset ∧
    (∀ a, State.reset.chan a = Channel.reset) ∧ ChannelOk Channel.reset ∧ LinkOk State.reset ∧
    StrainOk State.reset ∧ CaptureOk State.reset := by
  refine ⟨⟨_, rfl⟩, ⟨by decide, by decide⟩, ?_, ?_, ?_, ?_, ⟨?_, ?_, ?_, ?_, ?_, ?_, ?_⟩,
    ⟨by decide, by decide, by decide⟩, ⟨by decide, by decide⟩, ⟨?_, ?_⟩⟩ <;>
    (try unfold NoRunUnderAlarm) <;> (try unfold ReasonsOnlyInHold) <;> (try unfold OneZoneEach) <;>
    (try unfold Block.isActive) <;> decide +kernel

/-- Each command of the frames answers a next state. -/
theorem test_witness_frames : ∀ i ∈ [Instr.byteReceived 0 .mark, .gap, .setTime, .readActuator, .ackAlarm,
    .zeroGauges, .bankAnswer 0 [], .loopSample 0, .oscillatorStrobe, .syncEdge],
    Goes (exec i State.reset) ∧ (req 0x27 [7]).lp.requests = [rq 0x27 [7]] := by
  intro i hi
  simp only [List.mem_cons, List.not_mem_nil, or_false] at hi
  rcases hi with rfl | rfl | rfl | rfl | rfl | rfl | rfl | rfl | rfl | rfl <;>
    exact ⟨⟨_, rfl⟩, rfl⟩

end Sys2Proof.Tests
end

section
/-! The taking of requests: how each request's command takes the head of the request queue, what a head
request that may be taken leads to, and what one that may not be taken leaves. -/

namespace Sys2Proof.Machine
open Host Statements

/-- Whether a request is of one kind. -/
def ofKind (kind : Byte) : Byte → Bool := fun k => decide (k = kind)

@[simp] theorem ofKind_eq_true (kind k : Byte) : ofKind kind k = true ↔ k = kind := decide_eq_true_iff

/-- For each command that is the taking of a request: the kinds it takes, and its owner's answer. -/
def requestArm : Instr → Option ((Byte → Bool) × (Request → State → Answer))
  | .unknownKindRequest => some (fun k => !requestKinds.contains k, fun _ _ => .no .malformed)
  | .identify => some (ofKind 0x01, answerRead State.identity)
  | .status => some (ofKind 0x02, answerRead State.snapshot)
  | .setGroup => some (ofKind 0x03, answerSetGroup)
  | .setReporting => some (ofKind 0x04, answerSetReporting)
  | .readLinkCounts => some (ofKind 0x05, answerReadLinkCounts)
  | .restart => some (ofKind 0x06, answerRestart)
  | .setTime => some (ofKind 0x10, answerSetTime)
  | .readTime => some (ofKind 0x11, answerRead State.timeReading)
  | .setSyncRole => some (ofKind 0x12, answerSetSyncRole)
  | .configureActuator => some (ofKind 0x20, answerConfigureActuator)
  | .enableActuator => some (ofKind 0x21, answerEnableActuator)
  | .disableActuator => some (ofKind 0x22, answerDisableActuator)
  | .setDryRun => some (ofKind 0x23, answerSetDryRun)
  | .loadSegments => some (ofKind 0x24, answerLoadSegments)
  | .flushProgram => some (ofKind 0x25, answerFlushProgram)
  | .clearFault => some (ofKind 0x26, answerClearFault)
  | .readActuator => some (ofKind 0x27, answerReadActuator)
  | .defineZone => some (ofKind 0x30, answerDefineZone)
  | .setCycleRate => some (ofKind 0x31, answerSetCycleRate)
  | .prepare => some (ofKind 0x32, answerPrepare)
  | .start => some (ofKind 0x33, answerStart)
  | .hold => some (ofKind 0x34, answerHold)
  | .resume => some (ofKind 0x35, answerResume)
  | .unload => some (ofKind 0x36, answerUnload)
  | .release => some (ofKind 0x37, answerRelease)
  | .resetCycleCount => some (ofKind 0x38, answerResetCycleCount)
  | .readZone => some (ofKind 0x39, answerReadZone)
  | .readAlarms => some (ofKind 0x3A, answerReadAlarms)
  | .ackAlarm => some (ofKind 0x3B, answerAckAlarm)
  | .setScanList => some (ofKind 0x40, answerSetScanList)
  | .setScanInterval => some (ofKind 0x41, answerSetScanInterval)
  | .writeTemplate => some (ofKind 0x42, answerWriteTemplate)
  | .setDefaultProfile => some (ofKind 0x43, answerSetDefaultProfile)
  | .validateTemplates => some (ofKind 0x44, answerValidateTemplates)
  | .zeroGauges => some (ofKind 0x45, answerZeroGauges)
  | .bankReset => some (ofKind 0x46, answerBankReset)
  | .readGauges => some (ofKind 0x47, answerReadGauges)
  | .setLimitRule => some (ofKind 0x48, answerSetLimitRule)
  | .configureLoop => some (ofKind 0x50, answerConfigureLoop)
  | .configureAe => some (ofKind 0x51, answerConfigureAe)
  | .readCrackStatus => some (ofKind 0x52, answerReadCrackStatus)
  | .configureCapture => some (ofKind 0x60, answerConfigureCapture)
  | .trigger => some (ofKind 0x61, answerTrigger)
  | .readCapture => some (ofKind 0x62, answerReadCapture)
  | .releaseBlock => some (ofKind 0x63, answerReleaseBlock)
  | .captureStatus => some (ofKind 0x64, answerCaptureStatus)
  | _ => none

/-- A request's command takes its request, and the arbiter acts after it (01 R9, R14). -/
theorem exec_of_requestArm {i : Instr} {p : Byte → Bool} {act : Request → State → Answer}
    (h : requestArm i = some (p, act)) (s : State) : exec i s = .next (arbitrate (s.takeIf p act)) := by
  cases i <;> cases h <;> rfl

/-- When the request at the head may be taken (01 R9). -/
theorem mayTake_iff (s : State) (r : Request) : s.mayTake r = true ↔
    s.lp.restart = .idle ∧ (r.cls = .broadcast ∨ s.lp.replies.length + s.lp.reservations < 4) := by
  unfold State.mayTake
  rw [Bool.and_eq_true, Bool.or_eq_true, decide_eq_true_iff, decide_eq_true_iff, decide_eq_true_iff]
  exact Iff.rfl

theorem mayTake_of_atHead {s : State} {k : Byte} {r : Request} (h : AtHead s k r) :
    s.mayTake r = true := by
  obtain ⟨-, -, hidle, hroom⟩ := h
  exact (mayTake_iff s r).mpr ⟨hidle, hroom⟩

/-- The command of a request at the head that may be taken: its owner's answer is given. -/
theorem exec_atHead {i : Instr} {k : Byte} {act : Request → State → Answer} {s : State} {r : Request}
    (h : requestArm i = some (ofKind k, act)) (hr : AtHead s k r) :
    exec i s = .next (arbitrate (s.dequeued.answer r (act r s.dequeued))) := by
  have ⟨⟨rest, hq⟩, hk, _⟩ := hr
  rw [exec_of_requestArm h, takeIf_ready s _ act r rest hq ((ofKind_eq_true k _).mpr hk) (mayTake_of_atHead hr)]

theorem exec_accepted {i : Instr} {k : Byte} {act : Request → State → Answer} {s t : State} {r : Request}
    {w : Wire} (h : requestArm i = some (ofKind k, act)) (hr : AtHead s k r)
    (ha : act r s.dequeued = .accepted t w) : exec i s = accepted s r t w := by
  rw [exec_atHead h hr, ha]; rfl

theorem exec_refused {i : Instr} {k : Byte} {act : Request → State → Answer} {s : State} {r : Request}
    {why : Reason} (h : requestArm i = some (ofKind k, act)) (hr : AtHead s k r)
    (ha : act r s.dequeued = .no why) : exec i s = refused s r why := by
  rw [exec_atHead h hr, ha]; rfl

/-- A head request of another kind, or one that may not be taken, stays. -/
theorem takeIf_waits {s : State} {p : Byte → Bool} {r : Request} {rest : List Request}
    (h : s.lp.requests = r :: rest) (hw : p r.kind = false ∨ s.mayTake r = false)
    (act : Request → State → Answer) : s.takeIf p act = s := by
  rcases hw with hw | hw <;> simp [State.takeIf, h, hw]

/-- What a request leads to: `P` holds of the part after it, wherever its owner does not refuse it. -/
def Answer.Leads (P : State → Prop) : Answer → Prop
  | .accepted t _ => P t
  | .deferred t => P t
  | .refused _ _ => True

@[simp] theorem Answer.leads_accepted (P : State → Prop) (t : State) (w : Wire) :
    (Answer.accepted t w).Leads P ↔ P t := Iff.rfl
@[simp] theorem Answer.leads_deferred (P : State → Prop) (t : State) :
    (Answer.deferred t).Leads P ↔ P t := Iff.rfl
@[simp] theorem Answer.leads_refused (P : State → Prop) (why : Reason) (w : Wire) :
    (Answer.refused why w).Leads P := trivial

theorem Answer.Leads.mono {P Q : State → Prop} {a : Answer} (h : a.Leads P) (hPQ : ∀ t, P t → Q t) :
    a.Leads Q := by
  cases a with
  | accepted t w => exact hPQ t h
  | deferred t => exact hPQ t h
  | refused why w => trivial

theorem index?_eq_some {n v : Nat} {i : Fin n} : index? n v = some i ↔ v = i.val := by
  unfold index?
  split
  · rw [Option.some.injEq, Fin.ext_iff]
  · rename_i h
    exact ⟨fun e => by simp at e, fun e => absurd (e ▸ i.isLt) h⟩

theorem index?_eq_none {n v : Nat} : index? n v = none ↔ n ≤ v := by
  simp [index?]

theorem onChannel_leads {P : State → Prop} {r : Request} {f : ActId → Answer}
    (h : ∀ a : ActId, field r.payload 0 1 = a.val → (f a).Leads P) : (onChannel r f).Leads P := by
  unfold onChannel
  split
  · exact Answer.leads_refused ..
  · split
    · exact h _ (index?_eq_some.mp ‹_›)
    · exact Answer.leads_refused ..

theorem onZone_leads {P : State → Prop} {len : Nat} {r : Request} {f : ZoneId → Answer}
    (h : ∀ z, (f z).Leads P) : (onZone len r f).Leads P := by
  unfold onZone
  split
  · exact Answer.leads_refused ..
  · split
    · exact h _
    · exact Answer.leads_refused ..

end Sys2Proof.Machine
end

section
/-! What the line's events and the requests of the Time Base and of the actuators change. -/

namespace Sys2Proof.Machine
open Host Statements

/-! ### The downlink's events -/

/-- What the downlink's events may change of the Link Port: the line, the receiver, the counts, and the
request queue, which they leave within its four places (01 R2 to R8). -/
structure LinkPort.Receives (l m : LinkPort) : Prop where
  only : m = { l with
    line := m.line, lastByteAt := m.lastByteAt, rx := m.rx, requests := m.requests, counts := m.counts }
  requests : l.requests.length ≤ 4 → m.requests.length ≤ 4

theorem LinkPort.Receives.trans {l m n : LinkPort} (h : l.Receives m) (k : m.Receives n) : l.Receives n :=
  ⟨by rw [k.only, h.only], k.requests ∘ h.requests⟩

/-- Events that leave the request queue alone. -/
theorem LinkPort.receives_of_only {l m : LinkPort} (h : m = { l with
    line := m.line, lastByteAt := m.lastByteAt, rx := m.rx, counts := m.counts }) : l.Receives m := by
  have hq : m.requests = l.requests := by rw [h]
  exact ⟨by rw [hq]; exact h, by rw [hq]; exact id⟩

theorem LinkPort.Receives.refl (l : LinkPort) : l.Receives l := receives_of_only rfl

theorem LinkPort.hunt_receives (l : LinkPort) : l.Receives l.hunt := receives_of_only rfl

theorem LinkPort.timed_receives (l : LinkPort) (now len : Nat) : l.Receives (l.timed now len) := by
  unfold LinkPort.timed
  split
  · exact receives_of_only rfl
  · exact .refl l

theorem LinkPort.atMark_receives (l : LinkPort) : l.Receives l.atMark := by
  unfold LinkPort.atMark LinkPort.framingError
  split
  · exact .refl l
  · dsimp only
    split <;> exact receives_of_only rfl
  · exact receives_of_only rfl

theorem LinkPort.enqueue_receives (l : LinkPort) (r : Request) : l.Receives (l.enqueue r) := by
  unfold LinkPort.enqueue
  split
  · rename_i h
    refine ⟨rfl, fun _ => ?_⟩
    simpa using h
  · exact receives_of_only rfl

theorem LinkPort.frameDone_receives (l : LinkPort) (buf : List Byte) : l.Receives (l.frameDone buf) := by
  unfold LinkPort.frameDone
  dsimp only
  split
  · exact receives_of_only rfl
  split
  · exact l.hunt_receives
  · exact l.hunt_receives.trans (enqueue_receives _ _)

theorem LinkPort.rxByte_receives (l : LinkPort) (b : Byte) : l.Receives (l.rxByte b) := by
  unfold LinkPort.rxByte
  split
  · split
    · exact receives_of_only rfl
    · exact .refl l
  · dsimp only
    split
    · exact receives_of_only rfl
    split <;> exact receives_of_only rfl
  · dsimp only
    split
    · exact receives_of_only rfl
    · exact l.frameDone_receives _

/-- The events of the downlink. -/
inductive LineEvent : Instr → Prop
  | byte (b : Byte) (stop : StopBit) : LineEvent (.byteReceived b stop)
  | toMark : LineEvent .lineReturnsToMark
  | brk : LineEvent .lineBreak
  | gap : LineEvent .gap

/-- GAP when the 20 microseconds inside a frame run out: the frame is abandoned, the gap counted (01 R4). -/
theorem exec_gap_of_expire {s t : State} (h : s.expire .gap = some t) :
    exec .gap s = .next { t with lp := t.lp.gapOut } :=
  congrArg Outcome.next (atExpiry_some s t _ _ h)

/-- The downlink's events change the Link Port's receiving part alone; GAP alone moves the oscillator, to the
moment it runs out. -/
theorem lineEvent_effect {i : Instr} (hi : LineEvent i) {s t : State} (h : exec i s = .next t) :
    t = { s with lp := t.lp, osc := t.osc } ∧ s.lp.Receives t.lp ∧ (i ≠ .gap → t.osc = s.osc) := by
  cases hi with
  | byte b stop =>
    have began := (s.lp.atMark_receives.trans (LinkPort.timed_receives _ s.osc Config.byteTime)).trans
      (LinkPort.receives_of_only (m := { s.lp.atMark.timed s.osc Config.byteTime with lastByteAt := s.osc })
        rfl)
    cases stop with
    | mark => cases h; exact ⟨rfl, began.trans (LinkPort.rxByte_receives _ b), fun _ => rfl⟩
    | space => cases h; exact ⟨rfl, began.trans (LinkPort.receives_of_only rfl), fun _ => rfl⟩
  | toMark => cases h; exact ⟨rfl, s.lp.atMark_receives, fun _ => rfl⟩
  | brk =>
    unfold exec execLineBreak at h
    dsimp only at h
    split at h
    · cases h; exact ⟨rfl, .refl _, fun _ => rfl⟩
    · cases h
      exact ⟨rfl, (LinkPort.timed_receives _ _ _).trans (LinkPort.receives_of_only rfl), fun _ => rfl⟩
  | gap =>
    cases hx : s.expire .gap with
    | none =>
      rw [show exec .gap s = .next s from congrArg Outcome.next (atExpiry_none s _ _ hx)] at h
      cases h
      exact ⟨rfl, .refl _, fun hne => absurd rfl hne⟩
    | some u =>
      rw [exec_gap_of_expire hx] at h
      obtain ⟨d, -, -, rfl⟩ := expire_eq s u _ hx
      cases h
      exact ⟨rfl, LinkPort.receives_of_only rfl, fun hne => absurd rfl hne⟩

/-! ### Requests: from the owner's answer to the part after the command -/

/-- A request's command: nothing is taken, or the owner's answer to the head request is given; the arbiter
acts after either. -/
theorem request_cases {i : Instr} {p : Byte → Bool} {act : Request → State → Answer} {s t : State}
    (ha : requestArm i = some (p, act)) (h : exec i s = .next t) :
    t = arbitrate s ∨ ∃ r rest, s.lp.requests = r :: rest ∧ s.mayTake r = true ∧
      t = arbitrate (s.dequeued.answer r (act r s.dequeued)) := by
  rw [exec_of_requestArm ha] at h
  cases h
  rcases takeIf_cases s p act with hn | ⟨r, rest, hq, -, hm, he⟩
  · exact Or.inl (by rw [hn])
  · exact Or.inr ⟨r, rest, hq, hm, by rw [he]⟩

/-- The end of a request gives the part its owner leaves, or the part as it stands, with at most a reply
added. -/
theorem answer_frame {P : State → Prop} {s : State} {r : Request} {a : Answer} (ha : a.Leads P)
    (hs : P s) : ∃ u, P u ∧ ReplyFrame u (s.answer r a) := by
  cases a with
  | accepted t w => exact ⟨t, ha, answer_accepted_frame ..⟩
  | deferred t => exact ⟨t, ha, .refl t⟩
  | refused why w => exact ⟨s, hs, answer_refused_frame ..⟩

/-- What a reply and the arbiter after it leave unchanged. -/
structure RequestFrame (s t : State) : Prop where
  tb : t.tb = s.tb
  ac : t.ac = s.ac
  zones : SameZones s t
  alarms : SameAlarms s t
  se : t.se = s.se
  strain : SameStrain s t
  cm : t.cm = s.cm
  cu : t.cu = s.cu
  osc : t.osc = s.osc
  link : SameLink s t

theorem arbitrate_sameAlarms (s : State) : SameAlarms s (arbitrate s) := by
  refine ⟨arbitrate_overflow s, ?_⟩
  rcases (arbitrate_frame s).alarms with h | h <;> rw [h]
  simp [Function.comp_def]

theorem arbitrate_requestFrame {s u : State} (h : ReplyFrame s u) : RequestFrame s (arbitrate u) := by
  obtain ⟨l, hlp, -⟩ := h.lp
  have a := arbitrate_frame u
  have alarms : SameAlarms s (arbitrate u) := by
    have := arbitrate_sameAlarms u
    rwa [SameAlarms, h.zs] at this
  have link : SameLink s (arbitrate u) := by
    refine ⟨a.nodeAddr.trans ?_, a.groupAddr.trans ?_, a.line.trans ?_, a.rx.trans ?_, a.restart.trans ?_,
      a.reporting.trans ?_, a.counts.trans ?_⟩ <;> rw [hlp]
  exact ⟨a.tb.trans h.tb, a.ac.trans h.ac, a.zones.trans (by rw [h.zs]), alarms, a.se.trans h.se,
    ⟨a.scv.trans h.scv, a.sq.trans h.sq, a.lw.trans h.lw⟩, a.cm.trans h.cm, a.cu.trans h.cu,
    a.osc.trans h.osc, link⟩

/-- A request's command: the part that its owner leaves, or the part as it stands, then a reply and the
arbiter. -/
theorem request_effect {i : Instr} {p : Byte → Bool} {act : Request → State → Answer} {s t : State}
    (ha : requestArm i = some (p, act)) (h : exec i s = .next t) (P : State → Prop) (hs : P s)
    (hd : P s.dequeued)
    (hact : ∀ r rest, s.lp.requests = r :: rest → (act r s.dequeued).Leads P) :
    ∃ u, P u ∧ RequestFrame u t := by
  rcases request_cases ha h with rfl | ⟨r, rest, hq, -, rfl⟩
  · exact ⟨s, hs, arbitrate_requestFrame (.refl s)⟩
  · obtain ⟨u, hu, hf⟩ := answer_frame (r := r) (hact r rest hq) hd
    exact ⟨u, hu, arbitrate_requestFrame hf⟩

/-! ### The Time Base's requests -/

/-- What the Time Base's requests may change: the Time Base, but not the strobe's number, moment and
source. -/
structure TimeOnly (s t : State) : Prop where
  only : t = { s with tb := t.tb }
  strobeNumber : t.tb.strobeNumber = s.tb.strobeNumber
  lastStrobeAt : t.tb.lastStrobeAt = s.tb.lastStrobeAt
  source : t.tb.source = s.tb.source

theorem answerRead_leads {P : State → Prop} {s : State} (hs : P s) (results : State → Wire) (r : Request) :
    (answerRead results r s).Leads P := by
  unfold answerRead
  split
  · trivial
  · exact hs

theorem answerSetTime_leads (r : Request) (s : State) : (answerSetTime r s).Leads fun t =>
    TimeOnly s t ∧ t.tb = { s.tb with pendingSet := t.tb.pendingSet } := by
  unfold answerSetTime
  dsimp only
  split; · trivial
  split; · trivial
  split; · trivial
  split; · trivial
  exact ⟨⟨rfl, rfl, rfl, rfl⟩, rfl⟩

theorem answerSetSyncRole_leads (r : Request) (s : State) : (answerSetSyncRole r s).Leads fun t =>
    TimeOnly s t ∧ t.tb.pendingSet = s.tb.pendingSet := by
  unfold answerSetSyncRole
  split; · trivial
  split; · trivial
  split; · trivial
  exact ⟨⟨rfl, rfl, rfl, rfl⟩, rfl⟩

/-! ### The actuators' requests -/

/-- The Actuator Channels alone change, and of them only those that are named. -/
structure ActuatorsOnly (named : ActId → Prop) (s t : State) : Prop where
  only : t = { s with ac := t.ac }
  others : ∀ a, ¬ named a → t.chan a = s.chan a

/-- The actuators that a request's mask selects (01 R11). -/
def MaskNames (r : Request) (a : ActId) : Prop := (byteAt r.payload 0).getLsbD a = true

/-- The actuator whose number a request carries (05). -/
def NumberNames (r : Request) (a : ActId) : Prop := field r.payload 0 1 = a.val

theorem setChan_only {named : ActId → Prop} (s : State) {a : ActId} (h : named a) (c : Channel) :
    ActuatorsOnly named s (s.setChan a c) := by
  refine ⟨rfl, fun b hb => ?_⟩
  rw [State.chan_setChan, if_neg]
  rintro rfl
  exact hb h

theorem onMask_only (r : Request) (s : State) (f : Channel → Channel) :
    ActuatorsOnly (MaskNames r) s (s.onMask (byteAt r.payload 0) f) := by
  refine ⟨rfl, fun a ha => ?_⟩
  exact (tabMap_get _ s.ac a).trans (if_neg ha)

theorem answerConfigureActuator_leads (r : Request) (s : State) :
    (answerConfigureActuator r s).Leads (ActuatorsOnly (MaskNames r) s) := by
  unfold answerConfigureActuator
  dsimp only
  split; · trivial
  split; · trivial
  split; · trivial
  exact onMask_only r s _

theorem answerLoadSegments_leads (r : Request) (s : State) :
    (answerLoadSegments r s).Leads (ActuatorsOnly (MaskNames r) s) := by
  unfold answerLoadSegments
  dsimp only
  split; · trivial
  split; · trivial
  split; · trivial
  split; · trivial
  split; · trivial
  exact onMask_only r s _

theorem answerFlushProgram_leads (r : Request) (s : State) :
    (answerFlushProgram r s).Leads (ActuatorsOnly (MaskNames r) s) := by
  unfold answerFlushProgram
  dsimp only
  split; · trivial
  split; · trivial
  split; · trivial
  split; · trivial
  exact onMask_only r s _

theorem answerEnableActuator_leads (r : Request) (s : State) :
    (answerEnableActuator r s).Leads (ActuatorsOnly (NumberNames r) s) := by
  refine onChannel_leads fun a ha => ?_
  dsimp only
  split
  · trivial
  · exact setChan_only s ha _

theorem answerDisableActuator_leads (r : Request) (s : State) :
    (answerDisableActuator r s).Leads (ActuatorsOnly (NumberNames r) s) := by
  refine onChannel_leads fun a ha => ?_
  dsimp only
  split
  · trivial
  · exact setChan_only s ha _

theorem answerSetDryRun_leads (r : Request) (s : State) :
    (answerSetDryRun r s).Leads (ActuatorsOnly (NumberNames r) s) := by
  unfold answerSetDryRun
  dsimp only
  split; · trivial
  split
  · rename_i a on ha hon
    split
    · trivial
    · exact setChan_only s (index?_eq_some.mp ha) _
  · trivial

theorem answerClearFault_leads (r : Request) (s : State) :
    (answerClearFault r s).Leads (ActuatorsOnly (NumberNames r) s) := by
  refine onChannel_leads fun a ha => ?_
  split
  · trivial
  · exact setChan_only s ha _

theorem answerReadActuator_leads (r : Request) (s : State) :
    (answerReadActuator r s).Leads (ActuatorsOnly (NumberNames r) s) :=
  onChannel_leads fun _ ha => setChan_only s ha _

end Sys2Proof.Machine
end

section
/-! The link's queues and reservations as an invariant: what leaves them alone, what a deferred reply does to
them, and every step. -/

namespace Sys2Proof.Machine
open Host Statements

/-! ### The invariant and what leaves it alone -/

/-- The replies that operations in flight still owe (01 R12). -/
def State.owed (s : State) : Nat :=
  (s.scv.zeroOp.bind ZeroOp.tag).isSome.toNat + (s.se.bankReset.bind BankResetOp.tag).isSome.toNat

theorem linkOk_iff (s : State) : LinkOk s ↔ s.lp.requests.length ≤ 4 ∧
    s.lp.replies.length + s.lp.reservations ≤ 4 ∧ s.lp.reservations = s.owed := by
  have owed : s.owed =
      (match s.scv.zeroOp with
        | some ⟨some _⟩ => 1
        | _ => 0) +
      (match s.se.bankReset with
        | some ⟨_, some _⟩ => 1
        | _ => 0) := by
    unfold State.owed
    rcases s.scv.zeroOp with _ | ⟨_ | _⟩ <;> rcases s.se.bankReset with _ | ⟨_, _ | _⟩ <;> rfl
  rw [owed]
  exact ⟨fun h => ⟨h.requests, h.replies, h.reserved⟩, fun ⟨hq, hp, hr⟩ => ⟨hq, hp, hr⟩⟩

/-- The link's queues, the reservations and the deferred operations are left alone. -/
structure LinkSame (s t : State) : Prop where
  requests : t.lp.requests = s.lp.requests
  replies : t.lp.replies = s.lp.replies
  reservations : t.lp.reservations = s.lp.reservations
  zeroOp : t.scv.zeroOp = s.scv.zeroOp
  bankReset : t.se.bankReset = s.se.bankReset

theorem LinkSame.refl (s : State) : LinkSame s s := ⟨rfl, rfl, rfl, rfl, rfl⟩

theorem LinkSame.trans {s t u : State} (h : LinkSame s t) (k : LinkSame t u) : LinkSame s u :=
  ⟨k.requests.trans h.requests, k.replies.trans h.replies, k.reservations.trans h.reservations,
    k.zeroOp.trans h.zeroOp, k.bankReset.trans h.bankReset⟩

/-- `LinkSame.trans` with its second part first. -/
theorem LinkSame.after {s t u : State} (k : LinkSame t u) (h : LinkSame s t) : LinkSame s u := h.trans k

/-- What leaves the queues, the reservations and the operations alone keeps the invariant. -/
theorem linkOk_of_same {s t : State} (hs : LinkOk s) (h : LinkSame s t) : LinkOk t := by
  rw [linkOk_iff] at hs ⊢
  rw [State.owed, h.requests, h.replies, h.reservations, h.zeroOp, h.bankReset]
  exact hs

/-- Inner work that leaves the scan blocks and the reply queue alone. -/
theorem linkSame_of_inner {s t : State} (h : Inner s t) (k : ScanFrame s t) : LinkSame s t :=
  ⟨by rw [h.lp], k.replies, k.reservations, by rw [k.scv], by rw [k.se]⟩

theorem bumpFree_linkSame (s : State) : LinkSame s s.bumpFree := ⟨rfl, rfl, rfl, rfl, rfl⟩

/-- The start decisions. -/
theorem linkSame_of_start {s t : State} (h : StartFrame s t) : LinkSame s t :=
  ⟨by rw [h.lp], by rw [h.lp], by rw [h.lp], by rw [h.scv], by rw [h.se]⟩

theorem foldl_linkSame {β : Type} (f : State → β → State) (h : ∀ s b, LinkSame s (f s b)) (l : List β)
    (s : State) : LinkSame s (l.foldl f s) :=
  foldl_keeps (LinkSame s) f (fun t b k => k.trans (h t b)) l s (.refl s)

theorem holdZone_linkSame (s : State) (z : ZoneId) (r : HoldReason) : LinkSame s (s.holdZone z r) :=
  linkSame_of_inner (holdZone_inner s z r) (holdZone_scan s z r)

theorem unloadZone_linkSame (s : State) (z : ZoneId) (b : Bool) : LinkSame s (s.unloadZone z b) :=
  linkSame_of_inner (unloadZone_inner s z b) (unloadZone_scan s z b)

theorem safeIfAllFaulted_linkSame (s : State) (z : ZoneId) : LinkSame s (s.safeIfAllFaulted z) :=
  linkSame_of_inner (safeIfAllFaulted_inner s z) (safeIfAllFaulted_scan s z)

theorem raise_linkSame (s : State) (r : Raise) : LinkSame s (s.raise r) :=
  linkSame_of_inner (raise_inner s r) (raise_scan s r)

theorem raiseAll_linkSame (s : State) (l : List Raise) : LinkSame s (s.raiseAll l) :=
  linkSame_of_inner (raiseAll_inner s l) (raiseAll_scan s l)

theorem memberFault_linkSame (s : State) (a : ActId) : LinkSame s (s.memberFault a) := by
  unfold State.memberFault
  split
  · exact .refl s
  · exact (raise_linkSame s _).trans (safeIfAllFaulted_linkSame _ _)

theorem zoneMoves_linkSame (s : State) (outs : Vector Outcomes 8) (z : ZoneId) :
    LinkSame s (s.zoneMoves outs z) := by
  unfold State.zoneMoves
  dsimp only
  split
  · exact ⟨rfl, rfl, rfl, rfl, rfl⟩
  split
  · exact ⟨rfl, rfl, rfl, rfl, rfl⟩
  split
  · exact holdZone_linkSame s z .segment
  split <;> exact ⟨rfl, rfl, rfl, rfl, rfl⟩

theorem syncLoss_linkSame (s : State) (r : Raise) : LinkSame s (s.syncLoss r) := by
  unfold State.syncLoss
  split
  · exact (raise_linkSame s r).trans (holdZone_linkSame _ _ _)
  · exact .refl s

theorem trigger_linkSame (s : State) (x : Trigger) : LinkSame s (s.trigger x) := by
  unfold State.trigger
  split
  · dsimp only; split <;> exact ⟨rfl, rfl, rfl, rfl, rfl⟩
  · split <;> exact ⟨rfl, rfl, rfl, rfl, rfl⟩

theorem takeFrame_linkSame (s : State) (chans : Vector Channel 8) (b : Bool) :
    LinkSame s (s.takeFrame chans b) := by
  have lock : ∀ (t : State) (n : BlockId), LinkSame t (t.lockBlock n) := by
    intro t n
    unfold State.lockBlock
    dsimp only
    split
    · split <;> exact ⟨rfl, rfl, rfl, rfl, rfl⟩
    · exact ⟨rfl, rfl, rfl, rfl, rfl⟩
  unfold State.takeFrame
  split
  · exact .refl s
  · dsimp only
    split
    · exact ⟨rfl, rfl, rfl, rfl, rfl⟩
    split
    · exact (lock _ _).after ⟨rfl, rfl, rfl, rfl, rfl⟩
    · exact ⟨rfl, rfl, rfl, rfl, rfl⟩

/-! ### The arbiter, answers and deferred replies -/

theorem arbitrate_linkOk {s : State} (h : LinkOk s) : LinkOk (arbitrate s) := by
  rw [linkOk_iff] at h ⊢
  have hle := arbitrate_replies_le s
  rw [State.owed, arbitrate_requests, arbitrate_reservations, arbitrate_scv, arbitrate_se]
  obtain ⟨hq, hp, hr⟩ := h
  exact ⟨hq, by omega, hr⟩

/-- A reply joins the queue where there is room for it. -/
theorem pushReply_linkOk {s : State} (h : LinkOk s) (room : s.lp.replies.length + s.lp.reservations < 4)
    (tag kind : Byte) (code : Nat) (w : Wire) (restart : Bool) :
    LinkOk (s.pushReply tag kind code w restart) := by
  rw [linkOk_iff] at h ⊢
  obtain ⟨hq, -, hr⟩ := h
  refine ⟨hq, ?_, hr⟩
  simp only [State.pushReply, List.length_append, List.length_cons, List.length_nil]
  omega

/-- The reply that an operation no longer in flight still owes takes the place reserved for it (01 R12). -/
theorem deferredReply_linkOk {s : State} (tag : Option Byte) (kind : Byte) (w : Wire)
    (hq : s.lp.requests.length ≤ 4) (hp : s.lp.replies.length + s.lp.reservations ≤ 4)
    (hr : s.lp.reservations = s.owed + tag.isSome.toNat) : LinkOk (s.deferredReply tag kind w) := by
  cases tag with
  | none => exact (linkOk_iff s).mpr ⟨hq, hp, hr⟩
  | some n =>
    have one : (some n : Option Byte).isSome.toNat = 1 := rfl
    have released : LinkOk { s with lp := { s.lp with reservations := s.lp.reservations - 1 } } :=
      (linkOk_iff _).mpr ⟨hq, by dsimp only; omega, show s.lp.reservations - 1 = s.owed by omega⟩
    exact pushReply_linkOk released (by dsimp only; omega) ..

/-- The head request gone from the queue. -/
theorem dequeued_linkOk {s : State} (h : LinkOk s) : LinkOk s.dequeued := by
  rw [linkOk_iff] at h ⊢
  obtain ⟨hq, hp, hr⟩ := h
  refine ⟨?_, hp, hr⟩
  have := s.lp.requests.length_tail
  simp only [State.dequeued]
  omega

/-- What an owner must leave for its answer to keep the invariant. -/
def Answer.KeepsLink (s : State) : Answer → Prop
  | .accepted t _ => LinkSame s t
  | .deferred t => LinkOk t
  | .refused _ _ => True

theorem answer_linkOk {s : State} {r : Request} {a : Answer} (h : LinkOk s)
    (room : r.cls = .broadcast ∨ s.lp.replies.length + s.lp.reservations < 4) (ha : a.KeepsLink s) :
    LinkOk (s.answer r a) := by
  have push : ∀ t : State, LinkSame s t → ∀ code w restart,
      LinkOk (if r.cls = .broadcast then t else t.pushReply r.tag r.kind code w restart) := by
    intro t ht code w restart
    split
    · exact linkOk_of_same h ht
    · rename_i hc
      have := room.resolve_left hc
      exact pushReply_linkOk (linkOk_of_same h ht) (by rw [ht.replies, ht.reservations]; exact this) ..
  cases a with
  | accepted t w => exact push t ha _ _ _
  | deferred t => exact ha
  | refused why w => exact push s (.refl s) _ _ _

/-! ### Scans -/

theorem convertScan_linkSame (s : State) (x : Scan) : LinkSame s (s.convertScan x) := by
  have written : ∀ l : List (GaugeId × Sample),
      (l.foldl (fun v y => v.write x.start y) s.scv).zeroOp = s.scv.zeroOp := fun l =>
    foldl_keeps (fun v : StrainConverter => v.zeroOp = s.scv.zeroOp)
      (fun v (y : GaugeId × Sample) => v.write x.start y) (fun _ _ h => h) l s.scv rfl
  unfold State.convertScan
  dsimp only
  split
  · exact ⟨rfl, rfl, rfl, written _, rfl⟩
  · exact (raiseAll_linkSame _ _).after ⟨rfl, rfl, rfl, written _, rfl⟩

/-- A ZERO completion ends its operation, whose reply takes the place reserved for it (08 R154). -/
theorem zeroScan_linkOk {s : State} (h : LinkOk s) (x : Scan) : LinkOk (s.zeroScan x) := by
  obtain ⟨hq, hp, hr⟩ := (linkOk_iff s).mp h
  unfold State.zeroScan
  dsimp only
  split
  · rename_i op hop
    refine deferredReply_linkOk _ _ _ hq hp (hr.trans ?_)
    simp [State.owed, hop, Nat.add_comm]
  · rename_i hop
    exact linkOk_of_same h ⟨rfl, rfl, rfl, hop.symm, rfl⟩

theorem finishScan_linkOk {s : State} (h : LinkOk s) (x : Scan) : LinkOk (s.finishScan x) := by
  have cleared : LinkSame s { s with se := { s.se with scan := none } } := ⟨rfl, rfl, rfl, rfl, rfl⟩
  unfold State.finishScan
  dsimp only
  split
  · exact zeroScan_linkOk (linkOk_of_same h cleared) x
  · exact linkOk_of_same h (cleared.trans (convertScan_linkSame _ x))

theorem startScan_linkSame (s : State) (k : ScanKind) (p : Option (ZoneId × PhaseRequest)) :
    LinkSame s (s.startScan k p) := by
  have leave : (s.se.leave k p).bankReset = s.se.bankReset := by
    unfold ScanEngine.leave
    split
    · rfl
    · split <;> rfl
  exact ⟨rfl, rfl, rfl, rfl, leave⟩

theorem runScans_linkOk (n : Nat) : ∀ {s : State}, LinkOk s → LinkOk (s.runScans n) := by
  induction n with
  | zero => exact id
  | succ n ih =>
    intro s h
    unfold State.runScans
    split
    · split
      · exact ih (finishScan_linkOk h _)
      · exact h
    · split
      · exact ih (linkOk_of_same h (startScan_linkSame s _ _))
      · exact h

theorem consult_linkOk {s : State} (h : LinkOk s) : LinkOk s.consult := runScans_linkOk 14 h

theorem phaseRequest_linkOk {s : State} (h : LinkOk s) (p : PhaseRequest) : LinkOk (s.phaseRequest p) := by
  unfold State.phaseRequest
  dsimp only
  refine consult_linkOk ?_
  split <;> exact linkOk_of_same h ⟨rfl, rfl, rfl, rfl, rfl⟩

theorem scanAnswer_linkSame (s : State) (b : BankId) (v : Option (List Int)) :
    LinkSame s (s.scanAnswer b v) := by
  unfold State.scanAnswer
  split <;> exact ⟨rfl, rfl, rfl, rfl, rfl⟩

/-- The BANK RESET operation ends, and its reply takes the place reserved for it (07 R138). -/
theorem testEnd_linkOk {s : State} (h : LinkOk s) (b : BankId) (v : Option Int) :
    LinkOk (s.testEnd b v) := by
  obtain ⟨hq, hp, hr⟩ := (linkOk_iff s).mp h
  unfold State.testEnd
  split
  · exact h
  · rename_i op hop
    refine deferredReply_linkOk _ _ _ hq hp (hr.trans ?_)
    simp [State.owed, hop]

theorem conversionEnd_linkOk {s : State} (h : LinkOk s) (b : BankId) (c : Conversion)
    (v : Option (List Int)) : LinkOk (s.conversionEnd b c v) := by
  have sent : ∀ t : State, LinkOk t → LinkOk (t.setBank b (t.se.banks[b].sendWaiting t.osc)) :=
    fun t ht => linkOk_of_same ht ⟨rfl, rfl, rfl, rfl, rfl⟩
  unfold State.conversionEnd
  cases c with
  | scan gs => exact consult_linkOk (sent _ (linkOk_of_same h (scanAnswer_linkSame s b v)))
  | test g => exact consult_linkOk (sent _ (testEnd_linkOk h b _))

theorem dropWaitingScan_linkSame (s : State) (b : BankId) : LinkSame s (s.dropWaitingScan b) := by
  unfold State.dropWaitingScan
  dsimp only
  split
  · exact .refl s
  · exact (scanAnswer_linkSame _ _ _).after ⟨rfl, rfl, rfl, rfl, rfl⟩

/-! ### The strobe -/

theorem strobeEvent_linkOk {s : State} (h : LinkOk s) (q : Seen) (e : StrobeTask) :
    LinkOk (s.strobeEvent q e) := by
  cases e with
  | raise source z v => exact linkOk_of_same h (raise_linkSame s _)
  | loss z => exact linkOk_of_same h (syncLoss_linkSame s _)
  | scans l => exact foldl_keeps LinkOk _ (fun t p ht => phaseRequest_linkOk ht p) l s h
  | frame b => exact linkOk_of_same h (takeFrame_linkSame s _ _)

theorem strobeWork_linkOk {s : State} (h : LinkOk s) (started : ZoneId → Bool) (lost timeSet : Bool) :
    LinkOk (s.strobeWork started lost timeSet) := by
  unfold State.strobeWork
  dsimp only
  refine strobeEvents_keeps LinkOk _ _ (fun t q e _ ht => strobeEvent_linkOk ht q e.task) _ _ _ ?_
  refine linkOk_of_same ?_ (bumpFree_linkSame _)
  refine linkOk_of_same ?_ (foldl_linkSame _ (fun u z => zoneMoves_linkSame u _ z) _ _)
  exact linkOk_of_same h ⟨rfl, rfl, rfl, rfl, rfl⟩

theorem strobe_linkOk {s : State} (h : LinkOk s) (src : StrobeSource) (lost : Bool) :
    LinkOk (s.strobe src lost) := by
  have counted : LinkSame s (s.tbStrobe src) := by
    refine ⟨rfl, rfl, rfl, ?_, rfl⟩
    unfold State.tbStrobe
    dsimp only
    split <;> rfl
  have decided := linkSame_of_start (decideStarts_spec (s.tbStrobe src)).1
  unfold State.strobe
  exact strobeWork_linkOk (linkOk_of_same h (counted.trans decided)) _ _ _

/-- Sync regained, with the strobe of its edge. -/
theorem regain_linkOk {s : State} (h : LinkOk s) : LinkOk s.regain := by
  have cleared : LinkSame s ((List.finRange 4).foldl State.dropSyncReason
      { s with tb := { s.tb with syncLost := false, regainRun := 0, subRun := 0 } }) := by
    rw [dropSyncReasons_eq]
    exact ⟨rfl, rfl, rfl, rfl, rfl⟩
  unfold State.regain
  dsimp only
  split
  · exact linkOk_of_same h cleared
  · exact strobe_linkOk (linkOk_of_same h cleared) _ _

theorem lostEdge_linkOk {s : State} (h : LinkOk s) : LinkOk s.lostEdge := by
  unfold State.lostEdge
  split
  · exact linkOk_of_same h ⟨rfl, rfl, rfl, rfl, rfl⟩
  split
  · exact linkOk_of_same h ⟨rfl, rfl, rfl, rfl, rfl⟩
  split
  · exact regain_linkOk h
  · exact linkOk_of_same h ⟨rfl, rfl, rfl, rfl, rfl⟩

end Sys2Proof.Machine
end

section
/-! Every step keeps the link's queues and reservations: the requests, the events, the step. -/

namespace Sys2Proof.Machine
open Host Statements

/-! ### The requests -/

theorem TimeOnly.linkSame {s t : State} (h : TimeOnly s t) : LinkSame s t := by
  rw [h.only]; exact ⟨rfl, rfl, rfl, rfl, rfl⟩

theorem ActuatorsOnly.linkSame {named : ActId → Prop} {s t : State} (h : ActuatorsOnly named s t) :
    LinkSame s t := by
  rw [h.only]; exact ⟨rfl, rfl, rfl, rfl, rfl⟩

theorem zoneReply_leads {P : State → Prop} {t : State} (h : P t) (z : ZoneId) (w : Wire) :
    (zoneReply t z w).Leads P := h

theorem answerHold_linkSame (r : Request) (s : State) : (answerHold r s).Leads (LinkSame s) := by
  refine onZone_leads fun z => ?_
  split
  · exact zoneReply_leads (holdZone_linkSame s z .request) z _
  · trivial

theorem answerUnload_linkSame (r : Request) (s : State) : (answerUnload r s).Leads (LinkSame s) := by
  refine onZone_leads fun z => ?_
  dsimp only
  split
  · exact zoneReply_leads (unloadZone_linkSame s z false) z _
  · trivial

theorem answerRelease_linkSame (r : Request) (s : State) : (answerRelease r s).Leads (LinkSame s) := by
  refine onZone_leads fun z => ?_
  dsimp only
  split
  · refine zoneReply_leads ?_ z _
    unfold State.releaseZone
    dsimp only
    split <;> exact ⟨rfl, rfl, rfl, rfl, rfl⟩
  · trivial

theorem answerAckAlarm_linkSame (r : Request) (s : State) : (answerAckAlarm r s).Leads (LinkSame s) := by
  have latch : ∀ (t : State) (x : AlarmSource), LinkSame t (t.clearLatchOf x) := by
    intro t x
    cases x <;> exact ⟨rfl, rfl, rfl, rfl, rfl⟩
  have removed : ∀ p, LinkSame s (s.removeAlarms p) := fun _ => ⟨rfl, rfl, rfl, rfl, rfl⟩
  unfold answerAckAlarm ackReply
  dsimp only
  split; · trivial
  split
  · split
    · exact (removed _).trans (latch _ _)
    · trivial
  · split
    · exact (removed _).trans (foldl_linkSame _ (fun t (e : AlarmEntry) => latch t e.source) _ _)
    · trivial
  · show LinkSame s s.ackOverflow
    unfold State.ackOverflow
    dsimp only
    split <;> exact ⟨rfl, rfl, rfl, rfl, rfl⟩
  · trivial

theorem answerTrigger_linkSame (r : Request) (s : State) : (answerTrigger r s).Leads (LinkSame s) := by
  unfold answerTrigger
  split; · trivial
  split; · trivial
  exact trigger_linkSame s _

theorem answerReleaseBlock_linkSame (r : Request) (s : State) :
    (answerReleaseBlock r s).Leads (LinkSame s) := by
  have freed : ∀ n, LinkSame s (s.freeLocked n) := by
    intro n
    unfold State.freeLocked
    dsimp only
    split <;> exact ⟨rfl, rfl, rfl, rfl, rfl⟩
  unfold answerReleaseBlock
  dsimp only
  split; · trivial
  split; · trivial
  split
  · exact freed _
  · exact ⟨rfl, rfl, rfl, rfl, rfl⟩
  · trivial
  · trivial

/-- The requests whose owner changes nothing, or writes the fields of its own records: neither the link's
queues nor an operation in flight is among them. -/
theorem recordAnswers_linkSame : ∀ act ∈ [
    answerSetGroup, answerSetReporting, answerReadLinkCounts, answerRestart, answerDefineZone,
    answerSetCycleRate, answerPrepare, answerStart, answerResume, answerResetCycleCount, answerReadZone,
    answerReadAlarms, answerSetScanList, answerSetScanInterval, answerWriteTemplate,
    answerSetDefaultProfile, answerValidateTemplates, answerReadGauges, answerSetLimitRule,
    answerConfigureLoop, answerConfigureAe, answerReadCrackStatus, answerConfigureCapture,
    answerReadCapture, answerCaptureStatus],
    ∀ (r : Request) (s : State), (act r s).Leads (LinkSame s) := by
  simp only [List.forall_mem_cons, List.not_mem_nil, false_implies, implies_true, and_true]
  and_intros
  all_goals
    intro r s
    simp only [
      answerSetGroup, answerSetReporting, answerReadLinkCounts, answerRestart, answerDefineZone,
      answerSetCycleRate, answerPrepare, answerStart, answerResume, answerResetCycleCount,
      answerReadZone, answerReadAlarms, answerSetScanList, answerSetScanInterval, answerWriteTemplate,
      answerSetDefaultProfile, answerValidateTemplates, answerReadGauges, answerSetLimitRule,
      answerConfigureLoop, answerConfigureAe, answerReadCrackStatus, answerConfigureCapture,
      answerReadCapture, answerCaptureStatus, onZone, zoneReply]
    repeat' split
    all_goals first
      | exact Answer.leads_refused ..
      | exact LinkSame.mk rfl rfl rfl rfl rfl

/-- An operation that starts owes the reply for which a place is reserved (01 R12). -/
theorem started_linkOk {s t : State} {r : Request} (h : LinkOk s)
    (room : r.cls = .broadcast ∨ s.lp.replies.length + s.lp.reservations < 4)
    (hlp : t.lp = (s.reserve r).lp) (howed : t.owed = s.owed + r.deferredTag.isSome.toNat) : LinkOk t := by
  rw [linkOk_iff] at h ⊢
  obtain ⟨hq, hp, hr⟩ := h
  by_cases hc : r.cls = .broadcast
  · simp only [State.reserve, Request.deferredTag, hc, if_true, Option.isSome_none, Bool.toNat_false,
      Nat.add_zero] at hlp howed
    rw [hlp, howed]
    exact ⟨hq, hp, hr⟩
  · simp only [State.reserve, Request.deferredTag, hc, if_false, Option.isSome_some, Bool.toNat_true]
      at hlp howed
    have := room.resolve_left hc
    rw [hlp, howed]
    exact ⟨hq, by dsimp only; omega, by dsimp only; omega⟩

theorem answerBankReset_keepsLink {r : Request} {s : State} (h : LinkOk s)
    (room : r.cls = .broadcast ∨ s.lp.replies.length + s.lp.reservations < 4) :
    (answerBankReset r s).KeepsLink s := by
  unfold answerBankReset
  split; · trivial
  split; · trivial
  split; · trivial
  rename_i b _ busy
  have none : s.se.bankReset = none := by simpa using busy
  refine started_linkOk h room rfl ?_
  have kept : ((s.reserve r).startTest b r.deferredTag).scv.zeroOp = s.scv.zeroOp := by
    unfold State.reserve
    split <;> rfl
  rw [State.owed, kept, State.owed, none]
  rfl

theorem answerZeroGauges_keepsLink {r : Request} {s : State} (h : LinkOk s)
    (room : r.cls = .broadcast ∨ s.lp.replies.length + s.lp.reservations < 4) :
    (answerZeroGauges r s).KeepsLink s := by
  unfold answerZeroGauges
  split; · trivial
  split; · trivial
  split; · trivial
  rename_i busy
  have none : s.scv.zeroOp = none := by simpa using busy
  refine consult_linkOk (started_linkOk h room rfl ?_)
  have kept : (s.reserve r).se.bankReset = s.se.bankReset := by
    unfold State.reserve
    split <;> rfl
  show r.deferredTag.isSome.toNat + ((s.reserve r).se.bankReset.bind BankResetOp.tag).isSome.toNat = _
  rw [kept, State.owed, none]
  simp [Nat.add_comm]

/-- Every owner's answer keeps the invariant where the request may be taken. -/
theorem requestArm_keepsLink {i : Instr} {p : Byte → Bool} {act : Request → State → Answer}
    (ha : requestArm i = some (p, act)) {r : Request} {s : State} (h : LinkOk s)
    (room : r.cls = .broadcast ∨ s.lp.replies.length + s.lp.reservations < 4) :
    (act r s).KeepsLink s := by
  have same : ∀ a : Answer, a.Leads (LinkSame s) → a.KeepsLink s := by
    intro a ha
    cases a with
    | accepted t w => exact ha
    | deferred t => exact linkOk_of_same h ha
    | refused why w => trivial
  cases i <;> cases ha
  case unknownKindRequest => trivial
  case bankReset => exact answerBankReset_keepsLink h room
  case zeroGauges => exact answerZeroGauges_keepsLink h room
  all_goals refine same _ ?_
  case identify | status | readTime => exact answerRead_leads (.refl s) _ r
  case setTime => exact (answerSetTime_leads r s).mono fun _ ht => ht.1.linkSame
  case setSyncRole => exact (answerSetSyncRole_leads r s).mono fun _ ht => ht.1.linkSame
  case configureActuator => exact (answerConfigureActuator_leads r s).mono fun _ ht => ht.linkSame
  case enableActuator => exact (answerEnableActuator_leads r s).mono fun _ ht => ht.linkSame
  case disableActuator => exact (answerDisableActuator_leads r s).mono fun _ ht => ht.linkSame
  case setDryRun => exact (answerSetDryRun_leads r s).mono fun _ ht => ht.linkSame
  case loadSegments => exact (answerLoadSegments_leads r s).mono fun _ ht => ht.linkSame
  case flushProgram => exact (answerFlushProgram_leads r s).mono fun _ ht => ht.linkSame
  case clearFault => exact (answerClearFault_leads r s).mono fun _ ht => ht.linkSame
  case readActuator => exact (answerReadActuator_leads r s).mono fun _ ht => ht.linkSame
  case hold => exact answerHold_linkSame r s
  case unload => exact answerUnload_linkSame r s
  case release => exact answerRelease_linkSame r s
  case ackAlarm => exact answerAckAlarm_linkSame r s
  case trigger => exact answerTrigger_linkSame r s
  case releaseBlock => exact answerReleaseBlock_linkSame r s
  all_goals exact recordAnswers_linkSame _ (by simp) r s

theorem request_linkOk {i : Instr} {p : Byte → Bool} {act : Request → State → Answer}
    (ha : requestArm i = some (p, act)) {s t : State} (h : LinkOk s) (hs : exec i s = .next t) :
    LinkOk t := by
  rcases request_cases ha hs with rfl | ⟨r, rest, -, hm, rfl⟩
  · exact arbitrate_linkOk h
  · have room := ((mayTake_iff s r).mp hm).2
    exact arbitrate_linkOk (answer_linkOk (dequeued_linkOk h) room
      (requestArm_keepsLink ha (dequeued_linkOk h) room))

/-! ### The events and the step -/

theorem atExpiry_linkOk {s : State} (h : LinkOk s) (x : Timer) {f : State → State}
    (hf : ∀ t, LinkOk t → LinkOk (f t)) : LinkOk (s.atExpiry x f) :=
  atExpiry_keeps LinkOk s x f h (fun _ => linkOk_of_same h ⟨rfl, rfl, rfl, rfl, rfl⟩) hf

theorem lineEvent_linkOk {i : Instr} (hi : LineEvent i) {s t : State} (h : LinkOk s)
    (hs : exec i s = .next t) : LinkOk t := by
  obtain ⟨ht, hr, -⟩ := lineEvent_effect hi hs
  rw [linkOk_iff] at h ⊢
  obtain ⟨hq, hp, hw⟩ := h
  have replies : t.lp.replies = s.lp.replies := by rw [hr.only]
  have reservations : t.lp.reservations = s.lp.reservations := by rw [hr.only]
  have owed : t.owed = s.owed := by rw [ht]; rfl
  rw [replies, reservations, owed]
  exact ⟨hr.requests hq, hp, hw⟩

theorem frameEnd_linkSame (s : State) : LinkSame s s.frameEnd := by
  unfold State.frameEnd
  split
  · exact .refl s
  · dsimp only
    split <;> exact ⟨rfl, rfl, rfl, rfl, rfl⟩

theorem linkOk_of_reset (s : State) (hq : s.lp.requests = []) (hp : s.lp.replies = [])
    (hr : s.lp.reservations = 0) (hz : s.scv.zeroOp = none) (hb : s.se.bankReset = none) : LinkOk s := by
  rw [linkOk_iff, State.owed, hq, hp, hr, hz, hb]
  simp

theorem bankAnswer_linkOk {s t : State} (h : LinkOk s) {b : BankId} {values : List Int}
    (hs : exec (.bankAnswer b values) s = .next t) : LinkOk t := by
  have set : ∀ x : Bank, LinkOk (s.setBank b x) := fun _ => linkOk_of_same h ⟨rfl, rfl, rfl, rfl, rfl⟩
  simp only [exec, execBankAnswer] at hs
  split at hs
  · cases hs; exact arbitrate_linkOk (set _)
  split at hs
  · cases hs; exact arbitrate_linkOk (set _)
  split at hs
  · cases hs; exact arbitrate_linkOk (conversionEnd_linkOk (set _) _ _ _)
  · cases hs; exact arbitrate_linkOk (set _)

theorem bankTimeout_linkOk {s : State} (h : LinkOk s) (b : BankId) :
    ∀ t, exec (.bankTimeout b) s = .next t → LinkOk t := by
  rintro _ ⟨⟩
  refine atExpiry_linkOk h _ fun t ht => ?_
  split
  · exact ht
  · have timedOut : LinkSame t (t.setBank b t.se.banks[b].timedOut) := ⟨rfl, rfl, rfl, rfl, rfl⟩
    exact arbitrate_linkOk (conversionEnd_linkOk
      (linkOk_of_same ht (timedOut.trans (dropWaitingScan_linkSame _ b))) _ _ _)

theorem freeScanExpiry_linkOk {s : State} (h : LinkOk s) :
    ∀ t, exec .freeScanExpiry s = .next t → LinkOk t := by
  rintro _ ⟨⟩
  refine atExpiry_linkOk h _ fun t ht => ?_
  dsimp only
  split
  · exact linkOk_of_same ht ⟨rfl, rfl, rfl, rfl, rfl⟩
  · exact arbitrate_linkOk (consult_linkOk (linkOk_of_same ht ⟨rfl, rfl, rfl, rfl, rfl⟩))

theorem loopSample_linkOk {s : State} (h : LinkOk s) (levels : BitVec 32) :
    ∀ t, exec (.loopSample levels) s = .next t → LinkOk t := by
  rintro _ ⟨⟩
  refine atExpiry_linkOk h _ fun t ht => ?_
  dsimp only
  split
  · exact linkOk_of_same ht ⟨rfl, rfl, rfl, rfl, rfl⟩
  · refine arbitrate_linkOk (linkOk_of_same ?_ (raiseAll_linkSame _ _))
    exact linkOk_of_same ht ⟨rfl, rfl, rfl, rfl, rfl⟩

theorem feedbackArrival_linkOk {s : State} (h : LinkOk s) {a : ActId} {force stroke : Int}
    {status : DriveStatus} {t : State} (hs : exec (.feedbackArrival a force stroke status) s = .next t) :
    LinkOk t := by
  have set : ∀ c, LinkOk (s.setChan a c) := fun _ => linkOk_of_same h ⟨rfl, rfl, rfl, rfl, rfl⟩
  simp only [exec, execFeedbackArrival] at hs
  split at hs
  · cases hs; exact arbitrate_linkOk (linkOk_of_same (set _) (memberFault_linkSame _ a))
  · cases hs; exact set _

theorem syncEdge_linkOk {s t : State} (h : LinkOk s) (hs : exec .syncEdge s = .next t) : LinkOk t := by
  simp only [exec, execSyncEdge] at hs
  split at hs
  · cases hs; exact h
  · cases hs; exact h
  split at hs
  · cases hs; exact arbitrate_linkOk (lostEdge_linkOk h)
  split at hs
  · cases hs; exact linkOk_of_same h ⟨rfl, rfl, rfl, rfl, rfl⟩
  · obtain rfl := Outcome.next.inj hs
    have counted : LinkOk { s with tb := { s.tb with subRun := 0 } } :=
      linkOk_of_same h ⟨rfl, rfl, rfl, rfl, rfl⟩
    exact arbitrate_linkOk (strobe_linkOk counted _ _)

theorem oscillatorStrobe_linkOk {s t : State} (h : LinkOk s) (hs : exec .oscillatorStrobe s = .next t) :
    LinkOk t := by
  simp only [exec, execOscillatorStrobe] at hs
  split at hs
  · cases hs; exact atExpiry_linkOk h _ fun t ht => arbitrate_linkOk (strobe_linkOk ht _ _)
  · cases hs; exact h

theorem substituteStrobe_linkOk {s t : State} (h : LinkOk s) (hs : exec .substituteStrobe s = .next t) :
    LinkOk t := by
  simp only [exec, execSubstituteStrobe] at hs
  split at hs
  · cases hs; exact h
  · cases hs
    refine atExpiry_linkOk h _ fun t ht => ?_
    have counted : LinkOk { t with tb := t.tb.substitute } :=
      linkOk_of_same ht ⟨rfl, rfl, rfl, rfl, rfl⟩
    exact arbitrate_linkOk (strobe_linkOk counted _ _)

theorem aeHit_linkOk {s t : State} (h : LinkOk s) {ch : AeId} (hs : exec (.aeHit ch) s = .next t) :
    LinkOk t := by
  simp only [exec, execAeHit] at hs
  split at hs
  · cases hs; exact h
  split at hs
  · cases hs; exact linkOk_of_same h ⟨rfl, rfl, rfl, rfl, rfl⟩
  split at hs <;> (cases hs; exact linkOk_of_same h ⟨rfl, rfl, rfl, rfl, rfl⟩)

/-- Every command that is the taking of no request keeps the link's queues and reservations. -/
theorem event_linkOk {i : Instr} (ha : requestArm i = none) {s t : State} (h : LinkOk s)
    (hs : exec i s = .next t) : LinkOk t := by
  cases i <;> cases ha
  case byteReceived b stop => exact lineEvent_linkOk (.byte b stop) h hs
  case gap => exact lineEvent_linkOk .gap h hs
  case lineBreak => exact lineEvent_linkOk .brk h hs
  case lineReturnsToMark => exact lineEvent_linkOk .toMark h hs
  case uplinkFrameEnd =>
    cases hs
    exact atExpiry_linkOk h _ fun t ht => arbitrate_linkOk (linkOk_of_same ht (frameEnd_linkSame t))
  case restartEffect =>
    cases hs
    exact atExpiry_linkOk h _ fun t _ => linkOk_of_reset _ rfl rfl rfl rfl rfl
  case reset addr => cases hs; exact linkOk_of_reset _ rfl rfl rfl rfl rfl
  case oscillatorStrobe => exact oscillatorStrobe_linkOk h hs
  case substituteStrobe => exact substituteStrobe_linkOk h hs
  case syncPulseEnd =>
    cases hs; exact atExpiry_linkOk h _ fun t ht => linkOk_of_same ht ⟨rfl, rfl, rfl, rfl, rfl⟩
  case regainRunTimeout =>
    cases hs; exact atExpiry_linkOk h _ fun t ht => linkOk_of_same ht ⟨rfl, rfl, rfl, rfl, rfl⟩
  case syncEdge => exact syncEdge_linkOk h hs
  case feedbackArrival => exact feedbackArrival_linkOk h hs
  case freeScanExpiry => exact freeScanExpiry_linkOk h _ hs
  case bankAnswer => exact bankAnswer_linkOk h hs
  case bankTimeout b => exact bankTimeout_linkOk h b _ hs
  case bankSettlingEnd =>
    cases hs; exact atExpiry_linkOk h _ fun t ht => linkOk_of_same ht ⟨rfl, rfl, rfl, rfl, rfl⟩
  case reportDelayRunOut =>
    cases hs
    exact atExpiry_linkOk h _ fun t ht =>
      arbitrate_linkOk (linkOk_of_same ht ⟨rfl, rfl, rfl, rfl, rfl⟩)
  case loopSample levels => exact loopSample_linkOk h levels _ hs
  case aeHit => exact aeHit_linkOk h hs

theorem exec_linkOk {i : Instr} {s t : State} (h : LinkOk s) (hs : exec i s = .next t) : LinkOk t := by
  cases ha : requestArm i with
  | some a => exact request_linkOk ha h hs
  | none => exact event_linkOk ha h hs

/-- Settles O58: the queue's rest behind the command, or one microsecond of the oscillator, leaves the link
alone, and every command keeps its queues and reservations. -/
theorem everyStepKeepsTheLinkQueues : Obligations.EveryStepKeepsTheLinkQueues := by
  intro s t h hs
  unfold step at hs
  split at hs
  · cases hs
    unfold State.tick
    split
    · exact linkOk_of_same h ⟨rfl, rfl, rfl, rfl, rfl⟩
    · exact h
  · rename_i c rest _
    have queued : LinkOk { s with pending := rest } := linkOk_of_same h ⟨rfl, rfl, rfl, rfl, rfl⟩
    exact exec_linkOk queued hs

end Sys2Proof.Machine
end

section
/-! Reset, restart and the timers. -/

namespace Sys2Proof.Machine
open Host Statements

/-! ### The reset values -/

theorem State.reset_chan (a : ActId) : State.reset.chan a = Channel.reset := by
  simp [State.chan, State.reset]

theorem State.reset_zone (z : ZoneId) : State.reset.zone z = Zone.reset := by
  simp [State.zone, State.reset, ZoneSupervisor.reset]

theorem State.afterReset_chan (s : State) (addr : Nat) (a : ActId) :
    (s.afterReset addr).chan a = Channel.reset := State.reset_chan a

theorem State.afterReset_zone (s : State) (addr : Nat) (z : ZoneId) :
    (s.afterReset addr).zone z = Zone.reset := State.reset_zone z

theorem State.afterRestart_chan (s : State) (a : ActId) : s.afterRestart.chan a = Channel.reset :=
  State.reset_chan a

theorem State.afterRestart_zone (s : State) (z : ZoneId) : s.afterRestart.zone z = Zone.reset :=
  State.reset_zone z

/-- Settles O4: each block is the reset block; the six ADDR pins hold an address below 64. -/
theorem resetGivesTheResetValues : Obligations.ResetGivesTheResetValues := by
  intro s addr haddr
  have pins : (BitVec.ofNat 6 addr).toNat = addr := by
    rw [BitVec.toNat_ofNat]
    exact Nat.mod_eq_of_lt haddr
  refine ⟨s.afterReset addr, rfl, pins, ?_⟩
  and_intros
  case _ : ∀ a, _ = Channel.reset => exact s.afterReset_chan addr
  case _ : ∀ z, _ = Zone.reset => exact s.afterReset_zone addr
  all_goals rfl

/-- A restart that is due takes effect at the present moment (01 R23, log 21). -/
theorem expire_restart {s u : State} (h : s.expire .restart = some u) : u = s := by
  obtain ⟨d, hd, -, rfl⟩ := expire_eq s u _ h
  simp only [State.deadline] at hd
  split at hd
  · injection hd with hd
    rw [← hd, Nat.max_self]
  · simp at hd

/-- The SYNC line after a restart: driven by a MASTER alone (02 R35). -/
theorem restarted_line (t : TimeBase) : (t.role ≠ .master → t.restarted.line = .released) ∧
    (t.role = .master → t.restarted.line ≠ .released) := by
  constructor <;> intro h
  · simp [TimeBase.restarted, h]
  · simp only [TimeBase.restarted, h, if_true]
    split <;> simp

/-- Settles O5: the effect is taken of the present state, whose kept fields stand and whose other blocks are
the reset blocks. -/
theorem restartResetsAllButFiveThings : Obligations.RestartResetsAllButFiveThings := by
  intro s u h
  have effect : exec .restartEffect s = .next s.afterRestart := by
    rw [show exec .restartEffect s = .next u.afterRestart from congrArg Outcome.next (atExpiry_some s u _ _ h),
      expire_restart h]
  obtain ⟨released, driven⟩ := restarted_line s.tb
  refine ⟨s.afterRestart, effect, ?_⟩
  and_intros
  case _ : _ → _ = SyncLine.released => exact released
  case _ : _ → _ ≠ SyncLine.released => exact driven
  case _ : ∀ a, _ = Channel.reset => exact s.afterRestart_chan
  case _ : ∀ z, _ = Zone.reset => exact s.afterRestart_zone
  all_goals rfl

/-! ### The invariants right after reset -/

theorem channelOk_reset : ChannelOk Channel.reset :=
  ⟨by decide, by decide, by decide, by decide, by decide, by decide, fun _ => rfl⟩

theorem not_isActive_reset (b : BlockId) : ¬ State.reset.cu.blocks[b].isActive := by
  simp [State.reset, CaptureUnit.reset, Block.reset, Block.isActive]

/-- Settles O60: the alarm list, the queues and the records are empty, every zone IDLE and without members,
every channel OFF, no block RECORDING or POST. -/
theorem resetSatisfiesTheInvariants : Obligations.ResetSatisfiesTheInvariants := by
  have alarms : AlarmListOk State.reset := ⟨Nat.zero_le _, List.nodup_nil⟩
  have noRun : NoRunUnderAlarm State.reset := fun _ _ => rfl
  have reasons : ReasonsOnlyInHold State.reset := fun z _ => by rw [State.reset_zone]; rfl
  have members : OneZoneEach State.reset := fun y z _ => by
    rw [State.reset_zone, State.reset_zone]; rfl
  have channels : ChannelsOk State.reset := fun a => by
    rw [State.reset_chan]; exact channelOk_reset
  have link : LinkOk State.reset := linkOk_of_reset _ rfl rfl rfl rfl rfl
  have strain : StrainOk State.reset := ⟨Nat.zero_le _, Nat.zero_le _⟩
  have capture : CaptureOk State.reset :=
    ⟨fun a _ ha => absurd ha (not_isActive_reset a), fun _ => not_isActive_reset⟩
  exact ⟨alarms, noRun, reasons, members, channels, link, strain, capture⟩

/-! ### The timers -/

theorem onSchedule_iff (t : TimeBase) : t.onSchedule = true ↔ t.role ≠ .follower ∨ t.syncLost = true := by
  simp [TimeBase.onSchedule]

/-- Strobes are due each 500 microseconds on the oscillator schedule (02 R27, R29). -/
theorem deadline_strobe_onSchedule {s : State} (h : s.tb.role ≠ .follower ∨ s.tb.syncLost = true) :
    s.deadline .strobe = some (s.tb.lastStrobeAt + 500) := by
  simp [State.deadline, (onSchedule_iff s.tb).mpr h]

/-- A FOLLOWER in sync waits 750 microseconds for an edge (02 R28). -/
theorem deadline_strobe_follower {s : State} (hr : s.tb.role = .follower) (hl : s.tb.syncLost = false) :
    s.deadline .strobe = some (s.tb.lastStrobeAt + 750) := by
  simp [State.deadline, TimeBase.onSchedule, hr, hl]

theorem deadline_regain (s : State) : s.deadline .regain =
    if s.tb.role = .follower ∧ s.tb.syncLost = true ∧ 0 < s.tb.regainRun
    then some (s.tb.lastEdgeAt + 750) else none := by
  simp [State.deadline, and_assoc]

theorem deadline_bank (s : State) (b : BankId) : s.deadline (.bank b) =
    if s.se.banks[b].outstanding = none then none else some s.se.banks[b].timeoutAt := by
  cases h : s.se.banks[b].outstanding <;> (simp only [State.deadline, h]; rfl)

theorem deadline_gap (s : State) : s.deadline .gap =
    if s.lp.rx.mode ≠ .hunt ∧ s.lp.line = .mark then some (s.lp.lastByteAt + 20) else none := by
  simp [State.deadline]

theorem deadline_delay_running {s : State} {since : Nat} (h : s.sq.timer = .running since) :
    s.deadline .delay = some (since + if s.se.interval = 0 then 400000 else 4000 * s.se.interval) := by
  simp only [State.deadline, h, ScanEngine.delay]

theorem deadline_delay_idle {s : State} (h : s.sq.timer = .stopped ∨ s.sq.timer = .runOut) :
    s.deadline .delay = none := by
  rcases h with h | h <;> simp only [State.deadline, h]

/-- A timer that does not run, or from whose moment another keeps time, does not run out (log 4). -/
theorem expire_eq_none {s : State} {t : Timer} (h : s.deadline t = none ∨
    ∃ d x m, s.deadline t = some d ∧ s.limit x = some m ∧ m < d) : s.expire t = none := by
  rcases h with h | ⟨d, x, m, hd, hx, hm⟩
  · simp only [State.expire, h]
  · have kept : ¬ s.reachable d = true := fun hr =>
      absurd ((reachable_iff s d).mp hr x m hx) (Nat.not_le.mpr hm)
    simp only [State.expire, hd, kept, if_false, Bool.false_eq_true]

/-- A timer's command while the timer does not run out now: nothing happens (log 2). -/
theorem exec_timerCommand {s : State} {b : BankId} {levels : BitVec 32} {p : Instr × Timer}
    (hp : p ∈ timerCommands b levels) (h : s.expire p.2 = none) : exec p.1 s = .next s := by
  have idle : ∀ f : State → State, (.next (s.atExpiry p.2 f) : Result) = .next s := fun f => by
    rw [atExpiry_none s p.2 f h]
  simp only [timerCommands, List.mem_cons, List.not_mem_nil, or_false] at hp
  rcases hp with rfl | rfl | rfl | rfl | rfl | rfl | rfl | rfl | rfl | rfl | rfl | rfl
  · exact (if_congr Iff.rfl (idle _) rfl).trans (ite_self _)
  · exact (if_congr Iff.rfl rfl (idle _)).trans (ite_self _)
  all_goals exact idle _

/-- With no command waiting, time passes unless a timer's limit keeps it (log 3, 4). -/
theorem step_idle {s : State} (h : s.pending = []) :
    ((∀ t d, s.limit t = some d → s.osc + 1 ≤ d) → step s = .next { s with osc := s.osc + 1 }) ∧
    ((∃ t d, s.limit t = some d ∧ d < s.osc + 1) → step s = .next s) := by
  have tick : step s = .next s.tick := by simp only [step, h]
  rw [tick, State.tick]
  constructor
  · intro free
    rw [if_pos ((reachable_iff s _).mpr free)]
  · rintro ⟨t, d, ht, hd⟩
    rw [if_neg fun hr => absurd ((reachable_iff s _).mp hr t d ht) (Nat.not_le.mpr hd)]

/-- Settles O3, clause by clause from the timers' equations. -/
theorem timersAndIdleTime : Obligations.TimersAndIdleTime := by
  intro s
  refine ⟨deadline_strobe_onSchedule, deadline_strobe_follower, rfl, deadline_regain s, rfl, rfl, rfl,
    fun b => ⟨deadline_bank s b, rfl⟩, fun since => deadline_delay_running, deadline_delay_idle, rfl,
    deadline_gap s, limit_of_ne_gap s, rfl, expire_of_reachable s, fun t => expire_eq_none, ?_, step_idle⟩
  intro b levels p hp h
  refine ⟨exec_timerCommand hp h, fun rest hq => ?_⟩
  have queued : ({ s with pending := rest } : State).expire p.2 = none := by
    rw [expire_pending, h]; rfl
  simp only [step, hq]
  exact exec_timerCommand hp queued

end Sys2Proof.Machine
end

section
/-! The requests' answers: what giving one does, requests that wait, wrong lengths and numbers, the Link
Port's own requests; and what the line's events and the requests leave unchanged. -/

namespace Sys2Proof.Machine
open Host Statements

/-! ### Giving an answer -/

theorem encN_one (v : Nat) : encN 1 v = [some (BitVec.ofNat 8 v)] := by
  simp [encN, beBytes]

/-- A reply: the kind, the outcome code, and what follows (12 R205). -/
theorem pushReply_eq (s : State) (tag kind : Byte) (code : Nat) (w : Wire) (restart : Bool) :
    s.pushReply tag kind code w restart = { s with
      free := s.free + 1
      lp := { s.lp with replies := s.lp.replies ++
        [⟨tag, kind :: BitVec.ofNat 8 code :: fillFrom s.free 2 w, restart⟩] } } := by
  simp [State.pushReply, encN_one, fillFrom]

/-- Settles O10: the branches of giving an answer, and that a head request that may not be taken stays. -/
theorem repliesAndWaitingRequests : Obligations.RepliesAndWaitingRequests := by
  constructor
  · intro s t r w why
    refine ⟨rfl, fun hc => ⟨if_pos hc, if_pos hc⟩, fun hc => ⟨?_, ?_⟩⟩
    · exact (if_neg hc).trans (pushReply_eq ..)
    · exact (if_neg hc).trans (pushReply_eq ..)
  · intro s r rest hq hw i hi
    have arm : (requestArm i).isSome = true := by
      revert i; decide
    obtain ⟨⟨p, act⟩, ha⟩ := Option.isSome_iff_exists.mp arm
    have waits : s.mayTake r = false := by
      rw [Bool.eq_false_iff, Ne, mayTake_iff]
      rintro ⟨hidle, hroom⟩
      rcases hw with hw | ⟨hc, hfull⟩
      · exact hw hidle
      · have := hroom.resolve_left hc
        omega
    rw [exec_of_requestArm ha, takeIf_waits hq (Or.inr waits)]

/-! ### Wrong lengths and numbers that name nothing -/

/-- The command `i` takes the requests of kind `k`, and refuses them unless their payload has `n` bytes. -/
def FixedLength (i : Instr) (k : Byte) (n : Nat) : Prop :=
  ∃ act, requestArm i = some (ofKind k, act) ∧
    ∀ (r : Request) (s : State), r.payload.length ≠ n → act r s = .no .malformed

theorem FixedLength.exec_malformed {i : Instr} {k : Byte} {n : Nat} (h : FixedLength i k n) {s : State}
    {r : Request} (hr : AtHead s k r) (hn : r.payload.length ≠ n) : exec i s = refused s r .malformed := by
  obtain ⟨act, ha, hact⟩ := h
  exact exec_refused ha hr (hact r _ hn)

theorem onChannel_range {r : Request} (hl : r.payload.length = 1) (h : 7 < field r.payload 0 1)
    (f : ActId → Answer) : onChannel r f = .no .range := by
  have hn : index? 8 (field r.payload 0 1) = none := index?_eq_none.mpr h
  simp only [onChannel, hl, hn, ne_eq, not_true, if_false]

theorem onZone_range {r : Request} {n : Nat} (hl : r.payload.length = n) (h : 3 < field r.payload 0 1)
    (f : ZoneId → Answer) : onZone n r f = .no .range := by
  have hn : index? 4 (field r.payload 0 1) = none := index?_eq_none.mpr h
  simp only [onZone, hl, hn, ne_eq, not_true, if_false]

/-- The command `i` takes the requests of kind `k`, and refuses those of `n` bytes that begin with a number
above `top`. -/
def NumberRange (i : Instr) (k : Byte) (n top : Nat) : Prop :=
  ∃ act, requestArm i = some (ofKind k, act) ∧ ∀ (r : Request) (s : State),
    r.payload.length = n → top < field r.payload 0 1 → act r s = .no .range

theorem NumberRange.exec_range {i : Instr} {k : Byte} {n top : Nat} (h : NumberRange i k n top) {s : State}
    {r : Request} (hr : AtHead s k r) (hn : r.payload.length = n) (ht : top < field r.payload 0 1) :
    exec i s = refused s r .range := by
  obtain ⟨act, ha, hact⟩ := h
  exact exec_refused ha hr (hact r _ hn ht)

theorem answerBankReset_range {r : Request} (s : State) (hl : r.payload.length = 1)
    (h : 3 < field r.payload 0 1) : answerBankReset r s = .no .range := by
  have hn : index? 4 (field r.payload 0 1) = none := index?_eq_none.mpr h
  simp only [answerBankReset, hl, hn, ne_eq, not_true, if_false]

theorem answerReleaseBlock_range {r : Request} (s : State) (hl : r.payload.length = 1)
    (h : 3 < field r.payload 0 1) : answerReleaseBlock r s = .no .range := by
  have hn : index? 4 (field r.payload 0 1) = none := index?_eq_none.mpr h
  simp only [answerReleaseBlock, hl, hn, ne_eq, not_true, if_false]

/-- Settles O11: the length is each owner's first test, the number's range its second. -/
theorem malformedRequestsAndUnknownNumbers : Obligations.MalformedRequestsAndUnknownNumbers := by
  refine ⟨fun s r x hx hr hn => ?_, fun s r hr => ⟨fun hk => ?_, fun hk => ?_⟩,
    fun s r => ⟨fun hl ht x hx hr => ?_, fun ht x hx hl hr => ?_⟩⟩
  · have fixed : FixedLength x.1 x.2.1 x.2.2 := by
      clear hr hn
      revert x
      simp only [List.forall_mem_cons, List.not_mem_nil, false_implies, implies_true, and_true]
      and_intros
      all_goals exact ⟨_, rfl, fun r s h => if_pos h⟩
    exact fixed.exec_malformed hr hn
  · obtain ⟨rest, hq⟩ := hr.1
    have unknown : (!requestKinds.contains r.kind) = true := by simpa using hk
    rw [exec_of_requestArm (i := .unknownKindRequest) rfl,
      takeIf_ready s _ _ r rest hq unknown (mayTake_of_atHead hr)]
    rfl
  · obtain ⟨rest, hq⟩ := hr.1
    have known : (!requestKinds.contains r.kind) = false := by simpa using hk
    rw [exec_of_requestArm (i := .unknownKindRequest) rfl, takeIf_waits hq (Or.inl known)]
  · have range : NumberRange x.1 x.2 1 7 := by
      clear hr
      revert x
      simp only [List.forall_mem_cons, List.not_mem_nil, false_implies, implies_true, and_true]
      and_intros
      all_goals exact ⟨_, rfl, fun r s hl ht => onChannel_range hl ht _⟩
    exact range.exec_range hr hl ht
  · have range : NumberRange x.1 x.2.1 x.2.2 3 := by
      clear hr hl
      revert x
      simp only [List.forall_mem_cons, List.not_mem_nil, false_implies, implies_true, and_true]
      and_intros
      case _ : NumberRange .bankReset _ _ _ => exact ⟨_, rfl, fun r s => answerBankReset_range s⟩
      case _ : NumberRange .releaseBlock _ _ _ => exact ⟨_, rfl, fun r s => answerReleaseBlock_range s⟩
      all_goals exact ⟨_, rfl, fun r s hl ht => onZone_range hl ht _⟩
    exact range.exec_range hr hl ht

/-! ### The Link Port's own requests -/

theorem flag?_of_eq {v : Nat} (b : Bool) (h : v = b.toNat) : flag? v = some b := by
  subst h; cases b <;> rfl

theorem flag?_eq_none {v : Nat} : flag? v = none ↔ 1 < v := by
  unfold flag?
  split
  · simp_all
  split
  · simp_all
  · simp; omega

/-- SET GROUP (01 R22). -/
theorem exec_setGroup {s : State} {r : Request} (hr : AtHead s 0x03 r) (hl : r.payload.length = 2) :
    let d := s.dequeued
    let p := r.payload
    let old := encOpt 1 (s.lp.groupAddr.map fun b => [some b])
    (field p 0 1 = 0 →
      exec .setGroup s = accepted s r { d with lp := { d.lp with groupAddr := none } } old) ∧
    (field p 0 1 = 1 → 64 ≤ field p 1 1 → field p 1 1 ≤ 254 → exec .setGroup s =
      accepted s r { d with lp := { d.lp with groupAddr := some (byteAt p 1) } } old) ∧
    (field p 0 1 = 1 → field p 1 1 < 64 ∨ field p 1 1 = 255 → exec .setGroup s = refused s r .range) ∧
    (1 < field p 0 1 → exec .setGroup s = refused s r .range) := by
  refine ⟨fun h0 => exec_accepted rfl hr ?_, fun h1 hlow hhigh => exec_accepted rfl hr ?_,
    fun h1 hout => exec_refused rfl hr ?_, fun h => exec_refused rfl hr ?_⟩ <;>
    simp only [answerSetGroup, hl, ne_eq, not_true, if_false]
  · rw [flag?_of_eq false h0]; rfl
  · rw [flag?_of_eq true h1]
    exact if_neg (by simp; omega)
  · rw [flag?_of_eq true h1]
    exact if_pos (by simp; omega)
  · rw [flag?_eq_none.mpr h]

/-- SET REPORTING (01 R18). -/
theorem exec_setReporting {s : State} {r : Request} (hr : AtHead s 0x04 r) (hl : r.payload.length = 4) :
    let d := s.dequeued
    let p := r.payload
    (∀ strain capture : Bool, field p 2 1 = strain.toNat → field p 3 1 = capture.toNat →
      (field p 0 2 ∈ [64, 256, 1024, 2048] → exec .setReporting s = accepted s r
        { d with lp := { d.lp with reporting := ⟨field p 0 2, strain, capture⟩ } } s.lp.reporting.enc) ∧
      (field p 0 2 ∉ [64, 256, 1024, 2048] → exec .setReporting s = refused s r .range)) ∧
    (1 < field p 2 1 ∨ 1 < field p 3 1 → exec .setReporting s = refused s r .range) := by
  refine ⟨fun strain capture h2 h3 => ⟨fun h => exec_accepted rfl hr ?_, fun h => exec_refused rfl hr ?_⟩,
    fun h => exec_refused rfl hr ?_⟩ <;> simp only [answerSetReporting, hl, ne_eq, not_true, if_false]
  · rw [flag?_of_eq strain h2, flag?_of_eq capture h3]
    exact if_pos (by simpa [or_assoc] using h)
  · rw [flag?_of_eq strain h2, flag?_of_eq capture h3]
    exact if_neg (by simpa [or_assoc] using h)
  · rcases h with h | h
    · rw [flag?_eq_none.mpr h]
    · rw [flag?_eq_none.mpr h]
      cases flag? (field r.payload 2 1) <;> rfl

theorem quiet_iff (s : State) :
    s.quiet = true ↔ ∀ z, (s.zone z).state = .idle ∨ (s.zone z).state = .safe := by
  simp [State.quiet]

/-- RESTART with every zone IDLE or SAFE: accepted, and what it waits for (01 R23). -/
theorem exec_restart_quiet {s : State} {r : Request} (hr : AtHead s 0x06 r) (hp : r.payload = [])
    (hz : ∀ z, (s.zone z).state = .idle ∨ (s.zone z).state = .safe) :
    exec .restart s = accepted s r { s.dequeued with lp :=
      { s.dequeued.lp with restart := s.restartWait r.cls } } [] := by
  refine exec_accepted rfl hr ?_
  have quiet : s.dequeued.quiet = true := (quiet_iff s).mpr hz
  simp only [answerRestart, hp, List.length_nil, ne_eq, not_true, if_false, quiet, if_true]
  rfl

theorem exec_restart_refused {s : State} {r : Request} (hr : AtHead s 0x06 r) (hp : r.payload = [])
    (hz : ∃ z, (s.zone z).state ≠ .idle ∧ (s.zone z).state ≠ .safe) :
    exec .restart s = refused s r .state := by
  refine exec_refused rfl hr ?_
  have moving : ¬ s.dequeued.quiet = true := fun h => by
    obtain ⟨z, hidle, hsafe⟩ := hz
    exact ((quiet_iff s).mp h z).elim hidle hsafe
  simp only [answerRestart, hp, List.length_nil, ne_eq, not_true, if_false, moving, Bool.false_eq_true]

/-- Settles O13: the branches of the four owners' answers. -/
theorem linkSettingAndRestartRequests : Obligations.LinkSettingAndRestartRequests := by
  refine ⟨fun s r => ⟨exec_setGroup, exec_setReporting, fun hr hp => ?_⟩,
    fun s r hr hp => ⟨fun hz => ?_, exec_restart_refused hr hp⟩⟩
  · refine exec_accepted rfl hr ?_
    rw [answerReadLinkCounts, if_neg (by simp [show r.payload = [] from hp])]
    rfl
  · have wait := exec_restart_quiet hr hp hz
    refine ⟨fun hc => ?_, fun hc htx => ?_, fun hc htx => ?_⟩ <;> rw [wait, State.restartWait]
    · rw [if_neg hc]
    · rw [if_pos hc, if_pos htx]
    · rw [if_pos hc, htx]; rfl

/-! ### What the line's events and the requests leave unchanged -/

/-- Work on the part but for its request queue, which the taking of a request shortens. -/
structure BesideRequests (s u : State) : Prop where
  zs : u.zs = s.zs
  se : u.se = s.se
  scv : u.scv = s.scv
  sq : u.sq = s.sq
  lw : u.lw = s.lw
  cm : u.cm = s.cm
  cu : u.cu = s.cu
  osc : u.osc = s.osc
  lp : u.lp = { s.lp with requests := u.lp.requests }

theorem BesideRequests.refl (s : State) : BesideRequests s s := ⟨rfl, rfl, rfl, rfl, rfl, rfl, rfl, rfl, rfl⟩

theorem TimeOnly.beside {s u : State} (h : TimeOnly s.dequeued u) : BesideRequests s u := by
  rw [h.only]; exact ⟨rfl, rfl, rfl, rfl, rfl, rfl, rfl, rfl, rfl⟩

theorem ActuatorsOnly.beside {named : ActId → Prop} {s u : State} (h : ActuatorsOnly named s.dequeued u) :
    BesideRequests s u := by
  rw [h.only]; exact ⟨rfl, rfl, rfl, rfl, rfl, rfl, rfl, rfl, rfl⟩

theorem BesideRequests.sameLink {s u t : State} (h : BesideRequests s u) (k : SameLink u t) :
    SameLink s t := by
  unfold SameLink at k ⊢
  rw [h.lp] at k
  exact k

theorem BesideRequests.sameAlarms {s u t : State} (h : BesideRequests s u) (k : SameAlarms u t) :
    SameAlarms s t := by
  unfold SameAlarms at k ⊢
  rwa [h.zs] at k

theorem BesideRequests.sameStrain {s u t : State} (h : BesideRequests s u) (k : SameStrain u t) :
    SameStrain s t :=
  ⟨k.1.trans h.scv, k.2.1.trans h.sq, k.2.2.trans h.lw⟩

/-- The part after a request of the Time Base, up to the reply and the arbiter. -/
structure TimeRequested (i : Instr) (s u : State) : Prop where
  beside : BesideRequests s u
  ac : u.ac = s.ac
  strobeNumber : u.tb.strobeNumber = s.tb.strobeNumber
  lastStrobeAt : u.tb.lastStrobeAt = s.tb.lastStrobeAt
  source : u.tb.source = s.tb.source
  readTime : i = .readTime → u.tb = s.tb
  setTime : i = .setTime → u.tb = { s.tb with pendingSet := u.tb.pendingSet }
  setSyncRole : i = .setSyncRole → u.tb.pendingSet = s.tb.pendingSet

theorem TimeRequested.of_same {i : Instr} {s u : State} (h : BesideRequests s u) (ac : u.ac = s.ac)
    (tb : u.tb = s.tb) : TimeRequested i s u :=
  ⟨h, ac, by rw [tb], by rw [tb], by rw [tb], fun _ => tb, fun _ => by rw [tb], fun _ => by rw [tb]⟩

theorem TimeOnly.requested {i : Instr} {s u : State} (h : TimeOnly s.dequeued u)
    (readTime : i ≠ .readTime) (setTime : i = .setTime → u.tb = { s.tb with pendingSet := u.tb.pendingSet })
    (setSyncRole : i = .setSyncRole → u.tb.pendingSet = s.tb.pendingSet) : TimeRequested i s u :=
  ⟨h.beside, by rw [h.only]; rfl, h.strobeNumber, h.lastStrobeAt, h.source, fun e => absurd e readTime,
    setTime, setSyncRole⟩

theorem time_requested {i : Instr} (hi : i ∈ [Instr.setTime, .readTime, .setSyncRole]) {s t : State}
    (h : exec i s = .next t) : ∃ u, TimeRequested i s u ∧ RequestFrame u t := by
  have same : TimeRequested i s s := .of_same (.refl s) rfl rfl
  have taken : TimeRequested i s s.dequeued := .of_same ⟨rfl, rfl, rfl, rfl, rfl, rfl, rfl, rfl, rfl⟩ rfl rfl
  simp only [List.mem_cons, List.not_mem_nil, or_false] at hi
  rcases hi with rfl | rfl | rfl
  · exact request_effect rfl h _ same taken fun r _ _ => (answerSetTime_leads r _).mono
      fun u ⟨hu, hp⟩ => hu.requested nofun (fun _ => hp) nofun
  · exact request_effect rfl h _ same taken fun r _ _ => answerRead_leads taken _ r
  · exact request_effect rfl h _ same taken fun r _ _ => (answerSetSyncRole_leads r _).mono
      fun u ⟨hu, hp⟩ => hu.requested nofun nofun (fun _ => hp)

/-- The part after a request of the actuators, up to the reply and the arbiter; `named` are the actuators
that the request names. -/
structure ActuatorRequested (named : ActId → Prop) (s u : State) : Prop where
  beside : BesideRequests s u
  tb : u.tb = s.tb
  others : ∀ a, ¬ named a → u.chan a = s.chan a

theorem ActuatorsOnly.requested {named : ActId → Prop} {s u : State}
    (h : ActuatorsOnly named s.dequeued u) : ActuatorRequested named s u :=
  ⟨h.beside, by rw [h.only]; rfl, h.others⟩

/-- The actuators that a request names, by its command: by a mask or by a number. -/
def Names (i : Instr) (r : Request) (a : ActId) : Prop :=
  (i ∈ [Instr.configureActuator, .loadSegments, .flushProgram] → MaskNames r a) ∧
  (i ∈ [Instr.enableActuator, .disableActuator, .setDryRun, .clearFault, .readActuator] → NumberNames r a)

theorem ActuatorsOnly.weaken {named names : ActId → Prop} {s u : State} (h : ActuatorsOnly named s u)
    (hn : ∀ a, named a → names a) : ActuatorsOnly names s u :=
  ⟨h.only, fun a ha => h.others a (mt (hn a) ha)⟩

theorem actuator_requested {i : Instr} (hi : i ∈ [Instr.configureActuator, .enableActuator, .disableActuator,
    .setDryRun, .loadSegments, .flushProgram, .clearFault, .readActuator]) {s t : State} {r : Request}
    {rest : List Request} (hq : s.lp.requests = r :: rest) (h : exec i s = .next t) :
    ∃ u, ActuatorRequested (Names i r) s u ∧ RequestFrame u t := by
  have same : ActuatorRequested (Names i r) s s := ⟨.refl s, rfl, fun _ _ => rfl⟩
  have taken : ActuatorRequested (Names i r) s s.dequeued :=
    ⟨⟨rfl, rfl, rfl, rfl, rfl, rfl, rfl, rfl, rfl⟩, rfl, fun _ _ => rfl⟩
  have effect : ∀ {p act}, requestArm i = some (p, act) → ∀ named,
      ((act r s.dequeued).Leads (ActuatorsOnly named s.dequeued)) → (∀ a, named a → Names i r a) →
      ∃ u, ActuatorRequested (Names i r) s u ∧ RequestFrame u t := by
    intro p act ha named hact hn
    refine request_effect ha h _ same taken fun r' rest' hq' => ?_
    obtain ⟨rfl, rfl⟩ := List.cons.inj (hq.symm.trans hq')
    exact hact.mono fun u hu => (hu.weaken hn).requested
  simp only [List.mem_cons, List.not_mem_nil, or_false] at hi
  rcases hi with rfl | rfl | rfl | rfl | rfl | rfl | rfl | rfl
  · exact effect rfl _ (answerConfigureActuator_leads r _) fun a ha => ⟨fun _ => ha, by simp⟩
  · exact effect rfl _ (answerEnableActuator_leads r _) fun a ha => ⟨by simp, fun _ => ha⟩
  · exact effect rfl _ (answerDisableActuator_leads r _) fun a ha => ⟨by simp, fun _ => ha⟩
  · exact effect rfl _ (answerSetDryRun_leads r _) fun a ha => ⟨by simp, fun _ => ha⟩
  · exact effect rfl _ (answerLoadSegments_leads r _) fun a ha => ⟨fun _ => ha, by simp⟩
  · exact effect rfl _ (answerFlushProgram_leads r _) fun a ha => ⟨fun _ => ha, by simp⟩
  · exact effect rfl _ (answerClearFault_leads r _) fun a ha => ⟨by simp, fun _ => ha⟩
  · exact effect rfl _ (answerReadActuator_leads r _) fun a ha => ⟨by simp, fun _ => ha⟩

/-- Settles O14: the frames of the downlink's events, of the Time Base's requests and of the actuators'. -/
theorem lineTimeAndActuatorFrames : Obligations.LineTimeAndActuatorFrames := by
  refine ⟨fun s t b stop i hi h => ?_, fun s t i hi h => ?_, fun s t r rest hq i hi h => ?_⟩
  · have event : LineEvent i := by
      simp only [List.mem_cons, List.not_mem_nil, or_false] at hi
      rcases hi with rfl | rfl | rfl | rfl
      exacts [.byte b stop, .toMark, .brk, .gap]
    obtain ⟨ht, hr, hosc⟩ := lineEvent_effect event h
    have link := hr.only
    refine ⟨?_, ?_, ?_, ?_, ⟨?_, ?_, ?_⟩, ?_, ?_, ?_, hosc, ?_⟩
    iterate 10 rw [ht]
    and_intros <;> rw [link]
  · obtain ⟨u, hu, f⟩ := time_requested hi h
    obtain ⟨beside, ac, number, moment, source, read, set, role⟩ := hu
    rw [f.tb]
    exact ⟨f.ac.trans ac, f.zones.trans (by rw [beside.zs]), beside.sameAlarms f.alarms,
      f.se.trans beside.se, beside.sameStrain f.strain, f.cm.trans beside.cm, f.cu.trans beside.cu,
      f.osc.trans beside.osc, beside.sameLink f.link, number, moment, source, read, set, role⟩
  · obtain ⟨u, ⟨beside, tb, others⟩, f⟩ := actuator_requested hi hq h
    have chan : ∀ a, ¬ Names i r a → t.chan a = s.chan a := by
      intro a ha
      rw [← others a ha, State.chan, State.chan, f.ac]
    refine ⟨f.tb.trans tb, f.zones.trans (by rw [beside.zs]), beside.sameAlarms f.alarms,
      f.se.trans beside.se, beside.sameStrain f.strain, f.cm.trans beside.cm, f.cu.trans beside.cu,
      f.osc.trans beside.osc, beside.sameLink f.link, fun a => ⟨fun hm ha => chan a ?_, fun hn ha => chan a ?_⟩⟩
    · rintro ⟨mask, -⟩
      exact absurd (mask hm) (by rw [MaskNames, ha]; decide)
    · rintro ⟨-, number⟩
      exact ha (number hn)

end Sys2Proof.Machine
end

section
/-! The downlink: each byte at the receiver, the line's condition, and the end of a frame on the uplink. -/

namespace Sys2Proof.Machine
open Host Statements

/-! ### Bytes -/

/-- The Link Port as a byte finds it that began in time, or outside a frame (01 R4; log 5). -/
theorem exec_byte_inTime {s : State} (b : Byte) (hl : s.lp.line = .mark)
    (ht : s.lp.rx.mode = .hunt ∨ s.osc ≤ s.lp.lastByteAt + 25) :
    exec (.byteReceived b .mark) s =
      .next { s with lp := ({ s.lp with lastByteAt := s.osc } : LinkPort).rxByte b } ∧
    exec (.byteReceived b .space) s =
      .next { s with lp := { s.lp with lastByteAt := s.osc, line := .badStop } } := by
  have atMark : s.lp.atMark = s.lp := by simp only [LinkPort.atMark, hl]
  have inTime : s.lp.atMark.timed s.osc Config.byteTime = s.lp := by
    rw [atMark]
    exact timed_inTime _ _ _ (ht.imp_right Or.inr)
  constructor <;> simp only [exec, execByteReceived, inTime]

/-- One that began later finds the frame abandoned and the gap counted (01 R4; log 5). -/
theorem exec_byte_late {s : State} (b : Byte) (stop : StopBit) (hl : s.lp.line = .mark)
    (hm : s.lp.rx.mode ≠ .hunt) (ht : s.lp.lastByteAt + 25 < s.osc) :
    exec (.byteReceived b stop) s = exec (.byteReceived b stop) { s with lp := s.lp.gapOut } := by
  have atMark : s.lp.atMark = s.lp := by simp only [LinkPort.atMark, hl]
  have atMark' : s.lp.gapOut.atMark = s.lp.gapOut := by
    simp only [LinkPort.atMark, LinkPort.gapOut, LinkPort.hunt, hl]
  have late : s.lp.timed s.osc Config.byteTime = s.lp.gapOut := timed_late _ _ _ hm hl ht
  have idle : s.lp.gapOut.timed s.osc Config.byteTime = s.lp.gapOut :=
    timed_inTime _ _ _ (Or.inl rfl)
  simp only [exec, execByteReceived, atMark, atMark', late, idle]

/-! ### The receiver's table (01 R3) -/

theorem rxByte_hunt_start {l : LinkPort} (h : l.rx.mode = .hunt) :
    l.rxByte 0xC3 = { l with rx := ⟨.header, []⟩ } := by
  simp [LinkPort.rxByte, h, startByte]

theorem rxByte_hunt_other {l : LinkPort} {b : Byte} (h : l.rx.mode = .hunt) (hb : b ≠ 0xC3) :
    l.rxByte b = l := by
  simp only [LinkPort.rxByte, h]
  exact if_neg hb

theorem rxByte_header_more {l : LinkPort} {b : Byte} (h : l.rx.mode = .header)
    (hl : (l.rx.buf ++ [b]).length < 5) :
    l.rxByte b = { l with rx := ⟨.header, l.rx.buf ++ [b]⟩ } := by
  simp only [LinkPort.rxByte, h, hl, if_true]

theorem rxByte_header_body {l : LinkPort} {b : Byte} (h : l.rx.mode = .header)
    (hl : (l.rx.buf ++ [b]).length = 5) (hn : field (l.rx.buf ++ [b]) 3 2 ≤ 1024) :
    l.rxByte b = { l with rx := ⟨.body, l.rx.buf ++ [b]⟩ } := by
  simp only [LinkPort.rxByte, h, hl, Nat.lt_irrefl, if_false]
  exact if_pos hn

theorem rxByte_header_tooLong {l : LinkPort} {b : Byte} (h : l.rx.mode = .header)
    (hl : (l.rx.buf ++ [b]).length = 5) (hn : 1024 < field (l.rx.buf ++ [b]) 3 2) :
    l.rxByte b =
      { l.hunt with counts := { l.counts with length := bump Config.max16 l.counts.length } } := by
  simp only [LinkPort.rxByte, h, hl, Nat.lt_irrefl, if_false]
  exact if_neg (Nat.not_le.mpr hn)

theorem rxByte_body_more {l : LinkPort} {b : Byte} (h : l.rx.mode = .body)
    (hl : (l.rx.buf ++ [b]).length < 5 + field (l.rx.buf ++ [b]) 3 2 + 2) :
    l.rxByte b = { l with rx := ⟨.body, l.rx.buf ++ [b]⟩ } := by
  simp only [LinkPort.rxByte, h, hl, if_true]

theorem rxByte_body_done {l : LinkPort} {b : Byte} (h : l.rx.mode = .body)
    (hl : (l.rx.buf ++ [b]).length = 5 + field (l.rx.buf ++ [b]) 3 2 + 2) :
    l.rxByte b = l.frameDone (l.rx.buf ++ [b]) := by
  have done : ¬ (l.rx.buf ++ [b]).length < 5 + field (l.rx.buf ++ [b]) 3 2 + 2 := by omega
  simp only [LinkPort.rxByte, h, done, if_false]

/-! ### A complete frame (01 R6 to R8) -/

/-- The request that the bytes of a complete frame make. -/
def frameRequest (buf : List Byte) (c : AddrClass) : Request :=
  ⟨byteAt buf 1, byteAt buf 2, (buf.take (buf.length - 2)).drop 5, c⟩

/-- The frame's check agrees (01 R6). -/
def CheckAgrees (buf : List Byte) : Prop :=
  beNat (buf.drop (buf.length - 2)) = (crc16 (buf.take (buf.length - 2))).toNat

theorem frameDone_bad {l : LinkPort} {buf : List Byte} (h : ¬ CheckAgrees buf) :
    l.frameDone buf = l.hunt.countCheck := if_pos h

theorem frameDone_accepted {l : LinkPort} {buf : List Byte} {c : AddrClass} (h : CheckAgrees buf)
    (hc : l.accepts (byteAt buf 0) = some c) :
    l.frameDone buf = l.hunt.enqueue (frameRequest buf c) := by
  have good : ¬ beNat (buf.drop (buf.length - 2)) ≠ (crc16 (buf.take (buf.length - 2))).toNat :=
    not_not.mpr h
  simp only [LinkPort.frameDone, good, if_false, hc]
  rfl

theorem frameDone_foreign {l : LinkPort} {buf : List Byte} (h : CheckAgrees buf)
    (hc : l.accepts (byteAt buf 0) = none) : l.frameDone buf = l.hunt := by
  have good : ¬ beNat (buf.drop (buf.length - 2)) ≠ (crc16 (buf.take (buf.length - 2))).toNat :=
    not_not.mpr h
  simp only [LinkPort.frameDone, good, if_false, hc]

/-- A byte is the node address when its number is. -/
theorem eq_nodeAddr_iff (l : LinkPort) (dest : Byte) :
    dest = l.nodeAddr.setWidth 8 ↔ dest.toNat = l.nodeAddr.toNat := by
  rw [← BitVec.toNat_inj, BitVec.toNat_setWidth, Nat.mod_eq_of_lt]
  have := l.nodeAddr.isLt
  omega

theorem accepts_broadcast {l : LinkPort} {dest : Byte} (h : dest = 255) :
    l.accepts dest = some .broadcast := if_pos h

theorem accepts_node {l : LinkPort} {dest : Byte} (h : dest.toNat = l.nodeAddr.toNat) :
    l.accepts dest = some .node := by
  have other : dest ≠ 255 := by
    rintro rfl
    have := l.nodeAddr.isLt
    have : (255 : Byte).toNat = 255 := rfl
    omega
  rw [LinkPort.accepts, if_neg other, if_pos ((eq_nodeAddr_iff l dest).mpr h)]

theorem accepts_group {l : LinkPort} {dest : Byte} (hb : dest ≠ 255)
    (hn : dest.toNat ≠ l.nodeAddr.toNat) (h : l.groupAddr = some dest) :
    l.accepts dest = some .group := by
  rw [LinkPort.accepts, if_neg hb, if_neg (mt (eq_nodeAddr_iff l dest).mp hn), if_pos h]

theorem accepts_none {l : LinkPort} {dest : Byte} (hb : dest ≠ 255)
    (hn : dest.toNat ≠ l.nodeAddr.toNat) (h : l.groupAddr ≠ some dest) : l.accepts dest = none := by
  rw [LinkPort.accepts, if_neg hb, if_neg (mt (eq_nodeAddr_iff l dest).mp hn), if_neg h]

/-- Settles O6: each row of the receiver's table on the Link Port as the byte finds it. -/
theorem receiverActsOnEachByte : Obligations.ReceiverActsOnEachByte := by
  refine ⟨fun s b hl ht => ?_, fun s b stop hl hm ht => exec_byte_late b stop hl hm ht⟩
  rw [(exec_byte_inTime b hl ht).1]
  have acted : ∀ {m n : LinkPort}, m = n → (.next { s with lp := m } : Result) = .next { s with lp := n } :=
    fun h => by rw [h]
  intro l buf inner hunted full good dest frame joined
  have done : full → l.rxByte b = l.frameDone buf := fun hf => rxByte_body_done hf.1 hf.2
  have joins : ∀ {c}, full → good → l.accepts dest = some c → l.rxByte b = joined c :=
    fun hf hg hc => (done hf).trans (frameDone_accepted hg hc)
  refine ⟨fun hm hb => acted ?_, fun hm hb => acted (rxByte_hunt_other hm hb),
    fun hm hlen => acted (rxByte_header_more hm hlen), 
    fun hm hlen hf => acted (rxByte_header_body (l := l) hm hlen hf),
    fun hm hlen hf => acted (rxByte_header_tooLong (l := l) hm hlen hf), fun hm hlen => acted (rxByte_body_more hm hlen),
    fun hf hg => acted ((done hf).trans (frameDone_bad hg)),
    fun hf hg hd => acted (joins hf hg (accepts_broadcast hd)),
    fun hf hg hd => acted (joins hf hg (accepts_node hd)),
    fun hf hg hb hn hd => acted (joins hf hg (accepts_group hb hn hd)),
    fun hf hg hb hn hd => acted ((done hf).trans (frameDone_foreign hg (accepts_none hb hn hd)))⟩
  rw [hb]; exact rxByte_hunt_start hm

/-! ### The line's condition -/

/-- LINE_RETURNS_TO_MARK leaves the line at mark: once more, it changes nothing. -/
theorem atMark_atMark (l : LinkPort) : l.atMark.atMark = l.atMark := by
  have mark : l.atMark.line = .mark := by
    unfold LinkPort.atMark LinkPort.framingError
    split
    · assumption
    · dsimp only; split <;> rfl
    · rfl
  rw [LinkPort.atMark.eq_def l.atMark, mark]

/-- Settles O7: the branches of the line's condition. -/
theorem lineConditionRules : Obligations.LineConditionRules := by
  refine ⟨fun s b stop => ⟨fun hl ht => (exec_byte_inTime b hl ht).2, ?_⟩,
    fun s => ⟨fun hl hm => ?_, fun hl hm => ?_, fun hl => ?_, fun hl => ?_⟩,
    fun s => ⟨fun t ht => exec_gap_of_expire ht, fun hm => ?_, fun hl ht => ?_, fun hl hm ht => ?_,
      fun hl => if_pos hl⟩⟩
  · rintro t ⟨⟩
    simp only [exec, execByteReceived, atMark_atMark]
  · simp only [exec, execLineReturnsToMark, LinkPort.atMark, LinkPort.framingError, hl]
    cases hmode : s.lp.rx.mode
    · exact absurd hmode hm
    · rfl
    · rfl
  · simp only [exec, execLineReturnsToMark, LinkPort.atMark, LinkPort.framingError, hl, hm]
  · simp only [exec, execLineReturnsToMark, LinkPort.atMark, hl]
  · simp only [exec, execLineReturnsToMark, LinkPort.atMark, hl]
  · have idle : s.expire .gap = none :=
      expire_eq_none (Or.inl (by rw [deadline_gap, if_neg (fun h => h.1 hm)]))
    exact congrArg Outcome.next (atExpiry_none s _ _ idle)
  · have inTime : s.lp.timed s.osc Config.breakTime = s.lp := by
      refine timed_inTime _ _ _ (ht.imp_right (Or.imp_left fun h => ?_))
      rw [h]; decide
    simp only [exec, execLineBreak, hl, if_false, inTime]
    rfl
  · have late : s.lp.timed s.osc Config.breakTime = s.lp.gapOut := timed_late _ _ _ hm hl ht
    simp only [exec, execLineBreak, hl, reduceCtorEq, if_false, late]
    rfl

/-! ### The end of an uplink frame -/

theorem exec_uplinkFrameEnd {s t : State} (h : s.expire .uplink = some t) :
    exec .uplinkFrameEnd s = .next (arbitrate t.frameEnd) :=
  congrArg Outcome.next (atExpiry_some s t _ _ h)

/-- At the moment a restart takes effect nothing is built (01 R23). -/
theorem arbitrate_due {s : State} (h : s.lp.restart = .due) : arbitrate s = s := by
  unfold arbitrate
  rw [if_pos (by simp [h])]

/-- A frame that carries no slice: the transmitter is idle, and the restart phase is as 01 R23 says. -/
theorem frameEnd_noSlice {t : State} {f : TxFrame} (hf : t.lp.tx = some f)
    (hc : ∀ n last, f.carries ≠ .strain n last) : t.frameEnd = { t with lp := { t.lp with
      tx := none
      restart := if f.carries = .reply true || t.lp.restart = .awaitFrame then .due
        else t.lp.restart } } := by
  simp only [State.frameEnd, hf]
  cases hcar : f.carries with
  | strain n last => exact absurd hcar (hc n last)
  | alarm => rfl
  | reply b => rfl
  | capture => rfl

/-- A slice's frame: its entries leave the Strain Queue too (09 R162, R163). -/
theorem frameEnd_slice {t : State} {f : TxFrame} {n : Nat} {last : Bool} (hf : t.lp.tx = some f)
    (hc : f.carries = .strain n last) : t.frameEnd = { t with
      lp := { t.lp with
        tx := none
        restart := if t.lp.restart = .awaitFrame then .due else t.lp.restart }
      sq := t.sq.sliceSent n last t.osc } := by
  simp only [State.frameEnd, hf, hc, reduceCtorEq, decide_false, Bool.false_or, decide_eq_true_eq]

/-- The Strain Queue after its last entries: the delay timer stops with the last record. -/
theorem sliceSent_last {q : StrainQueue} {n now : Nat} {x : StrainRecord} {rest : List StrainRecord}
    (h : q.records = x :: rest) : q.sliceSent n true now =
      { q with records := rest, timer := if rest = [] then .stopped else .running now } := by
  simp only [StrainQueue.sliceSent, h, if_true, List.isEmpty_iff]

theorem sliceSent_more {q : StrainQueue} {n now : Nat} {x : StrainRecord} {rest : List StrainRecord}
    (h : q.records = x :: rest) : q.sliceSent n false now =
      { q with
        records := { x with unsent := x.unsent.drop n, sent := x.sent + n, sliced := true } :: rest
        timer := .running now } := by
  simp only [StrainQueue.sliceSent, h, Bool.false_eq_true, if_false, List.isEmpty_cons]

/-- A kept restart phase, written out. -/
theorem lp_ended {t : State} (h : t.lp.restart ≠ .awaitFrame) :
    { t.lp with tx := none, restart := if t.lp.restart = .awaitFrame then .due else t.lp.restart } =
      { t.lp with tx := none } := by
  rw [if_neg h]

/-- Settles O9: by what the frame carried, and by the restart that waited for its end. -/
theorem uplinkFrameEndRule : Obligations.UplinkFrameEndRule := by
  intro s t ht f hf
  rw [exec_uplinkFrameEnd ht]
  refine ⟨fun hdue hc => ?_, fun hdue n last x rest hq hc => ?_, fun hr hc => ?_,
    fun hr n x rest hq => ⟨fun hc => ?_, fun hc => ?_⟩⟩
  · have due : (decide (f.carries = .reply true) || decide (t.lp.restart = .awaitFrame)) = true := by
      simpa only [Bool.or_eq_true, decide_eq_true_eq] using hdue
    rw [frameEnd_noSlice hf hc, if_pos due, arbitrate_due rfl]
  · rw [frameEnd_slice hf hc, if_pos hdue, arbitrate_due rfl]
    cases last
    · rw [sliceSent_more hq]; rfl
    · rw [sliceSent_last hq]; simp only [if_true, true_and]
  · have noSlice : ∀ n last, f.carries ≠ .strain n last := by
      intro n last h
      rw [h] at hc
      simp only [reduceCtorEq, or_self] at hc
    have kept : ¬ (decide (f.carries = .reply true) || decide (t.lp.restart = .awaitFrame)) = true := by
      rcases hc with h | h | h <;> simp [h, hr]
    rw [frameEnd_noSlice hf noSlice, if_neg kept]
  · rw [frameEnd_slice hf hc, lp_ended hr, sliceSent_more hq]
  · rw [frameEnd_slice hf hc, lp_ended hr, sliceSent_last hq]

end Sys2Proof.Machine
end

section
/-! The layouts of the reports (12 R204, R205): the model's encoders give the items of the statements. -/

namespace Sys2Proof.Machine
open Host Statements

theorem encList_map {α : Type} (f : α → Wire) (l : List α) :
    encList (l.map f) = encN 1 l.length ++ (l.map f).flatten := by
  rw [encList, List.length_map]

theorem encBare_map {α : Type} (n : Nat) (f : α → Wire) (o : Option α) :
    encBare n (o.map f) = o.elim (unstated n) f := by
  cases o <;> rfl

theorem encIndex?_eq_getD (o : Option Nat) : encIndex? o = encN 2 (o.getD 65535) := by
  cases o <;> rfl

/-! ### ALARM report -/

theorem sourceItems_eq_code (x : AlarmSource) : sourceItems x = encN 1 x.code.1 ++ encN 1 x.code.2 := by
  cases x <;> rfl

theorem alarmEntry_enc (e : AlarmEntry) : e.enc = alarmItems e := by
  rw [alarmItems, sourceItems_eq_code]; rfl

theorem alarmEntry_enc_map (l : List AlarmEntry) : l.map AlarmEntry.enc = l.map alarmItems :=
  List.map_congr_left fun e _ => alarmEntry_enc e

/-- The unreported entries of one severity, in the list's order. -/
def freshOf (l : List AlarmEntry) (v : Severity) : List AlarmEntry :=
  l.filter fun e => !e.reported && e.severity = v

theorem reportOrder_eq (l : List AlarmEntry) :
    reportOrder l = freshOf l .major ++ freshOf l .minor ++ freshOf l .info := by
  simp only [reportOrder, freshOf, List.filter_filter, Bool.and_comm]

theorem alarmPayload_eq (s : State) : alarmPayload s = alarmReport s := by
  unfold alarmPayload
  rw [encList_map, alarmEntry_enc_map, reportOrder_eq, ← List.append_assoc]
  rfl

/-! ### Capture -/

theorem trigger_encSource (t : Trigger) : encN 8 t.time ++ t.encSource = triggerItems t := by
  unfold Trigger.encSource triggerItems
  cases t.alarm with
  | none => rfl
  | some x => rw [Option.elim_some, sourceItems_eq_code]

theorem trigger_encKind (t : Trigger) : t.encKind =
    t.alarm.elim (encN 1 255 ++ encN 1 0 ++ encN 1 0) fun x =>
      encN 1 x.zone ++ encN 1 x.severity.code ++ encN 1 x.kind.code := by
  unfold Trigger.encKind
  cases t.alarm <;> rfl

theorem block_encRecord (b : Block) : b.encRecord = blockItems b := by
  have head : encBare 8 (b.firstTime.map (encN 8)) =
      b.frames.head?.elim (unstated 8) fun f => encN 8 f.hall := by
    rw [Block.firstTime, Option.map_map, encBare_map]; rfl
  have triggered : encBare 8 (b.trigger.map fun t => encN 8 t.time) ++
      (encBare 2 (b.trigger.map Trigger.encSource) ++ encBare 3 (b.trigger.map Trigger.encKind)) =
      b.trigger.elim (unstated 13) fun t => triggerItems t ++ t.encKind := by
    cases b.trigger with
    | none => rfl
    | some t =>
      rw [Option.elim_some, ← trigger_encSource, List.append_assoc]; rfl
  simp only [trigger_encKind] at triggered
  unfold Block.encRecord blockItems
  rw [head, encIndex?_eq_getD, ← triggered]
  simp only [List.append_assoc]
  rfl

theorem captureConfig_enc (c : CaptureConfig) : c.enc = captureItems c := by
  unfold CaptureConfig.enc captureItems
  rw [encList_map]
  rfl

/-! ### STRAIN slice -/

/-- The four bits of the entry at place `i`; 0 past the last one. -/
def halfFlags (es : List StrainEntry) (i : Nat) : Nat := es[i]?.elim 0 fun e => e.flags.code

theorem halfFlags_cons_cons (x y : StrainEntry) (es : List StrainEntry) (i : Nat) :
    halfFlags (x :: y :: es) (i + 2) = halfFlags es i := rfl

/-- The flag table byte by byte (12 R205). -/
theorem flagTable_eq : ∀ es : List StrainEntry, flagTable es =
    ((List.range ((es.length + 1) / 2)).map fun i =>
      encN 1 (16 * halfFlags es (2 * i) + halfFlags es (2 * i + 1))).flatten
  | [] => rfl
  | [x] => by simp [flagTable, halfFlags]
  | x :: y :: es => by
    have bytes : ((x :: y :: es).length + 1) / 2 = (es.length + 1) / 2 + 1 := by
      simp only [List.length_cons]; omega
    rw [bytes, List.range_succ_eq_map, List.map_cons, List.map_map, List.flatten_cons, flagTable,
      flagTable_eq es]
    rfl

/-- A force item. -/
def forceItems (f : ForceItem) : Wire :=
  encN 1 f.actuator ++ encFlag f.tag.isSome ++ encI 4 f.force ++ f.tag.elim (unstated 2) (encN 2)

theorem forceItem_enc (f : ForceItem) : f.enc = forceItems f := by
  rw [ForceItem.enc, encBare_map]; rfl

/-- What a slice marked first shows of the record's phase. -/
def phaseItems (r : StrainRecord) (p : RecordPhase) : Wire :=
  encN 1 p.zone ++ encN 4 p.cycle ++ encN 4 r.lag ++ encN 1 p.forces.length ++
  (p.forces.map forceItems).flatten

theorem strainRecord_encHeader (r : StrainRecord) : r.encHeader =
    encN 1 r.kind.sliceCode ++ encN 8 r.start ++ encN 1 r.loss ++
    encN 2 (r.sent + r.unsent.length) ++ r.phase.elim [] (phaseItems r) := by
  unfold StrainRecord.encHeader
  cases r.phase with
  | none => rfl
  | some p =>
    simp only [Option.elim_some, phaseItems, encList_map, List.append_assoc, funext forceItem_enc]

theorem strainRecord_encSlice (r : StrainRecord) : r.encSlice = sliceItems r := by
  have marks : bitIf (!r.sliced) 1 + bitIf r.sliceIsLast 2 =
      (if r.sliced then 0 else 1) + (if r.sliceIsLast then 2 else 0) := by
    cases r.sliced <;> rfl
  unfold StrainRecord.encSlice
  simp only [marks, strainRecord_encHeader, flagTable_eq]
  rfl

end Sys2Proof.Machine
end

section
/-! The requests that only read. -/

namespace Sys2Proof.Machine
open Host Statements

theorem toList_map_eq_finRange {α β : Type} {n : Nat} (v : Vector α n) (f : α → β) :
    v.toList.map f = (List.finRange n).map fun i => f v[i] := by
  refine List.ext_getElem (by simp) fun i _ _ => ?_
  simp

theorem lockedCount_eq_countP (u : CaptureUnit) :
    u.lockedCount = (List.finRange 4).countP fun b => u.blocks[b].state = .locked :=
  List.countP_eq_length_filter.symm

/-! ### CU's state (11 R192) -/

/-- The test by which the Capture Unit finds its active block. -/
theorem activeTest_iff (x : Block) :
    (decide (x.state = .recording) || decide (x.state = .post)) = true ↔ x.isActive := by
  rw [Bool.or_eq_true, decide_eq_true_iff, decide_eq_true_iff]; rfl

theorem active_eq_none {u : CaptureUnit} (h : ∀ b : BlockId, ¬ u.blocks[b].isActive) : u.active = none :=
  List.find?_eq_none.mpr fun b _ => mt (activeTest_iff _).mp (h b)

theorem active_eq_some {u : CaptureUnit} {b : BlockId} (hb : u.blocks[b].isActive)
    (first : ∀ c : BlockId, c < b → ¬ u.blocks[c].isActive) : u.active = some b := by
  refine List.find?_eq_some_iff_getElem.mpr ⟨(activeTest_iff _).mpr hb, b.val, by simp, by simp,
    fun j hj => ?_⟩
  rw [Bool.not_eq_true', ← Bool.not_eq_true, activeTest_iff, List.getElem_finRange]
  exact first _ hj

theorem captureState_of_recording {u : CaptureUnit} {b : BlockId} (h : u.active = some b)
    (hb : u.blocks[b].state = .recording) : u.state = .recording := by
  simp only [CaptureUnit.state, h, hb, if_true]

theorem captureState_of_post {u : CaptureUnit} {b : BlockId} (h : u.active = some b)
    (hb : u.blocks[b].state = .post) : u.state = .post := by
  simp only [CaptureUnit.state, h, hb, reduceCtorEq, if_false]

/-! ### Results -/

theorem answerRead_ok {results : State → Wire} {r : Request} (hp : r.payload = []) (s : State) :
    answerRead results r s = .accepted s (results s) := by
  rw [answerRead, hp]; rfl

/-- What CAPTURE STATUS shows of block `b`. -/
def blockStatusItems (s : State) (b : BlockId) : Wire :=
  let k := s.cu.blocks[b]
  let shown := if k.state = .locked ∨ k.state = .post then k.trigger else none
  encN 1 k.state.code ++ encN 2 k.frames.length ++ encFlag (s.lp.announce.contains b) ++
    encOpt 10 (shown.map triggerItems)

theorem encBlockStatus_eq (s : State) : s.encBlockStatus = blockStatusItems s := by
  funext b
  simp only [State.encBlockStatus, blockStatusItems, trigger_encSource, Bool.or_eq_true,
    decide_eq_true_eq]

/-- Settles O12: each request's results are the items of its layout, and the state of the Capture Unit
is that of its first active block. -/
theorem plainReadsAreAcceptedInEveryState : Obligations.PlainReadsAreAcceptedInEveryState := by
  intro s r hp d locked
  have lockedCount : s.cu.lockedCount = locked := lockedCount_eq_countP s.cu
  refine ⟨fun hr => ?_, fun hr => ?_, fun hr => exec_accepted rfl hr (answerRead_ok hp d), fun hr => ?_,
    fun hr => ?_, fun h => ?_, fun b first => ⟨fun hb => ?_, fun hb => ?_⟩⟩
  · exact exec_accepted rfl hr (answerRead_ok hp d)
  · refine exec_accepted rfl hr ((answerRead_ok hp d).trans (congrArg (Answer.accepted d) ?_))
    rw [← lockedCount, State.snapshot, toList_map_eq_finRange, toList_map_eq_finRange,
      toList_map_eq_finRange, ← List.countP_eq_length_filter, Reporting.enc, ← List.append_assoc,
      ← List.append_assoc]
    rfl
  · refine exec_accepted rfl hr ?_
    rw [← encList_map, ← alarmEntry_enc_map, answerReadAlarms, hp]
    rfl
  · refine exec_accepted rfl hr ?_
    rw [← lockedCount, ← captureConfig_enc, answerCaptureStatus, hp]
    rw [State.captureStatus, encBlockStatus_eq]
    rfl
  · simp only [CaptureUnit.state, active_eq_none h]
  · exact captureState_of_recording (active_eq_some (Or.inl hb) first) hb
  · exact captureState_of_post (active_eq_some (Or.inr hb) first) hb

end Sys2Proof.Machine
end

section
/-! The uplink arbiter: what it builds, and when it builds nothing (01 R14 to R17). -/

namespace Sys2Proof.Machine
open Host Statements

/-! ### The arbiter's choice -/

theorem arbitrate_busy {s : State} (h : s.lp.tx.isSome) : arbitrate s = s := by
  unfold arbitrate
  rw [if_pos (by rw [h, Bool.true_or])]

section
variable {s : State} (htx : s.lp.tx = none) (hr : s.lp.restart ≠ .due)
include htx hr

/-- The transmitter idle and no restart due: the arbiter chooses. -/
theorem arbiter_free : ¬ (s.lp.tx.isSome || decide (s.lp.restart = .due)) = true := by
  simp [htx, hr]

theorem arbitrate_alarm (ha : s.lp.alarmPending = true) : arbitrate s = s.buildAlarm := by
  unfold arbitrate
  rw [if_neg (arbiter_free htx hr), if_pos ha]

theorem arbitrate_reply (ha : s.lp.alarmPending = false) {r : Reply} {rest : List Reply}
    (hq : s.lp.replies = r :: rest) : arbitrate s = s.buildReply r rest := by
  unfold arbitrate
  rw [if_neg (arbiter_free htx hr), ha, hq]
  rfl

theorem arbitrate_capture (ha : s.lp.alarmPending = false) (hq : s.lp.replies = [])
    (hc : s.lp.reporting.capture = true) {b : BlockId} {rest : List BlockId}
    (hb : s.lp.announce = b :: rest) : arbitrate s = s.buildCapture b rest := by
  unfold arbitrate
  rw [if_neg (arbiter_free htx hr), ha, hq, hb, hc]
  rfl

theorem arbitrate_strain (ha : s.lp.alarmPending = false) (hq : s.lp.replies = [])
    (hc : s.lp.announce = [] ∨ s.lp.reporting.capture = false) : arbitrate s = s.buildStrain := by
  unfold arbitrate
  rw [if_neg (arbiter_free htx hr), ha, hq]
  rcases hc with hb | hc
  · rw [hb]; rfl
  · rw [hc]
    cases s.lp.announce <;> rfl

end

/-! ### The Strain Queue -/

/-- When the Strain Queue is due, its head record given (01 R17). -/
theorem strainDue_iff {s : State} {x : StrainRecord} {rest : List StrainRecord}
    (hq : s.sq.records = x :: rest) : s.strainDue = true ↔ s.lp.reporting.strain = true ∧
      (s.lp.reporting.level ≤ s.sq.entriesHeld ∨ s.sq.timer = .runOut ∨ x.sliced = true) := by
  unfold State.strainDue
  rw [hq]
  simp only [Bool.and_eq_true, Bool.or_eq_true, decide_eq_true_eq, or_assoc]

theorem buildStrain_due {s : State} {x : StrainRecord} {rest : List StrainRecord}
    (hq : s.sq.records = x :: rest) (h : s.strainDue = true) : s.buildStrain =
      s.sendReport 0x83 x.encSlice (.strain x.sliceEntries.length x.sliceIsLast) := by
  unfold State.buildStrain
  rw [hq, h]
  rfl

theorem buildStrain_notDue {s : State}
    (h : s.sq.records = [] ∨ s.lp.reporting.strain = false ∨
      (s.sq.entriesHeld < s.lp.reporting.level ∧ s.sq.timer ≠ .runOut ∧
        ∀ x rest, s.sq.records = x :: rest → x.sliced = false)) : s.buildStrain = s := by
  unfold State.buildStrain
  split
  · rfl
  · rename_i x rest hq
    refine if_neg fun due => ?_
    obtain ⟨on, reason⟩ := (strainDue_iff hq).mp due
    rcases h with h | h | ⟨below, running, unsliced⟩
    · simp only [h, List.nil_eq, reduceCtorEq] at hq
    · simp only [h, Bool.false_eq_true] at on
    · rcases reason with level | out | sliced
      · omega
      · exact running out
      · simp only [unsliced x rest hq, Bool.false_eq_true] at sliced

/-- Settles O8: one report after another in the arbiter's order, each with its layout. -/
theorem arbiterPriority : Obligations.ArbiterPriority := by
  intro s
  refine ⟨arbitrate_busy, fun htx hr => ⟨fun ha => ?_, fun ha r rest hq => ?_,
    fun ha hq hc b rest hb => ?_, fun ha hq hc x rest hx on reason => ?_,
    fun ha hq hc idle => (arbitrate_strain htx hr ha hq hc).trans (buildStrain_notDue idle)⟩⟩
  · rw [arbitrate_alarm htx hr ha, ← alarmPayload_eq]
    exact ⟨rfl, rfl, rfl, rfl⟩
  · rw [arbitrate_reply htx hr ha hq]
    exact ⟨rfl, rfl, rfl⟩
  · rw [arbitrate_capture htx hr ha hq hc hb, ← block_encRecord]
    exact ⟨rfl, rfl, rfl⟩
  · have length : min 200 x.unsent.length = x.sliceEntries.length := List.length_take.symm
    rw [arbitrate_strain htx hr ha hq hc, buildStrain_due hx ((strainDue_iff hx).mpr ⟨on, reason⟩),
      ← strainRecord_encSlice, length]
    exact ⟨rfl, rfl⟩

end Sys2Proof.Machine
end

section
/-! Hall time and the servo strobe (02 R25 to R34): what a strobe makes of the Time Base, the SYNC edges, and
the Time Base's requests. -/

namespace Sys2Proof.Machine
open Host Statements

/-! ### What a strobe makes of the Time Base -/

/-- The updates, the zones' work and the events of a strobe leave the time alone. -/
theorem strobeWork_time (s : State) (started : ZoneId → Bool) (lost timeSet : Bool) :
    (s.strobeWork started lost timeSet).tb = s.tb ∧ (s.strobeWork started lost timeSet).osc = s.osc :=
  have inner := strobeWork_inner s started lost timeSet
  ⟨inner.tb, inner.osc⟩

/-- A strobe's Time Base (02 R26, R27); the moment stays. -/
theorem strobe_time (s : State) (src : StrobeSource) (lost : Bool) :
    (s.strobe src lost).tb = strobed s.tb src s.osc ∧ (s.strobe src lost).osc = s.osc := by
  have decided := (decideStarts_spec (s.tbStrobe src)).1
  unfold State.strobe
  dsimp only
  obtain ⟨tb, osc⟩ := strobeWork_time (s.tbStrobe src).decideStarts
    (fun z => ((s.tbStrobe src).zone z).state = .ready && ((s.tbStrobe src).decideStarts.zone z).state = .run)
    lost s.tb.pendingSet.isSome
  rw [tb, osc, decided.tb, decided.osc]
  exact ⟨rfl, rfl⟩

/-- Right after a strobe hall time is the strobe's own (02 R25, R26). -/
theorem hall_of_strobed {u s : State} {src : StrobeSource} (h : u.tb = strobed s.tb src u.osc) :
    u.hall = s.tb.pendingSet.elim (500 * (s.tb.strobeNumber + 1)) (500 * (· / 500)) := by
  have number : u.tb.strobeNumber = s.tb.pendingSet.elim (s.tb.strobeNumber + 1) (· / 500) := by
    rw [h]; cases hp : s.tb.pendingSet <;> simp [strobed, hp]
  have moment : u.tb.lastStrobeAt = u.osc := by rw [h]; rfl
  rw [State.hall, State.strobeHall, State.subPeriod, number, moment, Nat.sub_self, Nat.zero_min, Nat.add_zero]
  cases s.tb.pendingSet <;> rfl

/-! ### The commands that issue a strobe (02 R27 to R29) -/

theorem exec_oscillatorStrobe {s t : State} (h : s.tb.role ≠ .follower ∨ s.tb.syncLost = true)
    (ht : s.expire .strobe = some t) :
    exec .oscillatorStrobe s = .next (arbitrate (t.strobe .oscillator false)) := by
  simp only [exec, execOscillatorStrobe, (onSchedule_iff s.tb).mpr h, if_true, atExpiry_some s t _ _ ht]

/-- A FOLLOWER in sync has no oscillator strobe (log 2). -/
theorem exec_oscillatorStrobe_follower {s : State} (hr : s.tb.role = .follower) (hl : s.tb.syncLost = false) :
    exec .oscillatorStrobe s = .next s := by
  have off : ¬ s.tb.onSchedule = true := by simp [onSchedule_iff, hr, hl]
  simp only [exec, execOscillatorStrobe, if_neg off]

/-- The counts at a substitute strobe, and sync lost at the eighth in a row (02 R28, R29). -/
theorem substitute_eq {t : TimeBase} (h : t.subRun ≤ 7) : t.substitute = { t with
    missCount := min (t.missCount + 1) 4294967295
    subRun := t.subRun + 1
    syncLost := t.subRun = 7
    regainRun := 0 } := by
  have run : bump 8 t.subRun = t.subRun + 1 := by unfold bump; omega
  have lost : decide (8 ≤ t.subRun + 1) = decide (t.subRun = 7) := decide_eq_decide.mpr (by omega)
  unfold TimeBase.substitute
  rw [run]
  dsimp only
  rw [lost]
  rfl

theorem exec_substituteStrobe {s t : State} (hr : s.tb.role = .follower) (hl : s.tb.syncLost = false)
    (h : s.tb.subRun ≤ 7) (ht : s.expire .strobe = some t) : exec .substituteStrobe s =
      .next (arbitrate (State.strobe { t with tb := { t.tb with
        missCount := min (s.tb.missCount + 1) 4294967295, subRun := s.tb.subRun + 1
        syncLost := s.tb.subRun = 7, regainRun := 0 } } .substitute (s.tb.subRun = 7))) := by
  have off : ¬ s.tb.onSchedule = true := by simp [onSchedule_iff, hr, hl]
  obtain ⟨d, -, -, rfl⟩ := expire_eq s t _ ht
  simp only [exec, execSubstituteStrobe, if_neg off, atExpiry_some s _ _ _ ht, substitute_eq h]

/-- The SYNC edge of a FOLLOWER in sync that is not early issues a strobe (02 R28). -/
theorem exec_syncEdge_strobe {s : State} (hr : s.tb.role = .follower) (hl : s.tb.syncLost = false)
    (h : 250 ≤ s.osc - s.tb.lastStrobeAt) : exec .syncEdge s =
      .next (arbitrate (State.strobe { s with tb := { s.tb with subRun := 0 } } .edge false)) := by
  have late : ¬ s.osc - s.tb.lastStrobeAt < Config.edgeMin := Nat.not_lt.mpr h
  simp only [exec, execSyncEdge, hr, hl, Bool.false_eq_true, if_false, late]

/-- Settles O15: each command's strobe, and what a strobe makes of the Time Base. -/
theorem strobesMoveTheTimeBase : Obligations.StrobesMoveTheTimeBase := by
  refine ⟨fun s => ⟨fun h t ht => ?_, exec_oscillatorStrobe_follower⟩, fun s t hr hl h ht => ?_,
    fun s t => ⟨fun ht => congrArg Outcome.next (atExpiry_some s t _ _ ht),
      fun ht => congrArg Outcome.next (atExpiry_some s t _ _ ht)⟩⟩
  · obtain ⟨tb, osc⟩ := strobe_time t .oscillator false
    have same : t.tb = s.tb := by obtain ⟨d, -, -, rfl⟩ := expire_eq s t _ ht; rfl
    refine ⟨_, exec_oscillatorStrobe h ht, ?_, ?_, ?_⟩
    · rw [arbitrate_tb, tb, same]
    · rw [arbitrate_osc, osc]
    · rw [← same]
      exact hall_of_strobed (by rw [arbitrate_tb, arbitrate_osc, tb, osc])
  · obtain ⟨d, -, -, rfl⟩ := expire_eq s t _ ht
    refine ⟨_, exec_substituteStrobe hr hl h ht, ?_, ?_⟩
    · rw [arbitrate_osc, (strobe_time _ _ _).2]
    · rw [arbitrate_tb, (strobe_time _ _ _).1]
      rfl

/-! ### SYNC edges (02 R28, R30) -/

theorem exec_syncEdge_notFollower {s : State} (h : s.tb.role ≠ .follower) : exec .syncEdge s = .next s := by
  simp only [exec, execSyncEdge]
  split
  · rfl
  · rfl
  · exact absurd ‹_› h

theorem exec_syncEdge_early {s : State} (hr : s.tb.role = .follower) (hl : s.tb.syncLost = false)
    (h : s.osc - s.tb.lastStrobeAt < 250) : exec .syncEdge s = .next { s with tb := s.tb.early } := by
  have early : s.osc - s.tb.lastStrobeAt < Config.edgeMin := h
  simp only [exec, execSyncEdge, hr, hl, Bool.false_eq_true, if_false, early, if_true]

theorem exec_syncEdge_lost {s : State} (hr : s.tb.role = .follower) (hl : s.tb.syncLost = true) :
    exec .syncEdge s = .next (arbitrate s.lostEdge) := by
  simp only [exec, execSyncEdge, hr, hl, if_true]

/-- The edges of the regain run, up to the one that regains sync (02 R30). -/
theorem lostEdge_first {s : State} (h : s.tb.regainRun = 0) :
    s.lostEdge = { s with tb := { s.tb with regainRun := 1, lastEdgeAt := s.osc } } := by
  simp only [State.lostEdge, h, if_true]

theorem lostEdge_early {s : State} (h : 0 < s.tb.regainRun) (hg : s.osc - s.tb.lastEdgeAt < 250) :
    s.lostEdge = { s with tb := s.tb.early } := by
  have early : s.osc - s.tb.lastEdgeAt < Config.edgeMin := hg
  simp only [State.lostEdge, h.ne', if_false, early, if_true]

theorem lostEdge_counted {s : State} (h : 0 < s.tb.regainRun) (hg : 250 ≤ s.osc - s.tb.lastEdgeAt)
    (hn : s.tb.regainRun < 15) :
    s.lostEdge = { s with tb := { s.tb with regainRun := s.tb.regainRun + 1, lastEdgeAt := s.osc } } := by
  have late : ¬ s.osc - s.tb.lastEdgeAt < Config.edgeMin := Nat.not_lt.mpr hg
  simp only [State.lostEdge, h.ne', if_false, late, Nat.not_le.mpr hn]

theorem lostEdge_regains {s : State} (hg : 250 ≤ s.osc - s.tb.lastEdgeAt) (hn : s.tb.regainRun = 15) :
    s.lostEdge = s.regain := by
  have late : ¬ s.osc - s.tb.lastEdgeAt < Config.edgeMin := Nat.not_lt.mpr hg
  rw [State.lostEdge, if_neg (by omega), if_neg late, if_pos hn.ge]

/-- Settles O16: the branches of SYNC_EDGE; what the zones are told of a regained sync is
`dropSyncReasons_eq`. -/
theorem syncEdgeRule : Obligations.SyncEdgeRule := by
  refine ⟨fun s => ⟨exec_syncEdge_notFollower, fun hr hl => ⟨exec_syncEdge_early hr hl, fun h _ => ?_⟩⟩,
    fun s hr hl => ?_⟩
  · refine ⟨_, exec_syncEdge_strobe hr hl h, ?_, ?_⟩
    · rw [arbitrate_osc, (strobe_time _ _ _).2]
    · rw [arbitrate_tb, (strobe_time _ _ _).1]
      rfl
  · dsimp only
    rw [exec_syncEdge_lost hr hl]
    refine ⟨fun h => ?_, fun h hg => ?_, fun h hg _ hn => ?_, fun hg _ hn =>
      ⟨s.lp.alarmPending || (List.finRange 4).any fun z => (s.zone z).reasons.sync, by simp, ?_⟩⟩
    · rw [lostEdge_first h]
    · rw [lostEdge_early h hg]; rfl
    · rw [lostEdge_counted h hg hn]
    · rw [lostEdge_regains hg hn, State.regain, dropSyncReasons_eq]
      rfl

/-! ### The Time Base's requests (02 R32, R34) -/

theorem busy_iff (x : ZoneState) : x.busy = true ↔ x = .run ∨ x = .hold ∨ x = .unload := by
  cases x <;> simp [ZoneState.busy]

theorem anyZone_busy_iff (s : State) : s.anyZone ZoneState.busy = true ↔ ∃ z, Busy s z := by
  simp only [State.anyZone, List.any_eq_true, List.mem_finRange, true_and, busy_iff]
  rfl

theorem startPending_iff (s : State) : s.startPending = true ↔ ∃ z, (s.zone z).pendingStart ≠ none := by
  simp only [State.startPending, List.any_eq_true, List.mem_finRange, true_and, Option.isSome_iff_ne_none]

/-- The test of SET TIME for STATE (02 R32). -/
theorem timeSet_blocked_iff (s : State) : (s.anyZone ZoneState.busy || s.startPending) = true ↔
    ¬ ((∀ z, ¬ Busy s z) ∧ ∀ z, (s.zone z).pendingStart = none) := by
  rw [Bool.or_eq_true, anyZone_busy_iff, startPending_iff]
  simp only [not_and_or, not_forall, not_not, ne_eq]

section
variable {s : State} {r : Request} (hr : AtHead s 0x10 r) (hl : r.payload.length = 8)
include hr hl

theorem exec_setTime_range (h : field r.payload 0 8 % 500 ≠ 0 ∨ 9000000000000000000 < field r.payload 0 8) :
    exec .setTime s = refused s r .range := by
  refine exec_refused rfl hr ?_
  simp only [answerSetTime, hl, ne_eq, not_true, if_false]
  exact if_pos (by simpa using h)

variable (hm : field r.payload 0 8 % 500 = 0) (hT : field r.payload 0 8 ≤ 9000000000000000000)
include hm hT

/-- SET TIME past the tests of length and range (02 R32). -/
theorem exec_setTime_inRange : exec .setTime s = .next (arbitrate (s.dequeued.answer r
    (if s.anyZone ZoneState.busy || s.startPending then .no .state
    else if field r.payload 0 8 ≤ s.hall then .no .late
    else .accepted { s.dequeued with tb := { s.tb with pendingSet := some (field r.payload 0 8) } }
      (encOpt 8 (s.tb.pendingSet.map (encN 8)))))) := by
  have range : ¬ (field r.payload 0 8 % 500 ≠ 0 || 9000000000000000000 < field r.payload 0 8) = true := by
    simp [hm, hT]
  rw [exec_atHead (i := .setTime) rfl hr, answerSetTime, if_neg (by simp [hl]), if_neg range]
  rfl

end

theorem ofCode_code (role : SyncRole) : SyncRole.ofCode role.code = some role := by cases role <;> rfl

theorem ofCode_eq_none {v : Nat} (h : 2 < v) : SyncRole.ofCode v = none := by
  obtain ⟨n, rfl⟩ : ∃ n, v = n + 3 := ⟨v - 3, by omega⟩
  rfl

theorem anyZone_moving_iff (s : State) :
    s.anyZone (fun x => decide (x ≠ .idle)) = true ↔ ∃ z, (s.zone z).state ≠ .idle := by
  simp [State.anyZone]

theorem inRole_eq (t : TimeBase) (role : SyncRole) : t.inRole role = { t with
    role, syncLost := false, subRun := 0, regainRun := 0, missCount := 0, earlyCount := 0
    line := if t.role = .master ∧ role = .master then t.line else .released } := by
  simp only [TimeBase.inRole, Bool.and_eq_true, decide_eq_true_eq]

/-- SET SYNC ROLE with a role's code (02 R34). -/
theorem exec_setSyncRole {s : State} {r : Request} (hr : AtHead s 0x12 r) (hl : r.payload.length = 1)
    {role : SyncRole} (h : field r.payload 0 1 = role.code) : exec .setSyncRole s =
      .next (arbitrate (s.dequeued.answer r
        (if s.anyZone (fun x => decide (x ≠ .idle)) then .no .state
        else .accepted { s.dequeued with tb := s.tb.inRole role } (encN 1 s.tb.role.code)))) := by
  rw [exec_atHead (i := .setSyncRole) rfl hr, answerSetSyncRole, if_neg (by simp [hl]), h, ofCode_code]
  rfl

/-- Settles O17: the tests of the two requests, one after the other. -/
theorem timeBaseRequests : Obligations.TimeBaseRequests := by
  refine ⟨fun s r hr hl => ⟨exec_setTime_range hr hl, fun hm hT => ?_⟩, fun s r hr hl => ⟨fun role h => ?_, fun h => ?_⟩⟩
  · have blocked := timeSet_blocked_iff s
    rw [exec_setTime_inRange hr hl hm hT]
    refine ⟨fun hf => ?_, fun hf hlate => ?_, fun hf hlate => ?_⟩
    · rw [if_pos (blocked.mpr hf)]; rfl
    · rw [if_neg (mt blocked.mp (not_not.mpr hf)), if_pos hlate]; rfl
    · rw [if_neg (mt blocked.mp (not_not.mpr hf)), if_neg (Nat.not_le.mpr hlate)]; rfl
  · have moving := anyZone_moving_iff s
    rw [exec_setSyncRole hr hl h, ← inRole_eq]
    refine ⟨fun hz => ?_, fun hz => ?_⟩
    · rw [if_neg (mt moving.mp (by simpa using hz))]; rfl
    · rw [if_pos (moving.mpr hz)]; rfl
  · refine exec_refused rfl hr ?_
    simp only [answerSetSyncRole, hl, ne_eq, not_true, if_false, ofCode_eq_none h]

end Sys2Proof.Machine
end

section
/-! What the requests of the gauge, crack and capture blocks, the bank ports' and timers' events and the
strobes leave unchanged. -/

namespace Sys2Proof.Machine
open Host Statements

/-! ### The requests -/

/-- The part after a request of the gauge, crack and capture blocks, up to the reply and the arbiter: the
block the request is given to has changed, with the reservation or the announce marks that go with it. -/
structure BlockRequested (i : Instr) (s u : State) : Prop where
  tb : u.tb = s.tb
  ac : u.ac = s.ac
  zs : u.zs = s.zs
  osc : u.osc = s.osc
  lp : u.lp = { s.lp with
    requests := u.lp.requests, reservations := u.lp.reservations, announce := u.lp.announce }
  se : i ∉ [Instr.setScanList, .setScanInterval, .bankReset] → u.se = s.se
  scv : i ∉ [Instr.writeTemplate, .setDefaultProfile, .validateTemplates] → u.scv = s.scv
  sq : i ≠ .setScanInterval → u.sq = s.sq
  lw : i ≠ .setLimitRule → u.lw = s.lw
  cm : i ∉ [Instr.configureLoop, .configureAe, .readCrackStatus] → u.cm = s.cm
  cu : i ∉ [Instr.configureCapture, .trigger, .releaseBlock] → u.cu = s.cu

theorem BlockRequested.refl (i : Instr) (s : State) : BlockRequested i s s :=
  ⟨rfl, rfl, rfl, rfl, rfl, fun _ => rfl, fun _ => rfl, fun _ => rfl, fun _ => rfl, fun _ => rfl, fun _ => rfl⟩

/-- The taking of the request from the queue is among what such a request may change. -/
theorem BlockRequested.of_dequeued {i : Instr} {s u : State} (h : BlockRequested i s.dequeued u) :
    BlockRequested i s u :=
  ⟨h.tb, h.ac, h.zs, h.osc, h.lp, h.se, h.scv, h.sq, h.lw, h.cm, h.cu⟩

theorem BlockRequested.of_scan {i : Instr} {s u : State}
    (hi : i ∈ [Instr.setScanList, .setScanInterval, .bankReset]) (hsq : i ≠ .setScanInterval → u.sq = s.sq)
    (h : u = { s with
      se := u.se, sq := u.sq, lp := { s.lp with reservations := u.lp.reservations } }) :
    BlockRequested i s u := by
  have same := BlockRequested.refl i s
  rw [h]
  exact ⟨rfl, rfl, rfl, rfl, rfl, fun no => absurd hi no, same.scv, hsq, same.lw, same.cm, same.cu⟩

theorem BlockRequested.of_converter {i : Instr} {s u : State}
    (hi : i ∈ [Instr.writeTemplate, .setDefaultProfile, .validateTemplates])
    (h : u = { s with scv := u.scv }) : BlockRequested i s u := by
  have same := BlockRequested.refl i s
  rw [h]
  exact ⟨rfl, rfl, rfl, rfl, rfl, same.se, fun no => absurd hi no, same.sq, same.lw, same.cm, same.cu⟩

theorem BlockRequested.of_crack {i : Instr} {s u : State}
    (hi : i ∈ [Instr.configureLoop, .configureAe, .readCrackStatus])
    (h : u = { s with cm := u.cm }) : BlockRequested i s u := by
  have same := BlockRequested.refl i s
  rw [h]
  exact ⟨rfl, rfl, rfl, rfl, rfl, same.se, same.scv, same.sq, same.lw, fun no => absurd hi no, same.cu⟩

theorem BlockRequested.of_capture {i : Instr} {s u : State}
    (hi : i ∈ [Instr.configureCapture, .trigger, .releaseBlock])
    (h : u = { s with cu := u.cu, lp := { s.lp with announce := u.lp.announce } }) :
    BlockRequested i s u := by
  have same := BlockRequested.refl i s
  rw [h]
  exact ⟨rfl, rfl, rfl, rfl, rfl, same.se, same.scv, same.sq, same.lw, same.cm, fun no => absurd hi no⟩

theorem answerSetScanList_leads (r : Request) (s : State) :
    (answerSetScanList r s).Leads (BlockRequested .setScanList s) := by
  unfold answerSetScanList
  dsimp only
  split; · trivial
  split; · trivial
  split; · trivial
  exact .of_scan (by decide) (fun _ => rfl) rfl

theorem answerSetScanInterval_leads (r : Request) (s : State) :
    (answerSetScanInterval r s).Leads (BlockRequested .setScanInterval s) := by
  unfold answerSetScanInterval
  dsimp only
  split; · trivial
  split; · trivial
  exact .of_scan (by decide) (fun no => absurd rfl no) rfl

/-- A reservation is the link's alone (01 R12). -/
theorem reserve_only (s : State) (r : Request) :
    s.reserve r = { s with lp := { s.lp with reservations := (s.reserve r).lp.reservations } } := by
  unfold State.reserve
  split <;> rfl

theorem answerBankReset_leads (r : Request) (s : State) :
    (answerBankReset r s).Leads (BlockRequested .bankReset s) := by
  have started : ∀ b, BlockRequested .bankReset s ((s.reserve r).startTest b r.deferredTag) := by
    intro b
    rw [reserve_only]
    exact .of_scan (by decide) (fun _ => rfl) rfl
  unfold answerBankReset
  split; · trivial
  split; · trivial
  split; · trivial
  exact started _

theorem answerWriteTemplate_leads (r : Request) (s : State) :
    (answerWriteTemplate r s).Leads (BlockRequested .writeTemplate s) := by
  unfold answerWriteTemplate
  dsimp only
  split; · trivial
  split
  · split; · trivial
    exact .of_converter (by decide) rfl
  · trivial

theorem answerSetDefaultProfile_leads (r : Request) (s : State) :
    (answerSetDefaultProfile r s).Leads (BlockRequested .setDefaultProfile s) := by
  unfold answerSetDefaultProfile
  split; · trivial
  split; · trivial
  split; · trivial
  exact .of_converter (by decide) rfl

theorem answerValidateTemplates_leads (r : Request) (s : State) :
    (answerValidateTemplates r s).Leads (BlockRequested .validateTemplates s) := by
  unfold answerValidateTemplates
  split; · trivial
  split; · trivial
  exact .of_converter (by decide) rfl

theorem answerReadGauges_leads (r : Request) (s : State) :
    (answerReadGauges r s).Leads (BlockRequested .readGauges s) := by
  unfold answerReadGauges
  dsimp only
  split; · trivial
  split; · trivial
  exact .refl _ s

theorem answerSetLimitRule_leads (r : Request) (s : State) :
    (answerSetLimitRule r s).Leads (BlockRequested .setLimitRule s) := by
  have same := BlockRequested.refl .setLimitRule s
  unfold answerSetLimitRule
  split; · trivial
  split
  · split; · trivial
    exact ⟨rfl, rfl, rfl, rfl, rfl, same.se, same.scv, same.sq, fun no => absurd rfl no, same.cm, same.cu⟩
  · trivial

theorem answerConfigureLoop_leads (r : Request) (s : State) :
    (answerConfigureLoop r s).Leads (BlockRequested .configureLoop s) := by
  unfold answerConfigureLoop
  dsimp only
  split; · trivial
  split
  · split; · trivial
    split; · trivial
    exact .of_crack (by decide) rfl
  · trivial

theorem answerConfigureAe_leads (r : Request) (s : State) :
    (answerConfigureAe r s).Leads (BlockRequested .configureAe s) := by
  unfold answerConfigureAe
  dsimp only
  split; · trivial
  split
  · split; · trivial
    split; · trivial
    exact .of_crack (by decide) rfl
  · trivial

theorem answerReadCrackStatus_leads (r : Request) (s : State) :
    (answerReadCrackStatus r s).Leads (BlockRequested .readCrackStatus s) := by
  have cleared : BlockRequested .readCrackStatus s s.clearChanges := .of_crack (by decide) rfl
  unfold answerReadCrackStatus
  dsimp only
  split; · trivial
  split
  · trivial
  · exact cleared
  · split
    · exact cleared
    · trivial

theorem answerConfigureCapture_leads (r : Request) (s : State) :
    (answerConfigureCapture r s).Leads (BlockRequested .configureCapture s) := by
  unfold answerConfigureCapture
  dsimp only
  split; · trivial
  split
  · split; · trivial
    split
    · split; · trivial
      exact .of_capture (by decide) rfl
    · exact .of_capture (by decide) rfl
  · trivial

/-- A trigger changes the Capture Unit alone (11 R196). -/
theorem trigger_only (s : State) (x : Trigger) : s.trigger x = { s with cu := (s.trigger x).cu } := by
  unfold State.trigger
  split
  · dsimp only; split <;> rfl
  · split <;> rfl

theorem answerTrigger_leads (r : Request) (s : State) :
    (answerTrigger r s).Leads (BlockRequested .trigger s) := by
  unfold answerTrigger
  split; · trivial
  split; · trivial
  dsimp only
  rw [trigger_only]
  exact .of_capture (by decide) rfl

theorem answerReadCapture_leads (r : Request) (s : State) :
    (answerReadCapture r s).Leads (BlockRequested .readCapture s) := by
  unfold answerReadCapture
  dsimp only
  split; · trivial
  split; · trivial
  split; · trivial
  split; · trivial
  split; · trivial
  exact .refl _ s

theorem answerReleaseBlock_leads (r : Request) (s : State) :
    (answerReleaseBlock r s).Leads (BlockRequested .releaseBlock s) := by
  have freed : ∀ n, BlockRequested .releaseBlock s (s.freeLocked n) := by
    intro n
    unfold State.freeLocked
    dsimp only
    split <;> exact .of_capture (by decide) rfl
  unfold answerReleaseBlock
  dsimp only
  split; · trivial
  split; · trivial
  split
  · exact freed _
  · exact .of_capture (by decide) rfl
  · trivial
  · trivial

theorem answerCaptureStatus_leads (r : Request) (s : State) :
    (answerCaptureStatus r s).Leads (BlockRequested .captureStatus s) := by
  unfold answerCaptureStatus
  split; · trivial
  exact .refl _ s

theorem block_requested {i : Instr} (hi : i ∈ [Instr.setScanList, .setScanInterval, .bankReset,
    .writeTemplate, .setDefaultProfile, .validateTemplates, .readGauges, .setLimitRule, .configureLoop,
    .configureAe, .readCrackStatus, .configureCapture, .trigger, .readCapture, .releaseBlock,
    .captureStatus]) {s t : State} (h : exec i s = .next t) :
    ∃ u, BlockRequested i s u ∧ RequestFrame u t := by
  have effect : ∀ {p act}, requestArm i = some (p, act) →
      (∀ r d, (act r d).Leads (BlockRequested i d)) → ∃ u, BlockRequested i s u ∧ RequestFrame u t :=
    fun ha hact => request_effect ha h _ (.refl i s) (.of_dequeued (.refl i _)) fun r _ _ =>
      (hact r s.dequeued).mono fun _ => .of_dequeued
  simp only [List.mem_cons, List.not_mem_nil, or_false] at hi
  rcases hi with rfl | rfl | rfl | rfl | rfl | rfl | rfl | rfl | rfl | rfl | rfl | rfl | rfl | rfl | rfl | rfl
  · exact effect rfl answerSetScanList_leads
  · exact effect rfl answerSetScanInterval_leads
  · exact effect rfl answerBankReset_leads
  · exact effect rfl answerWriteTemplate_leads
  · exact effect rfl answerSetDefaultProfile_leads
  · exact effect rfl answerValidateTemplates_leads
  · exact effect rfl answerReadGauges_leads
  · exact effect rfl answerSetLimitRule_leads
  · exact effect rfl answerConfigureLoop_leads
  · exact effect rfl answerConfigureAe_leads
  · exact effect rfl answerReadCrackStatus_leads
  · exact effect rfl answerConfigureCapture_leads
  · exact effect rfl answerTrigger_leads
  · exact effect rfl answerReadCapture_leads
  · exact effect rfl answerReleaseBlock_leads
  · exact effect rfl answerCaptureStatus_leads

/-! ### The bank ports' and timers' events -/

/-- The link's state but for the queues, the transmitter and its marks is kept over two works in a row. -/
theorem sameLink_trans {s t u : State} (h : SameLink s t) (k : SameLink t u) : SameLink s u := by
  obtain ⟨node, group, line, rx, restart, reporting, counts⟩ := h
  obtain ⟨node', group', line', rx', restart', reporting', counts'⟩ := k
  exact ⟨node'.trans node, group'.trans group, line'.trans line, rx'.trans rx, restart'.trans restart,
    reporting'.trans reporting, counts'.trans counts⟩

theorem sameLink_of_eq {s t : State} (h : t.lp = s.lp) : SameLink s t := by
  unfold SameLink
  rw [h]
  exact ⟨rfl, rfl, rfl, rfl, rfl, rfl, rfl⟩

theorem Inner.sameLink {s t : State} (h : Inner s t) : SameLink s t := by
  unfold SameLink
  rw [h.lp]
  exact ⟨rfl, rfl, rfl, rfl, rfl, rfl, rfl⟩

theorem arbitrate_sameLink (s : State) : SameLink s (arbitrate s) :=
  have f := arbitrate_frame s
  ⟨f.nodeAddr, f.groupAddr, f.line, f.rx, f.restart, f.reporting, f.counts⟩

/-- What an event between strobes leaves unchanged, the oscillator and the Crack Monitor apart. -/
structure EventFrame (s t : State) : Prop where
  tb : t.tb = s.tb
  link : SameLink s t
  ac : ∀ a, (s.chan a).SameButHold (t.chan a)
  zones : ∀ z, (s.zone z).SameConfig (t.zone z)

theorem EventFrame.trans {s t u : State} (h : EventFrame s t) (k : EventFrame t u) : EventFrame s u :=
  ⟨k.tb.trans h.tb, sameLink_trans h.link k.link, fun a => (h.ac a).trans (k.ac a),
    fun z => (h.zones z).trans (k.zones z)⟩

theorem EventFrame.of_same {s t : State} (tb : t.tb = s.tb) (link : SameLink s t) (ac : t.ac = s.ac)
    (zones : SameZones s t) : EventFrame s t := by
  refine ⟨tb, link, fun a => ?_, fun z => ?_⟩
  · rw [State.chan, State.chan, ac]; exact .refl _
  · rw [State.zone, State.zone, show t.zs.zones = s.zs.zones from zones]; exact .refl _

theorem Inner.eventFrame {s t : State} (h : Inner s t) : EventFrame s t := ⟨h.tb, h.sameLink, h.ac, h.zones⟩

theorem RequestFrame.eventFrame {s t : State} (h : RequestFrame s t) : EventFrame s t :=
  .of_same h.tb h.link h.ac h.zones

theorem arbitrate_eventFrame (s : State) : EventFrame s (arbitrate s) :=
  .of_same (arbitrate_tb s) (arbitrate_sameLink s) (arbitrate_ac s) (arbitrate_zones s)

/-- An event's frame with the Crack Monitor in it. -/
def EventKeeps (s t : State) : Prop := EventFrame s t ∧ t.cm = s.cm

theorem EventKeeps.trans {s t u : State} (h : EventKeeps s t) (k : EventKeeps t u) : EventKeeps s u :=
  ⟨h.1.trans k.1, k.2.trans h.2⟩

theorem EventKeeps.refl (s : State) : EventKeeps s s :=
  ⟨.of_same rfl (sameLink_of_eq rfl) rfl rfl, rfl⟩

theorem Inner.eventKeeps {s t : State} (h : Inner s t) : EventKeeps s t := ⟨h.eventFrame, h.cm⟩

theorem arbitrate_eventKeeps {s t : State} (h : EventKeeps s t) : EventKeeps s (arbitrate t) :=
  h.trans ⟨arbitrate_eventFrame t, arbitrate_cm t⟩

theorem atExpiry_eventKeeps (s : State) (x : Timer) {f : State → State} (hf : ∀ t, EventKeeps t (f t)) :
    EventKeeps s (s.atExpiry x f) :=
  atExpiry_keeps (EventKeeps s) s x f (.refl s) (fun _ => ⟨.of_same rfl (sameLink_of_eq rfl) rfl rfl, rfl⟩)
    fun t ht => ht.trans (hf t)

theorem bankAnswer_eventKeeps {s t : State} {b : BankId} {values : List Int}
    (h : exec (.bankAnswer b values) s = .next t) : EventKeeps s t := by
  have set := fun x : Bank => setBank_inner s b x
  simp only [exec, execBankAnswer] at h
  split at h
  · cases h; exact arbitrate_eventKeeps (set _).eventKeeps
  split at h
  · cases h; exact arbitrate_eventKeeps (set _).eventKeeps
  split at h
  · cases h; exact arbitrate_eventKeeps ((set _).trans (conversionEnd_inner _ _ _ _)).eventKeeps
  · cases h; exact arbitrate_eventKeeps (set _).eventKeeps

theorem bankTimeout_eventKeeps {s t : State} {b : BankId} (h : exec (.bankTimeout b) s = .next t) :
    EventKeeps s t := by
  cases h
  refine atExpiry_eventKeeps s _ fun t => ?_
  split
  · exact .refl t
  · exact arbitrate_eventKeeps (((setBank_inner _ _ _).trans (dropWaitingScan_inner _ _)).trans
      (conversionEnd_inner _ _ _ _)).eventKeeps

theorem bankSettlingEnd_eventKeeps {s t : State} {b : BankId} (h : exec (.bankSettlingEnd b) s = .next t) :
    EventKeeps s t := by
  cases h
  exact atExpiry_eventKeeps s _ fun t => (setBank_inner t b _).eventKeeps

theorem freeScanExpiry_eventKeeps {s t : State} (h : exec .freeScanExpiry s = .next t) : EventKeeps s t := by
  cases h
  refine atExpiry_eventKeeps s _ fun t => ?_
  have set : ∀ e : ScanEngine, Inner t { t with se := e } := fun _ =>
    inner_of_parts _ _ rfl rfl rfl rfl rfl rfl rfl
  dsimp only
  split
  · exact (set _).eventKeeps
  · exact arbitrate_eventKeeps ((set _).trans (consult_inner _)).eventKeeps

theorem reportDelayRunOut_eventKeeps {s t : State} (h : exec .reportDelayRunOut s = .next t) :
    EventKeeps s t := by
  cases h
  exact atExpiry_eventKeeps s _ fun t =>
    arbitrate_eventKeeps
      (inner_of_parts t { t with sq := { t.sq with timer := .runOut } } rfl rfl rfl rfl rfl rfl rfl).eventKeeps

theorem answerZeroGauges_eventKeeps (r : Request) (s : State) :
    (answerZeroGauges r s).Leads (EventKeeps s) := by
  have reserved : EventKeeps s (s.reserve r) := by
    rw [reserve_only]
    exact ⟨.of_same rfl ⟨rfl, rfl, rfl, rfl, rfl, rfl, rfl⟩ rfl rfl, rfl⟩
  have started : ∀ t : State, Inner t (t.startZero r.deferredTag) := fun t =>
    (consult_inner _).after (inner_of_parts t _ rfl rfl rfl rfl rfl rfl rfl)
  unfold answerZeroGauges
  split; · trivial
  split; · trivial
  split; · trivial
  exact reserved.trans (started _).eventKeeps

theorem zeroGauges_eventKeeps {s t : State} (h : exec .zeroGauges s = .next t) : EventKeeps s t := by
  have taken : EventKeeps s s.dequeued := ⟨.of_same rfl ⟨rfl, rfl, rfl, rfl, rfl, rfl, rfl⟩ rfl rfl, rfl⟩
  obtain ⟨u, hu, f⟩ := request_effect rfl h (EventKeeps s) (.refl s) taken fun r _ _ =>
    (answerZeroGauges_eventKeeps r _).mono fun _ => taken.trans
  exact hu.trans ⟨f.eventFrame, f.cm⟩

/-- The samples of the loops change the Crack Monitor and what the alarms they raise act on (10 R175, R176). -/
theorem loopSample_eventFrame {s t : State} {levels : BitVec 32} (h : exec (.loopSample levels) s = .next t) :
    EventFrame s t := by
  cases h
  refine atExpiry_keeps (EventFrame s) s _ _ (EventKeeps.refl s).1 (fun _ => .of_same rfl (sameLink_of_eq rfl) rfl rfl)
    fun t ht => ht.trans ?_
  have sampled : ∀ m : CrackMonitor, EventFrame t { t with cm := m } := fun _ =>
    .of_same rfl (sameLink_of_eq rfl) rfl rfl
  dsimp only
  split
  · exact sampled _
  · exact ((sampled _).trans (raiseAll_inner _ _).eventFrame).trans (arbitrate_eventFrame _)

/-! ### Strobes -/

/-- What an update keeps of a channel: its configuration, the port record and the dry-run flag. -/
structure Channel.SameSetup (c d : Channel) : Prop where
  cfg : d.cfg = c.cfg
  port : d.port = c.port
  dryRun : d.dryRun = c.dryRun

theorem Channel.SameSetup.refl (c : Channel) : c.SameSetup c := ⟨rfl, rfl, rfl⟩

theorem Channel.SameSetup.trans {c d e : Channel} (h : c.SameSetup d) (k : d.SameSetup e) : c.SameSetup e :=
  ⟨k.cfg.trans h.cfg, k.port.trans h.port, k.dryRun.trans h.dryRun⟩

theorem Channel.SameButProgram.sameSetup {c d : Channel} (h : c.SameButProgram d) : c.SameSetup d := by
  rw [h]; exact ⟨rfl, rfl, rfl⟩

theorem Channel.SameButHold.sameSetup {c d : Channel} (h : c.SameButHold d) : c.SameSetup d := by
  rw [h]; exact ⟨rfl, rfl, rfl⟩

theorem Channel.activate_sameSetup (c : Channel) (view : Option ZoneView) : c.SameSetup (c.activate view) := by
  unfold Channel.activate
  split
  · split <;> exact ⟨rfl, rfl, rfl⟩
  · exact .refl c

theorem Channel.wrapWork_sameSetup (c : Channel) (v : ZoneView) : c.SameSetup (c.wrapWork v) := by
  have compensated : c.SameSetup c.compensate := by
    unfold Channel.compensate
    split
    · exact .refl c
    · dsimp only
      split <;> exact ⟨rfl, rfl, rfl⟩
  unfold Channel.wrapWork
  split
  · exact compensated.trans ⟨rfl, rfl, rfl⟩
  split <;> exact ⟨rfl, rfl, rfl⟩

theorem Channel.program_sameSetup (c : Channel) (view : Option ZoneView) :
    c.SameSetup (c.program view).chan := by
  cases view with
  | none => exact .refl c
  | some v =>
    refine ((c.wrapWork_sameSetup v).trans (Channel.profile_program _ (some v)).sameSetup).trans ?_
    unfold Channel.program Channel.alignMark
    dsimp only
    split <;> exact ⟨rfl, rfl, rfl⟩

theorem Channel.checks_sameSetup (c : Channel) (e : Int) (view : Option ZoneView) :
    c.SameSetup ((c.judgeFresh.judgeTracking e).keepProgramValue view) := by
  have fresh : c.SameSetup c.judgeFresh := by
    unfold Channel.judgeFresh
    split
    · exact ⟨rfl, rfl, rfl⟩
    split <;> exact ⟨rfl, rfl, rfl⟩
  have tracking : ∀ d : Channel, d.SameSetup (d.judgeTracking e) := by
    intro d
    unfold Channel.judgeTracking
    split <;> exact ⟨rfl, rfl, rfl⟩
  refine (fresh.trans (tracking _)).trans ?_
  unfold Channel.keepProgramValue
  split
  · split <;> exact ⟨rfl, rfl, rfl⟩
  · exact .refl _

theorem Channel.fail_sameSetup (c : Channel) (q : FaultCauses) (hall : Nat) (z : Option ZoneId) :
    c.SameSetup (c.fail q hall z) := by
  rw [Channel.fail, Channel.drop_eq]
  exact ⟨rfl, rfl, rfl⟩

/-- A channel after stages 1 to 4 of its update, with its command (04 R57). -/
def Channel.staged (c : Channel) (view : Option ZoneView) : Channel × Int :=
  let r := (c.activate view).program view
  r.chan.clamps r.p0

/-- The error of an update (04 R69). -/
def Channel.stagedError (c : Channel) (view : Option ZoneView) : Int :=
  (c.staged view).1.errorOf (c.staged view).2

/-- A channel of which the update has judged the feedback (05 R82, R83). -/
def Channel.judged (c : Channel) (view : Option ZoneView) : Channel :=
  ((c.staged view).1.judgeFresh.judgeTracking (c.stagedError view)).keepProgramValue view

/-- A channel after the servo and the close of its update (04 R69 to R72). -/
def Channel.closed (c : Channel) (view : Option ZoneView) : Channel :=
  (((c.judged view).servo (c.stagedError view)).trackForce (c.judged view).fMeas).close (c.staged view).2

/-- The two ends of an update: the entry into FAULT, or the servo and the close (04 R57, R72). -/
theorem Channel.updateOn_fst (c : Channel) (view : Option ZoneView) (hall : Nat) :
    (c.updateOn view hall).1 = if (c.judged view).findCauses.any
      then { Channel.fail { c.judged view with prev := (c.staged view).2, err := c.stagedError view }
        (c.judged view).findCauses hall (view.map ZoneView.zone) with wasCycling := false }
      else { c.closed view with wasCycling := (c.closed view).isCycling } :=
  (apply_ite Prod.fst _ _ _)

theorem Channel.judged_sameSetup (c : Channel) (view : Option ZoneView) : c.SameSetup (c.judged view) :=
  have staged : c.SameSetup (c.staged view).1 :=
    ((c.activate_sameSetup view).trans (Channel.program_sameSetup _ view)).trans ⟨rfl, rfl, rfl⟩
  staged.trans (Channel.checks_sameSetup _ _ view)

/-- A channel's work at a strobe keeps its configuration, its port record and its dry-run flag (05 R81, R92). -/
theorem Channel.update_sameSetup (c : Channel) (view : Option ZoneView) (hall : Nat) :
    c.SameSetup (c.update view hall).1 := by
  have on : c.SameSetup (c.updateOn view hall).1 := by
    have judged := c.judged_sameSetup view
    rw [Channel.updateOn_fst]
    split
    · have entered := Channel.fail_sameSetup
        { c.judged view with prev := (c.staged view).2, err := c.stagedError view }
        (c.judged view).findCauses hall (view.map ZoneView.zone)
      exact judged.trans ⟨entered.cfg, entered.port, entered.dryRun⟩
    · exact judged.trans ⟨rfl, rfl, rfl⟩
  unfold Channel.update
  split
  · exact on
  · exact on
  · exact .refl c
  · exact .refl c

/-- What a strobe leaves unchanged. -/
structure StrobeFrame (s t : State) : Prop where
  link : SameLink s t
  loops : t.cm.loops = s.cm.loops
  ac : ∀ a, (s.chan a).SameSetup (t.chan a)
  zones : ∀ z, (t.zone z).members = (s.zone z).members ∧ (t.zone z).rate = (s.zone z).rate ∧
    (t.zone z).inc = (s.zone z).inc ∧ (t.zone z).window = (s.zone z).window

theorem StrobeFrame.trans {s t u : State} (h : StrobeFrame s t) (k : StrobeFrame t u) : StrobeFrame s u := by
  refine ⟨sameLink_trans h.link k.link, k.loops.trans h.loops, fun a => (h.ac a).trans (k.ac a), fun z => ?_⟩
  obtain ⟨members, rate, inc, window⟩ := h.zones z
  obtain ⟨members', rate', inc', window'⟩ := k.zones z
  exact ⟨members'.trans members, rate'.trans rate, inc'.trans inc, window'.trans window⟩

theorem StrobeFrame.of_same {s t : State} (link : SameLink s t) (cm : t.cm = s.cm) (ac : t.ac = s.ac)
    (zs : t.zs.zones = s.zs.zones) : StrobeFrame s t := by
  refine ⟨link, by rw [cm], fun a => ?_, fun z => ?_⟩
  · rw [State.chan, State.chan, ac]; exact .refl _
  · rw [State.zone, State.zone, zs]; exact ⟨rfl, rfl, rfl, rfl⟩

theorem StrobeFrame.refl (s : State) : StrobeFrame s s := .of_same (sameLink_of_eq rfl) rfl rfl rfl

theorem Inner.strobeFrame {s t : State} (h : Inner s t) : StrobeFrame s t :=
  ⟨h.sameLink, by rw [h.cm], fun a => (h.ac a).sameSetup,
    fun z => ⟨(h.zones z).members, (h.zones z).rate, (h.zones z).inc, (h.zones z).window⟩⟩

theorem arbitrate_strobeFrame {s t : State} (h : StrobeFrame s t) : StrobeFrame s (arbitrate t) :=
  h.trans (.of_same (arbitrate_sameLink t) (arbitrate_cm t) (arbitrate_ac t) (arbitrate_zones t))

/-- The start decisions keep the zones' configuration (06 R109). -/
theorem decideStarts_strobeFrame (s : State) : StrobeFrame s s.decideStarts := by
  obtain ⟨frame, zone⟩ := decideStarts_spec s
  have link : SameLink s s.decideStarts := by
    unfold SameLink
    rw [frame.lp]
    exact ⟨rfl, rfl, rfl, rfl, rfl, rfl, rfl⟩
  refine ⟨link, by rw [frame.cm], fun a => ?_, fun z => ?_⟩
  · rw [State.chan, State.chan, frame.ac]; exact .refl _
  · rw [zone, State.startOf]
    split
    · split
      · exact ⟨rfl, rfl, rfl, rfl⟩
      split <;> exact ⟨rfl, rfl, rfl, rfl⟩
    · exact ⟨rfl, rfl, rfl, rfl⟩

/-- The updates, the clocks' work and the windows of a strobe. -/
theorem strobeUpdated_strobeFrame (s : State) (started : ZoneId → Bool) :
    StrobeFrame s (s.strobeUpdated started) := by
  refine ⟨sameLink_of_eq rfl, rfl, fun a => ?_, fun z => ?_⟩
  · have updated : (s.strobeUpdated started).chan a = ((s.chan a).update (s.viewOf started a) s.strobeHall).1 := by
      simp [State.strobeUpdated, State.updated, State.updates, State.chan]
    rw [updated]
    exact Channel.update_sameSetup _ _ _
  · have worked : (s.strobeUpdated started).zone z = ((s.updated started).clockWork s.ac z).zone :=
      tabMap_get _ _ z
    rw [worked, clockWork_clock (s.updated started) s.ac z]
    exact ⟨rfl, rfl, rfl, rfl⟩

theorem strobe_strobeFrame (s : State) (src : StrobeSource) (lost : Bool) :
    StrobeFrame s (s.strobe src lost) := by
  have based : StrobeFrame s (s.tbStrobe src) := .of_same (sameLink_of_eq rfl) rfl rfl rfl
  unfold State.strobe
  exact (based.trans (decideStarts_strobeFrame _)).trans
    ((strobeUpdated_strobeFrame _ _).trans (strobeWork_inner _ _ _ _).strobeFrame)

theorem atExpiry_strobeFrame (s : State) (x : Timer) {f : State → State} (hf : ∀ t, StrobeFrame t (f t)) :
    StrobeFrame s (s.atExpiry x f) :=
  atExpiry_keeps (StrobeFrame s) s x f (.refl s) (fun _ => .of_same (sameLink_of_eq rfl) rfl rfl rfl)
    fun t ht => ht.trans (hf t)

theorem regain_strobeFrame (s : State) : StrobeFrame s s.regain := by
  have dropped : StrobeFrame s ((List.finRange 4).foldl State.dropSyncReason
      { s with tb := { s.tb with syncLost := false, regainRun := 0, subRun := 0 } }) := by
    rw [dropSyncReasons_eq]
    refine ⟨⟨rfl, rfl, rfl, rfl, rfl, rfl, rfl⟩, rfl, fun a => .refl _, fun z => ?_⟩
    simp [State.zone]
  unfold State.regain
  dsimp only
  split
  · exact dropped
  · exact dropped.trans (strobe_strobeFrame _ _ _)

theorem lostEdge_strobeFrame (s : State) : StrobeFrame s s.lostEdge := by
  unfold State.lostEdge
  split
  · exact .of_same (sameLink_of_eq rfl) rfl rfl rfl
  split
  · exact .of_same (sameLink_of_eq rfl) rfl rfl rfl
  split
  · exact regain_strobeFrame s
  · exact .of_same (sameLink_of_eq rfl) rfl rfl rfl

theorem oscillatorStrobe_strobeFrame {s t : State} (h : exec .oscillatorStrobe s = .next t) :
    StrobeFrame s t := by
  simp only [exec, execOscillatorStrobe] at h
  split at h
  · cases h
    exact atExpiry_strobeFrame s _ fun t => arbitrate_strobeFrame (strobe_strobeFrame t _ _)
  · cases h; exact .refl s

theorem substituteStrobe_strobeFrame {s t : State} (h : exec .substituteStrobe s = .next t) :
    StrobeFrame s t := by
  simp only [exec, execSubstituteStrobe] at h
  split at h
  · cases h; exact .refl s
  · cases h
    refine atExpiry_strobeFrame s _ fun t => arbitrate_strobeFrame ?_
    have counted : StrobeFrame t { t with tb := t.tb.substitute } := .of_same (sameLink_of_eq rfl) rfl rfl rfl
    exact counted.trans (strobe_strobeFrame _ _ _)

theorem syncEdge_strobeFrame {s t : State} (h : exec .syncEdge s = .next t) : StrobeFrame s t := by
  simp only [exec, execSyncEdge] at h
  split at h
  · cases h; exact .refl s
  · cases h; exact .refl s
  split at h
  · cases h; exact arbitrate_strobeFrame (lostEdge_strobeFrame s)
  split at h
  · cases h; exact .of_same (sameLink_of_eq rfl) rfl rfl rfl
  · obtain rfl := Outcome.next.inj h
    have counted : StrobeFrame s { s with tb := { s.tb with subRun := 0 } } :=
      .of_same (sameLink_of_eq rfl) rfl rfl rfl
    exact arbitrate_strobeFrame (counted.trans (strobe_strobeFrame _ _ _))

/-- Settles O54: the frames of the blocks' requests, of the events between strobes, and of the strobes. -/
theorem gaugeCrackCaptureAndStrobeFrame : Obligations.GaugeCrackCaptureAndStrobeFrame := by
  refine ⟨fun s t i hi h => ?_, fun s t b values levels i hi h => ?_, fun s t i hi h => ?_⟩
  · obtain ⟨u, hu, f⟩ := block_requested hi h
    have zones : SameZones s t := f.zones.trans (by rw [hu.zs])
    have alarms : SameAlarms s t := by
      have := f.alarms
      rwa [SameAlarms, hu.zs] at this
    have link : SameLink s t := by
      have := f.link
      rwa [SameLink, hu.lp] at this
    obtain ⟨scv, sq, lw⟩ := f.strain
    exact ⟨f.tb.trans hu.tb, f.ac.trans hu.ac, zones, alarms, f.osc.trans hu.osc, link,
      fun no => f.se.trans (hu.se no), fun no => scv.trans (hu.scv no), fun no => sq.trans (hu.sq no),
      fun no => lw.trans (hu.lw no), fun no => f.cm.trans (hu.cm no), fun no => f.cu.trans (hu.cu no)⟩
  · have event : EventFrame s t ∧ (i ≠ .loopSample levels → t.cm = s.cm) := by
      have keeps : EventKeeps s t → EventFrame s t ∧ (i ≠ .loopSample levels → t.cm = s.cm) :=
        fun k => ⟨k.1, fun _ => k.2⟩
      simp only [List.mem_cons, List.not_mem_nil, or_false] at hi
      rcases hi with rfl | rfl | rfl | rfl | rfl | rfl | rfl
      · exact keeps (bankAnswer_eventKeeps h)
      · exact keeps (bankTimeout_eventKeeps h)
      · exact keeps (bankSettlingEnd_eventKeeps h)
      · exact keeps (freeScanExpiry_eventKeeps h)
      · exact keeps (reportDelayRunOut_eventKeeps h)
      · exact keeps (zeroGauges_eventKeeps h)
      · exact ⟨loopSample_eventFrame h, fun no => absurd rfl no⟩
    obtain ⟨frame, cm⟩ := event
    exact ⟨frame.tb, frame.link, cm, frame.ac, fun z =>
      ⟨(frame.zones z).members, (frame.zones z).inc, (frame.zones z).cycleCount, (frame.zones z).window⟩⟩
  · have frame : StrobeFrame s t := by
      simp only [List.mem_cons, List.not_mem_nil, or_false] at hi
      rcases hi with rfl | rfl | rfl
      · exact oscillatorStrobe_strobeFrame h
      · exact substituteStrobe_strobeFrame h
      · exact syncEdge_strobeFrame h
    exact ⟨frame.link, frame.loops, fun a => ⟨(frame.ac a).cfg, (frame.ac a).port, (frame.ac a).dryRun⟩,
      frame.zones⟩

end Sys2Proof.Machine
end

section
/-! What a zone can come to while the other blocks take what a strobe's work hands them: raises, sync losses,
captured crossings and the capture frame (06 R111, R114 to R116, R120). -/

namespace Sys2Proof.Machine
open Host Statements

/-! ### The zones and their members -/

/-- No actuator is a member of two zones (06 R99). -/
theorem OneZoneEach.unique {s : State} (h : OneZoneEach s) {y z : ZoneId} {a : ActId}
    (hy : (s.zone y).members.getLsbD a = true) (hz : (s.zone z).members.getLsbD a = true) : y = z := by
  by_contra ne
  have bit : ((s.zone y).members &&& (s.zone z).members).getLsbD a = false := by
    rw [h y z ne]; exact BitVec.getLsbD_zero
  rw [BitVec.getLsbD_and, hy, hz] at bit
  exact absurd bit (by decide)

/-- The zone a channel belongs to (06 R98). -/
theorem zoneOf_eq_some_iff {s : State} (h : OneZoneEach s) {a : ActId} {z : ZoneId} :
    s.zoneOf a = some z ↔ (s.zone z).members.getLsbD a = true := by
  refine ⟨fun e => List.find?_some (p := fun z => (s.zone z).has a) e, fun hz => ?_⟩
  cases e : s.zoneOf a with
  | none => exact absurd hz (List.find?_eq_none.mp e z (List.mem_finRange z))
  | some y => exact congrArg some (h.unique (List.find?_some (p := fun z => (s.zone z).has a) e) hz)

theorem zoneOf_eq_none_iff {s : State} {a : ActId} :
    s.zoneOf a = none ↔ ∀ z, (s.zone z).members.getLsbD a = false := by
  rw [State.zoneOf, List.find?_eq_none]
  exact ⟨fun h z => Bool.eq_false_iff.mpr (h z (List.mem_finRange z)), fun h z _ => Bool.eq_false_iff.mp (h z)⟩

/-- Zones with the same members. -/
theorem OneZoneEach.of_members {s t : State} (h : OneZoneEach s)
    (e : ∀ z, (t.zone z).members = (s.zone z).members) : OneZoneEach t := by
  intro y z ne
  rw [e y, e z]
  exact h y z ne

/-! ### Members that begin to hold (03 R50) -/

theorem heldMember_isCycling (c : Channel) : (heldMember c).isCycling = c.isCycling := by
  unfold heldMember
  split <;> rfl

theorem heldMember_idem (c : Channel) : heldMember (heldMember c) = heldMember c := by
  by_cases h : c.isCycling = true
  · have e : heldMember c = { c with aHold := c.aEff, j := 0 } := if_pos h
    have k : (heldMember c).isCycling = true := by rw [heldMember_isCycling, h]
    rw [show heldMember (heldMember c) = { heldMember c with aHold := (heldMember c).aEff, j := 0 } from
      if_pos k, e]
  · have e : heldMember c = c := if_neg h
    rw [e, e]

theorem heldMember_wasCycling (c : Channel) : (heldMember c).wasCycling = c.wasCycling := by
  unfold heldMember
  split <;> rfl

/-- Whether a member of a zone is cycling, in the model's form. -/
theorem memberList_any_isCycling (s : State) (z : ZoneId) :
    ((s.zone z).memberList.any fun a => (s.chan a).isCycling) = ramps s z := by
  rw [Bool.eq_iff_iff, Zone.any_member, ramps, List.any_eq_true]
  simp only [List.mem_finRange, true_and, Bool.and_eq_true]

theorem ramps_congr {s t : State} {z : ZoneId} (members : (t.zone z).members = (s.zone z).members)
    (cycling : ∀ a : ActId, (s.zone z).members.getLsbD a = true → (t.chan a).isCycling = (s.chan a).isCycling) :
    ramps t z = ramps s z := by
  unfold ramps
  rw [members]
  congr 1
  funext a
  cases h : (s.zone z).members.getLsbD a with
  | false => rfl
  | true => rw [cycling a h]

/-! ### A zone's fate -/

/-- What a zone `x`, in which a member is cycling or not, can come to through causes of HOLD and UNLOAD and
through phase captures that it misses; the mark tells that it entered HOLD from RUN on the way, where its
cycling members began to hold. -/
inductive Zone.Fate (cycling : Bool) (x : Zone) : Bool → Zone → Prop
  /-- It stays as it is. -/
  | stays (n : Nat) : Zone.Fate cycling x false { x with missed := n }
  /-- It stays in HOLD and may gain reasons. -/
  | holds (n : Nat) (q : HoldReasons) (hold : x.state = .hold) (reasons : x.reasons.Within q) :
      Zone.Fate cycling x false { x with missed := n, reasons := q }
  /-- It enters HOLD. -/
  | enters (n : Nat) (q : HoldReasons) (run : x.state = .run) :
      Zone.Fate cycling x true { heldZone x cycling q with missed := n }
  /-- It leaves for UNLOAD, or further to SAFE. -/
  | leaves (b : Bool) (n : Nat) (sub : HoldSub) (state : ZoneState)
      (was : x.state = .ready ∨ x.state = .run ∨ x.state = .hold) (gone : state = .unload ∨ state = .safe)
      (held : b = true → x.state = .run) :
      Zone.Fate cycling x b { x.enterUnload true with missed := n, sub, state }

theorem HoldReasons.Within.trans {p q r : HoldReasons} (h : p.Within q) (k : q.Within r) : p.Within r :=
  ⟨k.request ∘ h.request, k.segment ∘ h.segment, k.alarm ∘ h.alarm, k.sync ∘ h.sync⟩

theorem Zone.Fate.refl (cycling : Bool) (x : Zone) : x.Fate cycling false x := .stays x.missed

theorem Zone.Fate.members {cycling b : Bool} {x y : Zone} (h : x.Fate cycling b y) :
    y.members = x.members := by
  cases h <;> rfl

/-- A fate goes on from what the zone has come to. -/
theorem Zone.Fate.trans {cycling b c : Bool} {x y z : Zone} (h : x.Fate cycling b y)
    (k : y.Fate cycling c z) : x.Fate cycling (b || c) z := by
  cases h with
  | stays n =>
    rw [Bool.false_or]
    cases k with
    | stays m => exact .stays m
    | holds m q hold reasons => exact .holds m q hold reasons
    | enters m q run => exact .enters m q run
    | leaves _ m sub state was gone held => exact .leaves c m sub state was gone held
  | holds n p hold within =>
    rw [Bool.false_or]
    cases k with
    | stays m => exact .holds m p hold within
    | holds m q _ reasons => exact .holds m q hold (within.trans reasons)
    | enters m q run => exact absurd (hold.symm.trans run) (by decide)
    | leaves _ m sub state was gone held =>
      exact .leaves c m sub state was gone fun e => absurd (hold.symm.trans (held e)) (by decide)
  | enters n p run =>
    rw [Bool.true_or]
    cases k with
    | stays m => exact .enters m p run
    | holds m q _ _ => exact .enters m q run
    | enters m q again => exact absurd again (by simp [heldZone])
    | leaves _ m sub state _ gone _ => exact .leaves true m sub state (.inr (.inl run)) gone fun _ => run
  | leaves _ n sub state was gone held =>
    cases k with
    | stays m => rw [Bool.or_false]; exact .leaves b m sub state was gone held
    | holds m q hold _ => rcases gone with e | e <;> exact absurd (e.symm.trans hold) (by decide)
    | enters m q run => rcases gone with e | e <;> exact absurd (e.symm.trans run) (by decide)
    | leaves _ m _ _ again _ _ =>
      rcases gone with e | e <;> subst e <;> simp at again

section
variable {cycling b : Bool} {x y : Zone} (h : x.Fate cycling b y)
include h

/-- Only a zone in RUN enters HOLD, and it is not in RUN after it. -/
theorem Zone.Fate.run_of_held (e : b = true) : x.state = .run ∧ y.state ≠ .run := by
  cases h with
  | stays | holds => cases e
  | enters n q run => exact ⟨run, by simp [heldZone]⟩
  | leaves _ n sub state was gone held => exact ⟨held e, by rcases gone with e | e <;> simp [e]⟩

/-- A zone that has come from RUN to HOLD stands as its entry left it (06 R111). -/
theorem Zone.Fate.hold_of_run (run : x.state = .run) (hold : y.state = .hold) : b = true ∧
    y.sub = (heldZone x cycling y.reasons).sub ∧
    y.clockRunning = (heldZone x cycling y.reasons).clockRunning := by
  cases h with
  | stays n => exact absurd (run.symm.trans hold) (by decide)
  | holds n q was => exact absurd (run.symm.trans was) (by decide)
  | enters n q _ => exact ⟨rfl, rfl, rfl⟩
  | leaves _ n sub state was gone held => rcases gone with e | e <;> exact absurd (e.symm.trans hold) (by decide)

/-- A zone that stays in HOLD keeps its sub-state, its clock and its reasons (06 R111). -/
theorem Zone.Fate.hold_of_hold (was : x.state = .hold) (hold : y.state = .hold) :
    y.sub = x.sub ∧ y.clockRunning = x.clockRunning ∧ x.reasons.Within y.reasons := by
  cases h with
  | stays n => exact ⟨rfl, rfl, ⟨id, id, id, id⟩⟩
  | holds n q _ reasons => exact ⟨rfl, rfl, reasons⟩
  | enters n q run => exact absurd (run.symm.trans was) (by decide)
  | leaves _ n sub state was gone held => rcases gone with e | e <;> exact absurd (e.symm.trans hold) (by decide)

/-- A zone that has left for UNLOAD or SAFE (06 R114). -/
theorem Zone.Fate.cleared (was : x.state = .ready ∨ x.state = .run ∨ x.state = .hold)
    (gone : y.state = .unload ∨ y.state = .safe) : y.clockRunning = false ∧
    y.reasons = ⟨false, false, false, false⟩ ∧ y.pendingStart = none ∧ y.unloadFirst = true ∧
    y.lastStart = if x.pendingStart.isSome then .cancelled else x.lastStart := by
  cases h with
  | leaves => exact ⟨rfl, rfl, rfl, rfl, rfl⟩
  | stays n | holds n q _ _ =>
    exfalso
    rcases gone with e | e <;> rcases was with w | w | w <;> exact absurd (w.symm.trans e) (by decide)
  | enters n q run => rcases gone with e | e <;> simp [heldZone] at e

/-- The states a zone can come to. -/
theorem Zone.Fate.state : y.state = x.state ∨ (x.state = .run ∧ y.state = .hold) ∨
    ((x.state = .ready ∨ x.state = .run ∨ x.state = .hold) ∧ (y.state = .unload ∨ y.state = .safe)) := by
  cases h with
  | stays | holds => exact .inl rfl
  | enters n q run => exact .inr (.inl ⟨run, rfl⟩)
  | leaves _ n sub state was gone _ => exact .inr (.inr ⟨was, gone⟩)

end

/-! ### The fate of the part's zones -/

/-- Every zone of `s` has come to what it is in `t`, its members with it; a channel of no zone stays. -/
structure Fated (s t : State) : Prop where
  zones : ∀ z, ∃ b, (s.zone z).Fate (ramps s z) b (t.zone z) ∧
    ∀ a : ActId, (s.zone z).members.getLsbD a = true → t.chan a = if b then heldMember (s.chan a) else s.chan a
  others : ∀ a : ActId, (∀ z, (s.zone z).members.getLsbD a = false) → t.chan a = s.chan a

theorem Fated.members {s t : State} (h : Fated s t) (z : ZoneId) :
    (t.zone z).members = (s.zone z).members :=
  have ⟨_, fate, _⟩ := h.zones z
  fate.members

theorem Fated.ramps {s t : State} (h : Fated s t) (z : ZoneId) : ramps t z = ramps s z := by
  obtain ⟨b, fate, chan⟩ := h.zones z
  refine ramps_congr fate.members fun a ha => ?_
  rw [chan a ha]
  cases b
  · rfl
  · exact heldMember_isCycling _

theorem Fated.of_same {s t : State} (ac : t.ac = s.ac) (zones : t.zs.zones = s.zs.zones) : Fated s t := by
  refine ⟨fun z => ⟨false, ?_, fun a _ => ?_⟩, fun a _ => ?_⟩
  · rw [State.zone, State.zone, zones]; exact .refl _ _
  · rw [State.chan, State.chan, ac]; rfl
  · rw [State.chan, State.chan, ac]

theorem Fated.trans {s t u : State} (h : Fated s t) (k : Fated t u) : Fated s u := by
  refine ⟨fun z => ?_, fun a ha => ?_⟩
  · obtain ⟨b, fate, chan⟩ := h.zones z
    obtain ⟨c, fate', chan'⟩ := k.zones z
    rw [h.ramps] at fate'
    refine ⟨b || c, fate.trans fate', fun a ha => ?_⟩
    rw [chan' a (by rw [h.members]; exact ha), chan a ha]
    cases b <;> cases c
    · rfl
    · rfl
    · rfl
    · exact heldMember_idem _
  · rw [k.others a fun z => by rw [h.members]; exact ha z, h.others a ha]

/-- One zone's record written with what the zone can come to, its members' channels with it. -/
theorem fated_of_zone {s t : State} (disjoint : OneZoneEach s) {z : ZoneId} {b : Bool}
    (fate : (s.zone z).Fate (ramps s z) b (t.zone z)) (others : ∀ y, y ≠ z → t.zone y = s.zone y)
    (chan : ∀ a : ActId, t.chan a =
      if (s.zone z).members.getLsbD a = true ∧ b = true then heldMember (s.chan a) else s.chan a) :
    Fated s t := by
  refine ⟨fun y => ?_, fun a ha => ?_⟩
  · by_cases e : y = z
    · subst e
      exact ⟨b, fate, fun a ha => by rw [chan a]; simp only [ha, true_and]⟩
    · refine ⟨false, by rw [others y e]; exact .refl _ _, fun a ha => ?_⟩
      have no : ¬ (s.zone z).members.getLsbD a = true := fun hz => e (disjoint.unique ha hz)
      rw [chan a, if_neg fun hb => no hb.1]
      rfl
  · rw [chan a, if_neg fun hb => absurd hb.1 (by rw [ha z]; decide)]

theorem setZone_fated {s : State} (disjoint : OneZoneEach s) {z : ZoneId} {x : Zone}
    (fate : (s.zone z).Fate (ramps s z) false x) : Fated s (s.setZone z x) := by
  refine fated_of_zone (z := z) (b := false) disjoint ?_ (fun y e => ?_) fun a => ?_
  · rw [State.zone_setZone, if_pos rfl]; exact fate
  · rw [State.zone_setZone, if_neg e]
  · rw [if_neg fun hb => absurd hb.2 (by decide)]; rfl

/-! ### Causes of HOLD and UNLOAD (06 R111, R114) -/

/-- A zone in RUN enters HOLD (06 R111). -/
theorem holdZone_of_run {s : State} {z : ZoneId} (r : HoldReason) (h : (s.zone z).state = .run) :
    s.holdZone z r = held s z (HoldReasons.empty.add r) := by
  have members : ∀ x : Zone, x.members = (s.zone z).members →
      tabMap (fun a (c : Channel) => if x.has a then c.beginHold else c) s.ac =
        Vector.ofFn fun a => if (s.zone z).members.getLsbD a then heldMember (s.chan a) else s.chan a := by
    intro x hx
    ext1 i hi
    have := tabMap_get (fun a (c : Channel) => if x.has a then c.beginHold else c) s.ac ⟨i, hi⟩
    simp only [Fin.getElem_fin] at this
    rw [this, Vector.getElem_ofFn, Zone.has, hx]
    rfl
  unfold State.holdZone
  simp only [h, memberList_any_isCycling, State.mapMembers, State.zone_setZone, if_true, State.setZone_ac]
  rw [members ((s.zone z).enterHold (ramps s z) r) rfl]
  rfl

theorem held_zone (s : State) (z : ZoneId) (q : HoldReasons) (y : ZoneId) :
    (held s z q).zone y = if y = z then heldZone (s.zone z) (ramps s z) q else s.zone y :=
  s.zone_setZone z y _

theorem held_chan (s : State) (z : ZoneId) (q : HoldReasons) (a : ActId) :
    (held s z q).chan a = if (s.zone z).members.getLsbD a then heldMember (s.chan a) else s.chan a := by
  simp [held, State.chan]

/-- A zone in HOLD adds the reason (06 R111). -/
theorem holdZone_of_hold {s : State} {z : ZoneId} (r : HoldReason) (h : (s.zone z).state = .hold) :
    s.holdZone z r = s.addReason z r := by
  simp only [State.holdZone, h]

theorem addReason_zone (s : State) (z : ZoneId) (r : HoldReason) (y : ZoneId) : (s.addReason z r).zone y =
    if y = z then { s.zone z with reasons := (s.zone z).reasons.add r } else s.zone y := by
  unfold State.addReason
  dsimp only
  split
  · rename_i e
    rw [e]
    split
    · rename_i k; rw [k]
    · rfl
  · rw [State.zone_alarm, State.zone_setZone]

theorem holdZone_of_other {s : State} {z : ZoneId} (r : HoldReason) (run : (s.zone z).state ≠ .run)
    (hold : (s.zone z).state ≠ .hold) : s.holdZone z r = s := by
  unfold State.holdZone
  dsimp only
  split
  · exact absurd ‹_› run
  · exact absurd ‹_› hold
  all_goals rfl

theorem holdZone_fated {s : State} (disjoint : OneZoneEach s) (z : ZoneId) (r : HoldReason) :
    Fated s (s.holdZone z r) := by
  by_cases run : (s.zone z).state = .run
  · rw [holdZone_of_run r run]
    refine fated_of_zone (z := z) (b := true) disjoint ?_ (fun y e => ?_) fun a => ?_
    · rw [held_zone, if_pos rfl]; exact .enters _ _ run
    · rw [held_zone, if_neg e]
    · rw [held_chan]; simp only [and_true]
  by_cases hold : (s.zone z).state = .hold
  · rw [holdZone_of_hold r hold]
    refine fated_of_zone (z := z) (b := false) disjoint ?_ (fun y e => ?_) fun a => ?_
    · rw [addReason_zone, if_pos rfl]
      exact .holds _ _ hold (HoldReasons.within_add _ r)
    · rw [addReason_zone, if_neg e]
    · rw [if_neg fun hb => absurd hb.2 (by decide)]
      unfold State.addReason
      dsimp only
      split <;> rfl
  · rw [holdZone_of_other r run hold]
    exact .of_same rfl rfl

/-- A cause of UNLOAD moves READY, RUN and HOLD to UNLOAD, or on to SAFE (06 R114, R115). -/
theorem unloadZone_zone {s : State} {z : ZoneId}
    (h : (s.zone z).state = .ready ∨ (s.zone z).state = .run ∨ (s.zone z).state = .hold) :
    ∃ state : ZoneState, (state = .unload ∨ state = .safe) ∧
      (s.unloadZone z true).zone z = { (s.zone z).enterUnload true with state } := by
  have entered : s.unloadZone z true =
      (s.setZone z ((s.zone z).enterUnload true)).alarm.safeIfAllFaulted z := by
    unfold State.unloadZone
    rcases h with h | h | h <;> simp only [h]
  rw [entered]
  unfold State.safeIfAllFaulted
  split
  · exact ⟨.safe, .inr rfl, by simp⟩
  · exact ⟨.unload, .inl rfl, by simp [Zone.enterUnload]⟩

theorem unloadZone_of_other {s : State} {z : ZoneId}
    (h : ¬ ((s.zone z).state = .ready ∨ (s.zone z).state = .run ∨ (s.zone z).state = .hold)) :
    s.unloadZone z true = s := by
  unfold State.unloadZone
  split
  · exact absurd (.inl ‹_›) h
  · exact absurd (.inr (.inl ‹_›)) h
  · exact absurd (.inr (.inr ‹_›)) h
  all_goals rfl

theorem unloadZone_ac (s : State) (z : ZoneId) (b : Bool) : (s.unloadZone z b).ac = s.ac := by
  unfold State.unloadZone State.safeIfAllFaulted
  split
  · split <;> rfl
  · split <;> rfl
  · split <;> rfl
  all_goals rfl

theorem unloadZone_fated {s : State} (disjoint : OneZoneEach s) (z : ZoneId) :
    Fated s (s.unloadZone z true) := by
  by_cases was : (s.zone z).state = .ready ∨ (s.zone z).state = .run ∨ (s.zone z).state = .hold
  · obtain ⟨state, gone, zone⟩ := unloadZone_zone was
    refine fated_of_zone (z := z) (b := false) disjoint ?_ (fun y e => unloadZone_zone_ne s y z true e)
      fun a => ?_
    · rw [zone]
      exact .leaves false (s.zone z).missed (s.zone z).sub state was gone nofun
    · rw [if_neg fun hb => absurd hb.2 (by decide), State.chan, State.chan, unloadZone_ac]
  · rw [unloadZone_of_other was]
    exact .of_same rfl rfl

/-! ### What the events of a strobe's work keep -/

/-- A capture frame is the Capture Unit's, with its announce marks and the new-value marks (11 R191, R197). -/
theorem takeFrame_same (s : State) (chans : Vector Channel 8) (b : Bool) :
    (s.takeFrame chans b).ac = s.ac ∧ (s.takeFrame chans b).zs = s.zs ∧ (s.takeFrame chans b).se = s.se := by
  have lock : ∀ (t : State) (n : BlockId),
      (t.lockBlock n).ac = t.ac ∧ (t.lockBlock n).zs = t.zs ∧ (t.lockBlock n).se = t.se := by
    intro t n
    unfold State.lockBlock
    dsimp only
    split
    · split <;> exact ⟨rfl, rfl, rfl⟩
    · exact ⟨rfl, rfl, rfl⟩
  unfold State.takeFrame
  split
  · exact ⟨rfl, rfl, rfl⟩
  · dsimp only
    split
    · exact ⟨rfl, rfl, rfl⟩
    split
    · exact lock _ _
    · exact ⟨rfl, rfl, rfl⟩

/-- A property of the zones and the channels that causes of HOLD and UNLOAD and missed captures keep. -/
structure EventClosed (P : State → Prop) : Prop where
  same : ∀ {s t : State}, P s → t.ac = s.ac → t.zs.zones = s.zs.zones → P t
  hold : ∀ {s : State} (z : ZoneId) (r : HoldReason), P s → P (s.holdZone z r)
  unload : ∀ {s : State} (z : ZoneId), P s → P (s.unloadZone z true)
  missed : ∀ {s : State} (z : ZoneId) (n : Nat), P s → P (s.setZone z { s.zone z with missed := n })

section
variable {P : State → Prop} (closed : EventClosed P)
include closed

theorem EventClosed.raise {s : State} (h : P s) (r : Raise) : P (s.raise r) := by
  have enlisted : P (s.enlist r) := by
    refine closed.same h ?_ ?_
    · unfold State.enlist; dsimp only; split <;> rfl
    · unfold State.enlist
      dsimp only
      split <;> exact take_zones _ _ _
  have acted : P ((s.enlist r).severityAction r.zone r.severity) := by
    cases r.severity with
    | info => exact enlisted
    | minor => exact closed.hold _ _ enlisted
    | major => exact closed.unload _ enlisted
  refine closed.same acted ?_ (by rw [State.raise, alarmTrigger_zs])
  unfold State.raise State.alarmTrigger
  split
  · rw [trigger_only]
  · rfl

theorem EventClosed.raiseAll {s : State} (h : P s) (l : List Raise) : P (s.raiseAll l) :=
  foldl_keeps P State.raise (fun _ r ht => closed.raise ht r) _ _ (closed.same h rfl rfl)

theorem EventClosed.finishScan {s : State} (h : P s) (x : Scan) : P (s.finishScan x) := by
  unfold State.finishScan State.zeroScan State.convertScan State.deferredReply State.pushReply
  dsimp only
  split
  · split
    · split <;> exact closed.same h rfl rfl
    · exact closed.same h rfl rfl
  · split
    · exact closed.same h rfl rfl
    · refine closed.raiseAll ?_ _
      exact closed.same h rfl rfl

theorem EventClosed.consult {s : State} (h : P s) : P s.consult := by
  have run : ∀ (n : Nat) {t : State}, P t → P (t.runScans n) := by
    intro n
    induction n with
    | zero => exact id
    | succ n ih =>
      intro t ht
      unfold State.runScans
      split
      · split
        · exact ih (closed.finishScan ht _)
        · exact ht
      · split
        · exact ih (closed.same ht rfl rfl)
        · exact ht
  exact run 14 h

theorem EventClosed.phaseRequest {s : State} (h : P s) (p : PhaseRequest) : P (s.phaseRequest p) := by
  unfold State.phaseRequest
  dsimp only
  refine closed.consult ?_
  split
  · exact closed.missed _ _ (closed.same h rfl rfl)
  · exact closed.same h rfl rfl

theorem EventClosed.strobeEvent {s : State} (h : P s) (q : Seen) (e : StrobeTask) :
    P (s.strobeEvent q e) := by
  cases e with
  | raise src z v => exact closed.raise h _
  | loss z =>
    show P (s.syncLoss _)
    unfold State.syncLoss
    split
    · exact closed.hold _ _ (closed.raise h _)
    · exact h
  | scans l => exact foldl_keeps P _ (fun _ p ht => closed.phaseRequest ht p) l s h
  | frame b =>
    obtain ⟨ac, zs, -⟩ := takeFrame_same s q.chans b
    exact closed.same h ac (congrArg ZoneSupervisor.zones zs)

end

/-- What a part's zones can come to is closed under the events of a strobe's work. -/
theorem fated_closed (s : State) : EventClosed fun t => OneZoneEach t ∧ Fated s t := by
  have next : ∀ {t u : State}, OneZoneEach t ∧ Fated s t → Fated t u → OneZoneEach u ∧ Fated s u :=
    fun ⟨disjoint, fated⟩ k => ⟨disjoint.of_members k.members, fated.trans k⟩
  exact {
    same := fun h ac zones => next h (.of_same ac zones)
    hold := fun z r h => next h (holdZone_fated h.1 z r)
    unload := fun z h => next h (unloadZone_fated h.1 z)
    missed := fun z n h => next h (setZone_fated h.1 (.stays n)) }

end Sys2Proof.Machine
end

section
/-! The start decisions of a strobe (06 R109), with the Time Base's part before them (02 R26). -/

namespace Sys2Proof.Machine
open Host Statements

theorem startsAt_iff (x : Zone) (hall : Nat) : x.startsAt hall = true ↔
    x.state = .ready ∧ ∃ T, x.pendingStart = some T ∧ T ≤ hall := by
  unfold Zone.startsAt
  rw [Bool.and_eq_true, decide_eq_true_eq]
  cases x.pendingStart <;> simp

/-- What keeps a zone from its start (06 R108, R109). -/
theorem blocked_iff (s : State) (z : ZoneId) : (s.standing z || s.zs.overflow) = true ↔ Blocked s z := by
  simp [State.standing, Blocked, List.any_eq_true]

/-- Some block is RECORDING or POST (11 R192). -/
theorem active_isSome_iff (u : CaptureUnit) : u.active.isSome = true ↔ ∃ b : BlockId, u.blocks[b].isActive := by
  simp only [CaptureUnit.active, List.find?_isSome, List.mem_finRange, true_and, activeTest_iff]

/-- The start decision of one zone lets it enter RUN (06 R109). -/
def State.starts (s : State) (z : ZoneId) : Bool :=
  (s.zone z).startsAt s.strobeHall && !s.scv.zeroOp.isSome && !(s.standing z || s.zs.overflow)

theorem starts_iff (s : State) (z : ZoneId) : s.starts z = true ↔
    ((s.zone z).state = .ready ∧ ∃ T, (s.zone z).pendingStart = some T ∧ T ≤ s.strobeHall) ∧
    s.scv.zeroOp = none ∧ ¬ Blocked s z := by
  rw [State.starts, Bool.and_eq_true, Bool.and_eq_true, startsAt_iff, Bool.not_eq_true', Bool.not_eq_true',
    ← Bool.not_eq_true (s.standing z || s.zs.overflow), blocked_iff, Option.isSome_eq_false_iff,
    Option.isNone_iff_eq_none, and_assoc]

section
variable {s : State} {z : ZoneId}

theorem startOf_notDue (h : ¬ (s.zone z).startsAt s.strobeHall = true) : s.startOf z = s.zone z := by
  unfold State.startOf
  exact if_neg h

theorem startOf_late (h : (s.zone z).startsAt s.strobeHall = true) (zero : s.scv.zeroOp ≠ none) :
    s.startOf z = { s.zone z with pendingStart := none, lastStart := .late } := by
  unfold State.startOf
  dsimp only
  rw [if_pos h, if_pos (Option.isSome_iff_ne_none.mpr zero)]

theorem startOf_cancelled (h : (s.zone z).startsAt s.strobeHall = true) (zero : s.scv.zeroOp = none)
    (blocked : Blocked s z) :
    s.startOf z = { s.zone z with pendingStart := none, lastStart := .cancelled } := by
  unfold State.startOf
  dsimp only
  rw [if_pos h, if_neg (by simp [zero]), if_pos ((blocked_iff s z).mpr blocked)]

theorem startOf_starts (h : s.starts z = true) : s.startOf z = (s.zone z).enterRun s.strobeHall := by
  obtain ⟨due, zero, free⟩ := (starts_iff s z).mp h
  unfold State.startOf
  dsimp only
  rw [if_pos ((startsAt_iff _ _).mpr due), if_neg (by simp [zero]), if_neg (mt (blocked_iff s z).mp free)]

/-- A zone in READY is in RUN after its start decision when it starts, and only then. -/
theorem started_eq_starts :
    (decide ((s.zone z).state = .ready) && decide ((s.startOf z).state = .run)) = s.starts z := by
  rw [Bool.eq_iff_iff, Bool.and_eq_true, decide_eq_true_eq, decide_eq_true_eq]
  refine ⟨fun ⟨ready, run⟩ => ?_, fun h => ⟨((starts_iff s z).mp h).1.1, by rw [startOf_starts h]; rfl⟩⟩
  have stays : ∀ x : Zone, x.state = (s.zone z).state → s.startOf z = x → s.starts z = true := by
    intro x hx e
    rw [e, hx, ready] at run
    exact absurd run (by decide)
  by_cases due : (s.zone z).startsAt s.strobeHall = true
  · by_cases zero : s.scv.zeroOp = none
    · by_cases blocked : Blocked s z
      · exact stays { s.zone z with pendingStart := none, lastStart := .cancelled } rfl
          (startOf_cancelled due zero blocked)
      · exact (starts_iff s z).mpr ⟨(startsAt_iff _ _).mp due, zero, blocked⟩
    · exact stays { s.zone z with pendingStart := none, lastStart := .late } rfl (startOf_late due zero)
  · exact stays _ rfl (startOf_notDue due)

end

theorem decideStart_alarmPending (s : State) (z : ZoneId) :
    (s.decideStart z).lp.alarmPending = (s.lp.alarmPending || s.starts z) := by
  unfold State.decideStart State.starts
  dsimp only
  split
  · rename_i due
    split
    · rename_i zero; simp [due, zero]
    · rename_i zero
      split
      · rename_i blocked; simp [blocked]
      · rename_i free; simp [due, zero, free]
  · rename_i due; simp [due]

theorem starts_congr {s t : State} {z : ZoneId} (h : StartFrame s t) (e : t.zone z = s.zone z) :
    t.starts z = s.starts z := by
  unfold State.starts State.standing State.strobeHall
  rw [e, h.tb, h.scv, h.alarms, h.overflow]

theorem StartFrame.refl (s : State) : StartFrame s s := by constructor <;> rfl

theorem StartFrame.step {s t : State} (h : StartFrame s t) (z : ZoneId) : StartFrame s (t.decideStart z) := by
  have k := decideStart_frame t z
  exact ⟨k.tb.trans h.tb, k.ac.trans h.ac, k.se.trans h.se, k.scv.trans h.scv, k.sq.trans h.sq,
    k.lw.trans h.lw, k.cm.trans h.cm, k.cu.trans h.cu, k.osc.trans h.osc, k.free.trans h.free,
    k.pending.trans h.pending, k.alarms.trans h.alarms, k.overflow.trans h.overflow, by rw [k.lp, h.lp]⟩

/-- A zone that starts sets ALARM-pending (01 R15). -/
theorem decideStarts_alarmPending (s : State) : s.decideStarts.lp.alarmPending = true ↔
    s.lp.alarmPending = true ∨ ∃ z, s.starts z = true := by
  have fold : ∀ l : List ZoneId, l.Nodup → ∀ t : State, StartFrame s t → (∀ z ∈ l, t.zone z = s.zone z) →
      ((l.foldl State.decideStart t).lp.alarmPending = true ↔
        t.lp.alarmPending = true ∨ ∃ z ∈ l, s.starts z = true) := by
    intro l
    induction l with
    | nil => intro _ t _ _; simp
    | cons y l ih =>
      intro hn t h e
      obtain ⟨hy, hl⟩ := List.nodup_cons.mp hn
      have rest : ∀ z ∈ l, (t.decideStart y).zone z = s.zone z := by
        intro z hz
        rw [decideStart_zone, if_neg fun k : z = y => hy (k ▸ hz)]
        exact e z (List.mem_cons_of_mem _ hz)
      rw [List.foldl_cons, ih hl _ (h.step y) rest, decideStart_alarmPending, Bool.or_eq_true,
        starts_congr h (e y List.mem_cons_self), or_assoc, List.exists_mem_cons_iff]
  have all := fold (List.finRange 4) (List.nodup_finRange 4) s (.refl s) fun _ _ => rfl
  simpa [State.decideStarts] using all

/-- A strobe is the Time Base's part, the start decisions, and the strobe's work (02 R26). -/
theorem strobe_eq (s : State) (src : StrobeSource) (lost : Bool) : s.strobe src lost =
    (s.tbStrobe src).decideStarts.strobeWork (s.tbStrobe src).starts lost s.tb.pendingSet.isSome := by
  have zone := (decideStarts_spec (s.tbStrobe src)).2
  have started : (fun z => decide (((s.tbStrobe src).zone z).state = .ready) &&
      decide (((s.tbStrobe src).decideStarts.zone z).state = .run)) = (s.tbStrobe src).starts := by
    funext z
    rw [zone, started_eq_starts]
  unfold State.strobe
  dsimp only
  rw [started]

/-- The start decisions, as one whole. -/
theorem StartFrame.eq {s t : State} (h : StartFrame s t) : t = { s with
    zs := { s.zs with zones := t.zs.zones }, lp := { s.lp with alarmPending := t.lp.alarmPending } } := by
  have zs : t.zs = { s.zs with zones := t.zs.zones } :=
    congrArg₂ (ZoneSupervisor.mk t.zs.zones) h.alarms h.overflow
  obtain ⟨⟩ := t
  rw [State.mk.injEq]
  exact ⟨h.lp, h.tb, h.ac, zs, h.se, h.scv, h.sq, h.lw, h.cm, h.cu, h.osc, h.free, h.pending⟩

/-- The part after the Time Base's part and the start decisions. -/
theorem decideStarts_eq (s : State) (src : StrobeSource) : (s.tbStrobe src).decideStarts = { s with
    tb := strobed s.tb src s.osc
    scv := (s.tbStrobe src).decideStarts.scv
    zs := { s.zs with zones := (s.tbStrobe src).decideStarts.zs.zones }
    lp := { s.lp with alarmPending := (s.tbStrobe src).decideStarts.lp.alarmPending } } := by
  have frame := (decideStarts_spec (s.tbStrobe src)).1
  refine frame.eq.trans ?_
  rw [frame.scv]
  rfl

/-- New-value marks are spent at a strobe that no block takes a frame of (log 25). -/
theorem decideStarts_scv (s : State) (src : StrobeSource) :
    ((∃ b : BlockId, s.cu.blocks[b].isActive) → (s.tbStrobe src).decideStarts.scv = s.scv) ∧
    ((∀ b : BlockId, ¬ s.cu.blocks[b].isActive) →
      (s.tbStrobe src).decideStarts.scv = { s.scv with written := [] }) := by
  rw [(decideStarts_spec (s.tbStrobe src)).1.scv]
  refine ⟨fun h => if_pos ((active_isSome_iff s.cu).mpr h), fun h => if_neg fun some => ?_⟩
  obtain ⟨b, hb⟩ := (active_isSome_iff s.cu).mp some
  exact h b hb

theorem tbStrobe_zeroOp (s : State) (src : StrobeSource) : (s.tbStrobe src).scv.zeroOp = s.scv.zeroOp := by
  unfold State.tbStrobe
  dsimp only
  split <;> rfl

end Sys2Proof.Machine
end

section
/-! The updates of a strobe, the clocks' work, and the zones' own moves: HELD, SAFE, and HOLD by an end action
(06 R103, R111, R112, R115). -/

namespace Sys2Proof.Machine
open Host Statements

/-! ### An update's end action (03 R47) -/

/-- Only an update in RUN completes a segment (03 R42, R50, R52). -/
theorem profile_holdZone {c : Channel} {view : Option ZoneView} (h : (c.profile view).holdZone = true) :
    ∃ v, view = some v ∧ v.state = .run := by
  cases view with
  | none => cases h
  | some v =>
    refine ⟨v, rfl, ?_⟩
    unfold Channel.profile at h
    dsimp only at h
    split at h
    · cases h
    · cases h
    · assumption
    · unfold Channel.holdProfile at h
      dsimp only at h
      split at h <;> cases h
    · cases h
    · cases h

theorem update_holdZone {c : Channel} {view : Option ZoneView} {hall : Nat}
    (h : (c.update view hall).2.holdZone = true) : ∃ v, view = some v ∧ v.state = .run := by
  have program : ∀ d : Channel, (d.program view).holdZone = true → ∃ v, view = some v ∧ v.state = .run := by
    intro d hd
    cases view with
    | none => exact profile_holdZone hd
    | some v => exact profile_holdZone hd
  have on : (c.updateOn view hall).2.holdZone = ((c.activate view).program view).holdZone := by
    unfold Channel.updateOn
    dsimp only
    split <;> rfl
  unfold Channel.update at h
  split at h
  · exact program _ (on ▸ h)
  · exact program _ (on ▸ h)
  · cases h
  · cases h

/-! ### The updates and the clocks' work -/

section
variable (d : State) (started : ZoneId → Bool)

/-- The update of one channel at a strobe, with what it hands over. -/
def State.updateOf (a : ActId) : Channel × Outcomes := (d.chan a).update (d.viewOf started a) d.strobeHall

/-- What the eight updates hand over. -/
def State.outcomes : Vector Outcomes 8 := tabMap (fun _ (u : Channel × Outcomes) => u.2) (d.updates started)

/-- The strobe work of a zone's clock, after the updates. -/
def State.workOf (z : ZoneId) : ZoneWork := (d.updated started).clockWork d.ac z

theorem outcomes_get (a : ActId) : (d.outcomes started)[a] = (d.updateOf started a).2 := by
  simp [State.outcomes, State.updates, State.updateOf, State.chan]

theorem updated_chan (a : ActId) : (d.updated started).chan a = (d.updateOf started a).1 := by
  simp [State.updated, State.updates, State.updateOf, State.chan]

theorem strobeUpdated_chan (a : ActId) : (d.strobeUpdated started).chan a = (d.updateOf started a).1 :=
  updated_chan d started a

theorem strobeUpdated_zone (z : ZoneId) : (d.strobeUpdated started).zone z = (d.workOf started z).zone :=
  tabMap_get _ _ z

theorem workOf_clock (z : ZoneId) : (d.zone z).SameButClock (d.workOf started z).zone :=
  clockWork_clock (d.updated started) d.ac z

end

/-- What the clock's strobe work leaves of a zone (06 R103 to R105). -/
structure Zone.SameButWork (x y : Zone) : Prop where
  state : y.state = x.state
  sub : y.sub = x.sub
  members : y.members = x.members
  inc : y.inc = x.inc
  nout : y.nout = x.nout
  clockRunning : y.clockRunning = x.clockRunning
  origin : y.origin = x.origin
  reasons : y.reasons = x.reasons
  pendingStart : y.pendingStart = x.pendingStart
  lastStart : y.lastStart = x.lastStart
  missed : y.missed = x.missed

theorem Zone.SameButClock.sameButWork {x y : Zone} (h : x.SameButClock y) : x.SameButWork y := by
  rw [h]
  exact ⟨rfl, rfl, rfl, rfl, rfl, rfl, rfl, rfl, rfl, rfl, rfl⟩

theorem workOf_same (d : State) (started : ZoneId → Bool) (z : ZoneId) :
    (d.zone z).SameButWork (d.workOf started z).zone :=
  (workOf_clock d started z).sameButWork

/-- n at this strobe, while the zone's clock runs and has had its first strobe (04 R60). -/
def IndexAt (d : State) (z : ZoneId) : Option Nat :=
  if (d.zone z).clockRunning = true ∧ (d.zone z).origin ≤ d.strobeHall
  then some ((d.strobeHall - (d.zone z).origin) / 500) else none

theorem strobeIndex_eq (d : State) (z : ZoneId) : (d.zone z).strobeIndex d.strobeHall = IndexAt d z := by
  simp only [Zone.strobeIndex, IndexAt, Bool.and_eq_true, decide_eq_true_eq]

/-- This strobe is a wrap of the zone (04 R60). -/
def WrapAt (d : State) (z : ZoneId) : Prop := ∃ n, IndexAt d z = some n ∧ 1 ≤ n ∧
  (n - 1) * (d.zone z).inc / 2 ^ 32 < n * (d.zone z).inc / 2 ^ 32

theorem wrapsAt_iff (d : State) (z : ZoneId) : d.wrapsAt z = true ↔ WrapAt d z := by
  unfold State.wrapsAt WrapAt
  rw [strobeIndex_eq]
  cases IndexAt d z with
  | none => simp
  | some n => simp [isWrap_iff]

/-! ### The zones' own moves -/

/-- A member has completed a segment whose end action holds the zone, which is in RUN (03 R47, 06 R111). -/
def State.ends (s : State) (outs : Vector Outcomes 8) (z : ZoneId) : Bool :=
  decide ((s.zone z).state = .run) && (s.zone z).memberList.any fun a => outs[a].holdZone

/-- The zone makes a move of its own that the host is told of (01 R15). -/
def State.moves (s : State) (outs : Vector Outcomes 8) (z : ZoneId) : Bool :=
  s.ramped z || s.atSafe outs z || s.ends outs z

/-- A zone as its own move leaves it. -/
def State.moveOf (s : State) (outs : Vector Outcomes 8) (z : ZoneId) : Zone :=
  if s.ramped z then { s.zone z with sub := .held, clockRunning := false }
  else if s.atSafe outs z then { s.zone z with state := .safe, unloadFirst := false }
  else if s.ends outs z then heldZone (s.zone z) (ramps s z) ⟨false, true, false, false⟩
  else if (s.zone z).state = .unload then { s.zone z with unloadFirst := false }
  else s.zone z

theorem ramped_hold {s : State} {z : ZoneId} (h : s.ramped z = true) : (s.zone z).state = .hold := by
  simp only [State.ramped, Bool.and_eq_true, decide_eq_true_eq] at h
  exact h.1.1.1

theorem ends_run {s : State} {outs : Vector Outcomes 8} {z : ZoneId} (h : s.ends outs z = true) :
    (s.zone z).state = .run := by
  simp only [State.ends, Bool.and_eq_true, decide_eq_true_eq] at h
  exact h.1

theorem not_ends {s : State} (outs : Vector Outcomes 8) {z : ZoneId} (h : (s.zone z).state ≠ .run) :
    s.ends outs z = false :=
  Bool.eq_false_iff.mpr fun e => h (ends_run e)

/-- Work on the zones, the channels and ALARM-pending alone. -/
def MovesOnly (s t : State) : Prop := t = { s with
  ac := t.ac, zs := { s.zs with zones := t.zs.zones }, lp := { s.lp with alarmPending := t.lp.alarmPending } }

theorem MovesOnly.trans {s t u : State} (h : MovesOnly s t) (k : MovesOnly t u) : MovesOnly s u := by
  unfold MovesOnly at *
  rw [k, h]

/-- What a zone's own move does: to the zone, to its members, to ALARM-pending. -/
structure MoveStep (s : State) (outs : Vector Outcomes 8) (z : ZoneId) (t : State) : Prop where
  only : MovesOnly s t
  zone : t.zone z = s.moveOf outs z
  chan : ∀ a : ActId, t.chan a =
    if (s.zone z).members.getLsbD a = true ∧ s.ends outs z = true then heldMember (s.chan a) else s.chan a
  alarm : t.lp.alarmPending = (s.lp.alarmPending || s.moves outs z)

/-- A zone's own move, by its three causes (06 R111, R112, R115). -/
theorem zoneMoves_step {s : State} {outs : Vector Outcomes 8} {z : ZoneId}
    (run : ∀ a : ActId, (s.zone z).members.getLsbD a = true → outs[a].holdZone = true →
      (s.zone z).state = .run) : MoveStep s outs z (s.zoneMoves outs z) := by
  have held : ((s.zone z).memberList.any fun a => outs[a].holdZone) = s.ends outs z := by
    rw [Bool.eq_iff_iff, State.ends, Bool.and_eq_true, decide_eq_true_eq]
    refine ⟨fun h => ⟨?_, h⟩, fun h => h.2⟩
    obtain ⟨a, ha, hold⟩ := (Zone.any_member _ _).mp h
    exact run a ha hold
  have stays : s.ends outs z = false → ∀ a : ActId, s.chan a =
      if (s.zone z).members.getLsbD a = true ∧ s.ends outs z = true then heldMember (s.chan a)
      else s.chan a := fun h a => (if_neg fun k => absurd k.2 (by rw [h]; decide)).symm
  unfold State.zoneMoves
  dsimp only
  by_cases ramped : s.ramped z = true
  · have quiet := not_ends outs (z := z) (by rw [ramped_hold ramped]; decide)
    rw [if_pos ramped]
    exact ⟨rfl, by simp [State.moveOf, ramped], stays quiet, by simp [State.moves, ramped]⟩
  by_cases safe : s.atSafe outs z = true
  · have quiet := not_ends outs (z := z) (by rw [atSafe_unload safe]; decide)
    rw [if_neg ramped, if_pos safe]
    exact ⟨rfl, by simp [State.moveOf, ramped, safe], stays quiet, by simp [State.moves, safe]⟩
  rw [if_neg ramped, if_neg safe, held]
  by_cases ends : s.ends outs z = true
  · rw [if_pos ends, holdZone_of_run .segment (ends_run ends)]
    refine ⟨rfl, ?_, fun a => ?_, by simp [State.moves, ends, Statements.held, alarmed]⟩
    · rw [held_zone, if_pos rfl, State.moveOf, if_neg ramped, if_neg safe, if_pos ends]
      rfl
    · rw [held_chan]; simp only [ends, and_true]
  · have silent : s.moves outs z = false := by simp [State.moves, ramped, safe, ends]
    rw [if_neg ends]
    split
    · rename_i unload
      exact ⟨rfl, by simp [State.moveOf, ramped, safe, ends, unload], stays (Bool.eq_false_iff.mpr ends),
        by rw [silent, Bool.or_false]; rfl⟩
    · rename_i other
      exact ⟨rfl, by simp [State.moveOf, ramped, safe, ends, other], stays (Bool.eq_false_iff.mpr ends),
        by rw [silent, Bool.or_false]⟩

/-- A zone and its members as they are in another state, at the same hall time. -/
structure SameZone (s t : State) (z : ZoneId) : Prop where
  hall : t.strobeHall = s.strobeHall
  zone : t.zone z = s.zone z
  chan : ∀ a : ActId, (s.zone z).members.getLsbD a = true → t.chan a = s.chan a

theorem all_member_congr (x : Zone) {p q : ActId → Bool}
    (h : ∀ a : ActId, x.members.getLsbD a = true → p a = q a) : x.memberList.all p = x.memberList.all q := by
  rw [Bool.eq_iff_iff, Zone.all_member, Zone.all_member]
  exact forall_congr' fun a => forall_congr' fun ha => by rw [h a ha]

section
variable {s t : State} {z : ZoneId} (h : SameZone s t z)
include h

theorem SameZone.ramped : t.ramped z = s.ramped z := by
  unfold State.ramped State.wrapsAt
  rw [h.zone, h.hall]
  dsimp only
  rw [all_member_congr (s.zone z) fun a ha => by rw [h.chan a ha]]

theorem SameZone.atSafe (outs : Vector Outcomes 8) : t.atSafe outs z = s.atSafe outs z := by
  unfold State.atSafe
  rw [h.zone]
  dsimp only
  rw [all_member_congr (s.zone z) fun a ha => by rw [h.chan a ha]]

theorem SameZone.ends (outs : Vector Outcomes 8) : t.ends outs z = s.ends outs z := by
  unfold State.ends
  rw [h.zone]

theorem SameZone.moves (outs : Vector Outcomes 8) : t.moves outs z = s.moves outs z := by
  unfold State.moves
  rw [h.ramped, h.atSafe, h.ends]

theorem SameZone.moveOf (outs : Vector Outcomes 8) : t.moveOf outs z = s.moveOf outs z := by
  have cycling : Statements.ramps t z = Statements.ramps s z :=
    ramps_congr (by rw [h.zone]) fun a ha => by rw [h.chan a ha]
  unfold State.moveOf
  rw [h.ramped, h.atSafe, h.ends, h.zone, cycling]

end

theorem moveOf_members (s : State) (outs : Vector Outcomes 8) (z : ZoneId) :
    (s.moveOf outs z).members = (s.zone z).members := by
  unfold State.moveOf
  split
  · rfl
  split
  · rfl
  split
  · rfl
  split <;> rfl

/-- The part `t` after the own moves of the zones of `l`. -/
structure Moved (t : State) (outs : Vector Outcomes 8) (l : List ZoneId) (u : State) : Prop where
  only : MovesOnly t u
  zone : ∀ z, u.zone z = if z ∈ l then t.moveOf outs z else t.zone z
  chan : ∀ (a : ActId) (z : ZoneId), (t.zone z).members.getLsbD a = true → u.chan a =
    if z ∈ l ∧ t.ends outs z = true then heldMember (t.chan a) else t.chan a
  others : ∀ a : ActId, (∀ z, (t.zone z).members.getLsbD a = false) → u.chan a = t.chan a
  alarm : u.lp.alarmPending = true ↔ t.lp.alarmPending = true ∨ ∃ z ∈ l, t.moves outs z = true

theorem Moved.nil (t : State) (outs : Vector Outcomes 8) : Moved t outs [] t :=
  ⟨rfl, fun z => by simp, fun a z _ => by simp, fun a _ => rfl, by simp⟩

/-- A zone that has not moved stands with its members as before the moves. -/
theorem Moved.same {t u : State} {outs : Vector Outcomes 8} {l : List ZoneId} (h : Moved t outs l u)
    {z : ZoneId} (hz : z ∉ l) : SameZone t u z :=
  ⟨by rw [h.only]; rfl, by rw [h.zone, if_neg hz],
    fun a ha => by rw [h.chan a z ha, if_neg fun k => hz k.1]⟩

theorem Moved.step {t u : State} {outs : Vector Outcomes 8} {l : List ZoneId} (h : Moved t outs l u)
    (disjoint : OneZoneEach t)
    (run : ∀ (z : ZoneId) (a : ActId), (t.zone z).members.getLsbD a = true → outs[a].holdZone = true →
      (t.zone z).state = .run) {z : ZoneId} (hz : z ∉ l) : Moved t outs (z :: l) (u.zoneMoves outs z) := by
  have same := h.same hz
  obtain ⟨only, zone, chan, alarm⟩ := zoneMoves_step (s := u) (outs := outs) (z := z) <| by
    rw [same.zone]; exact run z
  rw [same.zone, same.ends] at chan
  rw [same.moveOf] at zone
  rw [same.moves] at alarm
  refine ⟨h.only.trans only, fun y => ?_, fun a y ha => ?_, fun a ha => ?_, ?_⟩
  · by_cases e : y = z
    · subst e
      rw [zone, if_pos List.mem_cons_self]
    · rw [zoneMoves_zone_ne _ _ _ _ e, h.zone]
      simp [e]
  · rw [chan a, h.chan a y ha]
    by_cases e : y = z
    · subst e
      simp [ha, hz]
    · have no : ¬ (t.zone z).members.getLsbD a = true := fun k => e (disjoint.unique ha k)
      rw [if_neg fun k => no k.1]
      simp [e]
  · rw [chan a, if_neg fun k => absurd k.1 (by rw [ha z]; decide), h.others a ha]
  · rw [alarm, Bool.or_eq_true, h.alarm, List.exists_mem_cons_iff, or_assoc, or_comm (a := ∃ _, _)]

/-- The part after the own moves of all zones. -/
theorem moved_all {t : State} (outs : Vector Outcomes 8) (disjoint : OneZoneEach t)
    (run : ∀ (z : ZoneId) (a : ActId), (t.zone z).members.getLsbD a = true → outs[a].holdZone = true →
      (t.zone z).state = .run) :
    Moved t outs [3, 2, 1, 0] ((List.finRange 4).foldl (fun u z => u.zoneMoves outs z) t) := by
  have first := (Moved.nil t outs).step disjoint run (z := 0) (by decide)
  have second := first.step disjoint run (z := 1) (by decide)
  have third := second.step disjoint run (z := 2) (by decide)
  have fourth := third.step disjoint run (z := 3) (by decide)
  have order : List.finRange 4 = [0, 1, 2, 3] := by decide
  rw [order]
  simp only [List.foldl_cons, List.foldl_nil]
  exact fourth

end Sys2Proof.Machine
end

section
/-! The part as the events of a strobe's work find it: after the updates, the clocks' work, the windows and the
zones' own moves. -/

namespace Sys2Proof.Machine
open Host Statements

/-- The part after the zones' own moves of a strobe; the free values of its events are then another
occasion's. -/
def State.strobeMoved (d : State) (started : ZoneId → Bool) : State :=
  ((List.finRange 4).foldl (fun u z => u.zoneMoves (d.outcomes started) z) (d.strobeUpdated started)).bumpFree

theorem mem_allZones (z : ZoneId) : z ∈ ([3, 2, 1, 0] : List ZoneId) := by
  revert z; decide

section
variable (d : State) (started : ZoneId → Bool) (z : ZoneId)

/-- Every cycling member of a zone in HOLD RAMPING OUT has ramped out, at a wrap (06 R112). -/
def RampedAt : Prop := (d.zone z).state = .hold ∧ (d.zone z).sub = .rampingOut ∧ WrapAt d z ∧
  ∀ a : ActId, (d.zone z).members.getLsbD a = true → ((d.updated started).chan a).isCycling = true →
    1 ≤ ((d.updated started).chan a).j ∧ (d.zone z).nout ≤ ((d.updated started).chan a).j

/-- Every member of a zone in UNLOAD is in FAULT or at its safe load (06 R115). -/
def UnloadedAt : Prop := (d.zone z).state = .unload ∧
  ∀ a : ActId, (d.zone z).members.getLsbD a = true →
    ((d.updated started).chan a).state = .fault ∨ (d.updateOf started a).2.atSafe = true

/-- A member of a zone in RUN has completed a segment with end action HOLD ZONE (03 R47, 06 R111). -/
def EndedAt : Prop := (d.zone z).state = .run ∧
  ∃ a : ActId, (d.zone z).members.getLsbD a = true ∧ (d.updateOf started a).2.holdZone = true

end

section
variable {d : State} (started : ZoneId → Bool) (z : ZoneId)

theorem strobeUpdated_hall : (d.strobeUpdated started).strobeHall = d.strobeHall := rfl

theorem strobeUpdated_members : ((d.strobeUpdated started).zone z).members = (d.zone z).members := by
  rw [strobeUpdated_zone]; exact (workOf_same d started z).members

theorem strobeUpdated_wrapsAt : (d.strobeUpdated started).wrapsAt z = true ↔ WrapAt d z := by
  have work := workOf_same d started z
  rw [← wrapsAt_iff]
  unfold State.wrapsAt Zone.strobeIndex
  rw [strobeUpdated_zone, strobeUpdated_hall, work.clockRunning, work.origin, work.inc]

theorem ramped_iff : (d.strobeUpdated started).ramped z = true ↔ RampedAt d started z := by
  have work := workOf_same d started z
  have out : ∀ c : Channel, (!c.isCycling || rampedOut c.j (d.zone z).nout) = true ↔
      (c.isCycling = true → 1 ≤ c.j ∧ (d.zone z).nout ≤ c.j) := by
    intro c
    rw [Bool.or_eq_true, Bool.not_eq_true', rampedOut, Bool.and_eq_true, decide_eq_true_eq, decide_eq_true_eq,
      ← Bool.not_eq_true, imp_iff_not_or]
  unfold State.ramped RampedAt
  simp only [Bool.and_eq_true, decide_eq_true_eq, strobeUpdated_wrapsAt, Zone.all_member]
  rw [strobeUpdated_zone, work.state, work.sub, work.members, work.nout, and_assoc, and_assoc]
  simp only [strobeUpdated_chan, out, updated_chan]

theorem atSafe_iff : (d.strobeUpdated started).atSafe (d.outcomes started) z = true ↔
    UnloadedAt d started z := by
  have work := workOf_same d started z
  unfold State.atSafe UnloadedAt
  simp only [Bool.and_eq_true, decide_eq_true_eq, Zone.all_member, Bool.or_eq_true, outcomes_get,
    strobeUpdated_chan, updated_chan]
  rw [strobeUpdated_zone, work.state, work.members]

theorem ends_iff : (d.strobeUpdated started).ends (d.outcomes started) z = true ↔ EndedAt d started z := by
  have work := workOf_same d started z
  unfold State.ends EndedAt
  simp only [Bool.and_eq_true, decide_eq_true_eq, Zone.any_member, outcomes_get]
  rw [strobeUpdated_zone, work.state, work.members]

/-- The zones' own moves set ALARM-pending (01 R15). -/
theorem moves_iff : (d.strobeUpdated started).moves (d.outcomes started) z = true ↔
    RampedAt d started z ∨ UnloadedAt d started z ∨ EndedAt d started z := by
  rw [State.moves, Bool.or_eq_true, Bool.or_eq_true, ramped_iff, atSafe_iff, ends_iff, or_assoc]

theorem ramps_strobeUpdated : ramps (d.strobeUpdated started) z = ramps (d.updated started) z :=
  ramps_congr (s := d.updated started) (strobeUpdated_members started z) fun a _ => by
    rw [strobeUpdated_chan, updated_chan]

end

section
variable {d : State} (disjoint : OneZoneEach d) (started : ZoneId → Bool)
include disjoint

/-- What a member's update reads of its zone. -/
theorem viewOf_member {a : ActId} {z : ZoneId} (h : (d.zone z).members.getLsbD a = true) :
    d.viewOf started a = some ⟨z, (d.zone z).state, started z, IndexAt d z, (d.zone z).inc, (d.zone z).nin,
      (d.zone z).nout, (d.zone z).unloadRate, (d.zone z).unloadFirst⟩ := by
  rw [State.viewOf, (zoneOf_eq_some_iff disjoint).mpr h, Option.map_some]
  dsimp only
  rw [strobeIndex_eq]

/-- An end action holds a zone in RUN (03 R47). -/
theorem holdZone_run {a : ActId} {z : ZoneId} (h : (d.zone z).members.getLsbD a = true)
    (hold : (d.updateOf started a).2.holdZone = true) : (d.zone z).state = .run := by
  obtain ⟨v, hv, run⟩ := update_holdZone hold
  rw [viewOf_member disjoint started h] at hv
  cases hv
  exact run

theorem strobeUpdated_oneZoneEach : OneZoneEach (d.strobeUpdated started) :=
  disjoint.of_members (strobeUpdated_members started)

theorem strobeMoved_moved : ∃ u, d.strobeMoved started = u.bumpFree ∧
    Moved (d.strobeUpdated started) (d.outcomes started) [3, 2, 1, 0] u := by
  refine ⟨_, rfl, moved_all _ (strobeUpdated_oneZoneEach disjoint started) fun z a ha hold => ?_⟩
  rw [outcomes_get] at hold
  rw [strobeUpdated_members] at ha
  rw [strobeUpdated_zone, (workOf_same d started z).state]
  exact holdZone_run disjoint started ha hold

theorem strobeMoved_only : d.strobeMoved started = { d with
    ac := (d.strobeMoved started).ac, cm := { d.cm with aes := (d.strobeMoved started).cm.aes }
    zs := { d.zs with zones := (d.strobeMoved started).zs.zones }
    lp := { d.lp with alarmPending := (d.strobeMoved started).lp.alarmPending }, free := d.free + 1 } := by
  obtain ⟨u, e, h⟩ := strobeMoved_moved disjoint started
  rw [e, h.only]
  rfl

theorem strobeMoved_alarmPending : (d.strobeMoved started).lp.alarmPending = true ↔
    d.lp.alarmPending = true ∨ ∃ z, RampedAt d started z ∨ UnloadedAt d started z ∨ EndedAt d started z := by
  obtain ⟨u, e, h⟩ := strobeMoved_moved disjoint started
  rw [e, State.bumpFree_lp, h.alarm]
  refine or_congr_right (exists_congr fun z => ?_)
  rw [moves_iff]
  exact and_iff_right (mem_allZones z)

theorem strobeMoved_zone (z : ZoneId) : (d.strobeMoved started).zone z =
    (d.strobeUpdated started).moveOf (d.outcomes started) z := by
  obtain ⟨u, e, h⟩ := strobeMoved_moved disjoint started
  rw [e, State.zone_bumpFree, h.zone, if_pos (mem_allZones z)]

/-- The members of a zone that an end action holds begin to hold; the other channels stay as updated. -/
theorem strobeMoved_chan {a : ActId} {z : ZoneId} (h : (d.zone z).members.getLsbD a = true) :
    (EndedAt d started z → (d.strobeMoved started).chan a = heldMember (d.updateOf started a).1) ∧
    (¬ EndedAt d started z → (d.strobeMoved started).chan a = (d.updateOf started a).1) := by
  obtain ⟨u, e, moved⟩ := strobeMoved_moved disjoint started
  have chan := moved.chan a z (by rw [strobeUpdated_members]; exact h)
  rw [strobeUpdated_chan] at chan
  rw [e, State.chan_bumpFree, chan]
  exact ⟨fun ended => if_pos ⟨mem_allZones z, (ends_iff started z).mpr ended⟩,
    fun ended => if_neg fun k => ended ((ends_iff started z).mp k.2)⟩

theorem strobeMoved_chan_others {a : ActId} (h : ∀ z, (d.zone z).members.getLsbD a = false) :
    (d.strobeMoved started).chan a = (d.updateOf started a).1 := by
  obtain ⟨u, e, moved⟩ := strobeMoved_moved disjoint started
  rw [e, State.chan_bumpFree, moved.others a fun z => by rw [strobeUpdated_members]; exact h z,
    strobeUpdated_chan]

/-- Each zone after its own move, by the move it makes. -/
theorem strobeMoved_zone_cases (z : ZoneId) :
    (RampedAt d started z → (d.strobeMoved started).zone z =
      { (d.workOf started z).zone with sub := .held, clockRunning := false }) ∧
    (UnloadedAt d started z → (d.strobeMoved started).zone z =
      { (d.workOf started z).zone with state := .safe, unloadFirst := false }) ∧
    (EndedAt d started z → (d.strobeMoved started).zone z =
      heldZone (d.workOf started z).zone (ramps (d.updated started) z) ⟨false, true, false, false⟩) ∧
    ((d.workOf started z).zone.state = .unload → ¬ UnloadedAt d started z →
      (d.strobeMoved started).zone z = { (d.workOf started z).zone with unloadFirst := false }) ∧
    ((d.workOf started z).zone.state ≠ .unload → ¬ RampedAt d started z → ¬ EndedAt d started z →
      (d.strobeMoved started).zone z = (d.workOf started z).zone) := by
  have state := (workOf_same d started z).state
  have ramped := ramped_iff (d := d) started z
  have safe := atSafe_iff (d := d) started z
  have ended := ends_iff (d := d) started z
  have only : ∀ {x y : ZoneState}, (d.zone z).state = x → x ≠ y → ¬ (d.zone z).state = y :=
    fun h ne k => ne (h.symm.trans k)
  rw [strobeMoved_zone disjoint, State.moveOf, ramps_strobeUpdated, strobeUpdated_zone]
  refine ⟨fun h => if_pos (ramped.mpr h), fun h => ?_, fun h => ?_, fun h stays => ?_, fun h low goes => ?_⟩
  · rw [if_neg fun k => only h.1 (by decide) (ramped.mp k).1, if_pos (safe.mpr h)]
  · rw [if_neg fun k => only h.1 (by decide) (ramped.mp k).1,
      if_neg fun k => only h.1 (by decide) (safe.mp k).1, if_pos (ended.mpr h)]
  · have unload := state.symm.trans h
    rw [if_neg fun k => only unload (by decide) (ramped.mp k).1, if_neg (mt safe.mp stays),
      if_neg fun k => only unload (by decide) (ended.mp k).1, if_pos h]
  · rw [if_neg (mt ramped.mp low), if_neg fun k => h (state.trans (safe.mp k).1), if_neg (mt ended.mp goes),
      if_neg h]

end

theorem strobeMoved_inner (d : State) (started : ZoneId → Bool) :
    Inner (d.strobeUpdated started) (d.strobeMoved started) :=
  (foldl_inner _ (fun u z => zoneMoves_inner u _ z) _ _).trans (bumpFree_inner _)

end Sys2Proof.Machine
end

section
/-! The events of a strobe's work: which there are, what each finds, and the order in which they are taken
(log 8 to 11). -/

namespace Sys2Proof.Machine
open Host Statements

/-! ### Handing over -/

theorem stamp_eq (q : Seen) (s : State) (src : AlarmSource) (z : ZoneId) (v : Severity) :
    q.stamp s src z v = stamped s q src z v := by
  have cycling : ((s.zone z).memberList.any fun a => q.chans[a].wasCycling) =
      (List.finRange 8).any fun a => (s.zone z).members.getLsbD a && q.chans[a].wasCycling := by
    rw [Bool.eq_iff_iff, Zone.any_member, List.any_eq_true]
    simp only [List.mem_finRange, true_and, Bool.and_eq_true]
  rw [Seen.stamp, cycling]
  rfl

/-- A reason joins a set that does not hold it; one that is in it stays once (06 R111). -/
theorem addReason_sync (s : State) (z : ZoneId) : s.addReason z .sync =
    if (s.zone z).reasons.sync then s
    else alarmed (s.setZone z { s.zone z with reasons := { (s.zone z).reasons with sync := true } }) := by
  have kept : (s.zone z).reasons.add .sync = (s.zone z).reasons ↔ (s.zone z).reasons.sync = true := by
    refine ⟨fun h => ?_, fun h => ?_⟩
    · rw [← h]; rfl
    · rw [HoldReasons.add, ← h]
  unfold State.addReason
  dsimp only
  by_cases h : (s.zone z).reasons.sync = true
  · rw [if_pos (kept.mpr h), if_pos h]
  · rw [if_neg (mt kept.mp h), if_neg h]
    rfl

/-- What the statements say an event hands over is what the model takes (06 R116; 07 R129; 11 R191). -/
theorem handed_eq (s : State) (q : Seen) (e : StrobeTask) : handed s q e = s.strobeEvent q e := by
  cases e with
  | raise src z v => simp only [handed, State.strobeEvent, stamp_eq]
  | scans l => rfl
  | frame b => rfl
  | loss z =>
    have told : ∀ r : Raise, r.zone = z → r.severity = .info → (s.raise r).zone z = s.zone z :=
      fun r _ info => raise_zone_ne s r z (.inr info)
    simp only [handed, State.strobeEvent, State.syncLoss, stamp_eq]
    have same := told (stamped s q (.sync z) z .info) rfl rfl
    rw [show (stamped s q (.sync z) z .info).zone = z from rfl]
    cases state : (s.zone z).state with
    | run => rw [holdZone_of_run .sync (by rw [same, state])]; rfl
    | hold =>
      rw [holdZone_of_hold .sync (by rw [same, state]), addReason_sync, same]
      rfl
    | idle | ready | unload | safe => rfl

/-! ### The order of the events -/

/-- The events of a strobe's work with what each finds. -/
def State.taken (s : State) (seed i : Nat) (q : Seen) : List StrobeEvent → List (StrobeTask × Seen)
  | [] => []
  | e :: es =>
    (e.task, q.advance s seed i e) ::
      (s.strobeEvent (q.advance s seed i e) e.task).taken seed (i + 1) (q.advance s seed i e) es

theorem strobeEvents_eq_foldl (seed : Nat) (l : List StrobeEvent) : ∀ (s : State) (i : Nat) (q : Seen),
    s.strobeEvents seed i q l = (s.taken seed i q l).foldl (fun v e => v.strobeEvent e.2 e.1) s := by
  induction l with
  | nil => intro s i q; rfl
  | cons e l ih => intro s i q; exact ih _ _ _

theorem taken_map_fst (seed : Nat) (l : List StrobeEvent) : ∀ (s : State) (i : Nat) (q : Seen),
    (s.taken seed i q l).map Prod.fst = l.map StrobeEvent.task := by
  induction l with
  | nil => intro s i q; rfl
  | cons e l ih => intro s i q; exact congrArg (e.task :: ·) (ih _ _ _)

/-- What is found after `q`: as `q` found it, or as the strobe's updates (`C`) and wrap work (`N`) leave it. -/
structure FoundAfter (C : ActId → Channel → Prop) (N : ZoneId → Nat → Prop) (q r : Seen) : Prop where
  chans : ∀ a : ActId, r.chans[a] = q.chans[a] ∨ C a r.chans[a]
  counts : ∀ z : ZoneId, r.counts[z] = q.counts[z] ∨ N z r.counts[z]

theorem FoundAfter.trans {C : ActId → Channel → Prop} {N : ZoneId → Nat → Prop} {p q r : Seen}
    (h : FoundAfter C N p q) (k : FoundAfter C N q r) : FoundAfter C N p r := by
  refine ⟨fun a => ?_, fun z => ?_⟩
  · rcases k.chans a with e | e
    · rw [e]; exact h.chans a
    · exact .inr e
  · rcases k.counts z with e | e
    · rw [e]; exact h.counts z
    · exact .inr e

theorem advance_count_wrapped (q : Seen) (s : State) (seed i : Nat) (e : StrobeEvent) (z : ZoneId)
    (h : z ∈ e.wrapped) : (q.advance s seed i e).counts[z] = (s.zone z).cycleCount := by
  simp [Seen.advance, h]

section
variable {C : ActId → Channel → Prop} {N : ZoneId → Nat → Prop} {I : State → Prop}
  (chans : ∀ s, I s → ∀ a, C a (s.chan a)) (counts : ∀ s, I s → ∀ z, N z (s.zone z).cycleCount)
  (keep : ∀ s q e, I s → I (s.strobeEvent q e)) (seed : Nat)
include chans counts

theorem advance_foundAfter {s : State} (h : I s) (q : Seen) (i : Nat) (e : StrobeEvent) :
    FoundAfter C N q (q.advance s seed i e) := by
  refine ⟨fun a => ?_, fun z => ?_⟩
  · rcases advance_chan q s seed i e a with k | k
    · rw [k]; exact .inr (chans s h a)
    · exact .inl k
  · rcases advance_count q s seed i e z with k | k
    · rw [k]; exact .inr (counts s h z)
    · exact .inl k

include keep

/-- What an event finds, and that it finds the updates and the wrap work it cannot come before. -/
theorem taken_foundAfter (l : List StrobeEvent) : ∀ (s : State) (i : Nat) (q : Seen), I s →
    ∀ e ∈ s.taken seed i q l, FoundAfter C N q e.2 ∧ ∃ ev ∈ l, ev.task = e.1 ∧
      (∀ a ∈ ev.updated, C a e.2.chans[a]) ∧ ∀ z ∈ ev.wrapped, N z e.2.counts[z] := by
  induction l with
  | nil => intro s i q _ e he; simp [State.taken] at he
  | cons f l ih =>
    intro s i q h e he
    have first := advance_foundAfter chans counts seed h q i f
    rcases List.mem_cons.mp he with rfl | he
    · refine ⟨first, f, List.mem_cons_self, rfl, fun a ha => ?_, fun z hz => ?_⟩
      · rw [advance_chan_updated q s seed i f a ha]; exact chans s h a
      · rw [advance_count_wrapped q s seed i f z hz]; exact counts s h z
    · obtain ⟨after, ev, hev, needs⟩ := ih _ _ _ (keep _ _ _ h) e he
      exact ⟨first.trans after, ev, List.mem_cons_of_mem _ hev, needs⟩

/-- What one event finds, each later one finds, or what came after it. -/
theorem taken_pairwise (l : List StrobeEvent) : ∀ (s : State) (i : Nat) (q : Seen), I s →
    (s.taken seed i q l).Pairwise fun e f => FoundAfter C N e.2 f.2 := by
  induction l with
  | nil => intro s i q _; exact .nil
  | cons f l ih =>
    intro s i q h
    exact .cons (fun e he => (taken_foundAfter chans counts keep seed l _ _ _ (keep _ _ _ h) e he).1)
      (ih _ _ _ (keep _ _ _ h))

end

/-! ### Which events there are -/

theorem mem_faultEvents {t : State} {outs : Vector Outcomes 8} {e : StrobeEvent} :
    e ∈ t.faultEvents outs ↔ ∃ a z, outs[a].fault = true ∧ t.zoneOf a = some z ∧
      e = ⟨.raise (.actuator a) z .major, [a], []⟩ := by
  simp only [State.faultEvents, tabFilter, List.mem_filterMap, List.mem_filter, List.mem_finRange, true_and,
    Option.map_eq_some_iff]
  constructor
  · rintro ⟨a, fault, z, zone, rfl⟩; exact ⟨a, z, fault, zone, rfl⟩
  · rintro ⟨a, z, fault, zone, rfl⟩; exact ⟨a, fault, z, zone, rfl⟩

theorem mem_totalEvents {t : State} {works : Vector ZoneWork 4} {e : StrobeEvent} :
    e ∈ t.totalEvents works ↔ ∃ z : ZoneId, works[z].total = true ∧
      e = ⟨.raise (.total z) z .major, t.readAfter Config.guardAfterUpdate z, []⟩ := by
  simp only [State.totalEvents, tabFilter, List.mem_map, List.mem_filter, List.mem_finRange, true_and, eq_comm]

theorem mem_windowEvents {t : State} {windows : Vector (AeRecord × Bool) 8} {e : StrobeEvent} :
    e ∈ t.windowEvents windows ↔ ∃ n : AeId, windows[n].2 = true ∧
      e = ⟨.raise (.ae n) t.cm.aes[n].zone t.cm.aes[n].severity, [], []⟩ := by
  simp only [State.windowEvents, tabFilter, List.mem_map, List.mem_filter, List.mem_finRange, true_and, eq_comm]

theorem mem_lossEvents {t : State} {started : ZoneId → Bool} {lost : Bool} {e : StrobeEvent} :
    e ∈ t.lossEvents started lost ↔ lost = true ∧ ∃ z,
      (started z = false ∨ Config.lossAfterStart t.free z = true) ∧ e = ⟨.loss z, [], []⟩ := by
  cases lost with
  | false => simp [State.lossEvents]
  | true =>
    simp only [State.lossEvents, if_true, List.mem_map, List.mem_filter, List.mem_finRange, true_and,
      Bool.or_eq_true, Bool.not_eq_true']
    exact exists_congr fun z => and_congr_right fun _ => eq_comm

theorem mem_scanEvents {t : State} {works : Vector ZoneWork 4} {e : StrobeEvent} :
    e ∈ t.scanEvents works ↔ (∃ z : ZoneId, works[z].capture.isSome = true) ∧
      e = ⟨.scans (works.toList.filterMap ZoneWork.capture),
        ((tabFilter (fun _ (w : ZoneWork) => w.capture.isSome) works).map
          (t.readAfter Config.crossingAfterUpdate)).flatten,
        tabFilter (fun _ (w : ZoneWork) => w.capture.isSome) works⟩ := by
  have empty : (tabFilter (fun _ (w : ZoneWork) => w.capture.isSome) works).isEmpty = true ↔
      ¬ ∃ z : ZoneId, works[z].capture.isSome = true := by
    rw [List.isEmpty_iff, tabFilter, List.filter_eq_nil_iff]
    simp only [List.mem_finRange, true_imp_iff, not_exists]
  unfold State.scanEvents
  dsimp only
  by_cases h : ∃ z : ZoneId, works[z].capture.isSome = true
  · rw [if_neg (fun k => (empty.mp k) h), List.mem_singleton, and_iff_right h]
  · rw [if_pos (empty.mpr h)]
    exact ⟨fun k => absurd k List.not_mem_nil, fun k => absurd k.1 h⟩

theorem mem_frameEvents {t : State} {timeSet : Bool} {e : StrobeEvent} :
    e ∈ t.frameEvents timeSet ↔ (∃ b : BlockId, t.cu.blocks[b].isActive) ∧ e = ⟨.frame timeSet, [], []⟩ := by
  rw [← active_isSome_iff, State.frameEvents]
  cases t.cu.active.isSome <;> simp

/-! ### Each event once -/

/-- The kinds of events, in the order in which a strobe's work lists them. -/
def StrobeTask.rank : StrobeTask → Nat
  | .raise (.actuator _) _ _ => 0
  | .raise (.total _) _ _ => 1
  | .raise (.ae _) _ _ => 2
  | .raise (.loop _) _ _ | .raise (.limit _) _ _ | .raise (.sync _) _ _ => 3
  | .loss _ => 3
  | .scans _ => 4
  | .frame _ => 5

/-- Two lists of events without repetition, the kinds of the first before those of the second. -/
theorem nodup_append_of_rank {l m : List StrobeTask} (n : Nat) (hl : l.Nodup) (hm : m.Nodup)
    (low : ∀ x ∈ l, x.rank < n) (high : ∀ x ∈ m, x.rank = n) : (l ++ m).Nodup := by
  refine List.nodup_append.mpr ⟨hl, hm, fun a ha b hb e => ?_⟩
  have := low a ha
  rw [e, high b hb] at this
  omega

theorem nodup_of_tabFilter {α : Type} {n : Nat} (p : Fin n → α → Bool) (v : Vector α n) :
    (tabFilter p v).Nodup := (List.nodup_finRange n).filter _

theorem faultEvents_nodup (t : State) (outs : Vector Outcomes 8) :
    ((t.faultEvents outs).map StrobeEvent.task).Nodup := by
  rw [State.faultEvents, List.map_filterMap]
  refine List.Nodup.filterMap (fun a b x ha hb => ?_) (nodup_of_tabFilter _ _)
  simp only [Option.map_map, Option.mem_def, Option.map_eq_some_iff] at ha hb
  obtain ⟨y, -, rfl⟩ := ha
  obtain ⟨z, -, e⟩ := hb
  cases e
  rfl

theorem totalEvents_nodup (t : State) (works : Vector ZoneWork 4) :
    ((t.totalEvents works).map StrobeEvent.task).Nodup := by
  rw [State.totalEvents, List.map_map]
  refine (nodup_of_tabFilter _ _).map fun y z e => ?_
  cases e
  rfl

theorem windowEvents_nodup (t : State) (windows : Vector (AeRecord × Bool) 8) :
    ((t.windowEvents windows).map StrobeEvent.task).Nodup := by
  rw [State.windowEvents, List.map_map]
  refine (nodup_of_tabFilter _ _).map fun m n e => ?_
  have := congrArg (fun | .raise (.ae k) _ _ => some k | _ => none) e
  exact Option.some.inj this

theorem lossEvents_nodup (t : State) (started : ZoneId → Bool) (lost : Bool) :
    ((t.lossEvents started lost).map StrobeEvent.task).Nodup := by
  unfold State.lossEvents
  split
  · rw [List.map_map]
    refine ((List.nodup_finRange 4).filter _).map fun y z e => ?_
    cases e
    rfl
  · exact .nil

theorem scanEvents_nodup (t : State) (works : Vector ZoneWork 4) :
    ((t.scanEvents works).map StrobeEvent.task).Nodup := by
  unfold State.scanEvents
  dsimp only
  split
  · exact .nil
  · exact List.nodup_singleton _

theorem frameEvents_nodup (t : State) (timeSet : Bool) :
    ((t.frameEvents timeSet).map StrobeEvent.task).Nodup := by
  unfold State.frameEvents
  split
  · exact List.nodup_singleton _
  · exact .nil

/-- The clocks' work of a strobe, as a table. -/
def State.works (d : State) (started : ZoneId → Bool) : Vector ZoneWork 4 :=
  tabMap (fun z _ => (d.updated started).clockWork d.ac z) d.zs.zones

/-- The windows' work of a strobe, as a table. -/
def State.windows (d : State) (started : ZoneId → Bool) : Vector (AeRecord × Bool) 8 :=
  tabMap (fun _ (e : AeRecord) => if (d.updated started).windowDue e then e.windowWork else (e, false))
    d.cm.aes

/-- What the part `t` hands over at a strobe of which the updates, the clocks' work and the windows are given. -/
def State.handsOver (t : State) (outs : Vector Outcomes 8) (works : Vector ZoneWork 4)
    (windows : Vector (AeRecord × Bool) 8) (started : ZoneId → Bool) (lost timeSet : Bool) : List StrobeEvent :=
  t.faultEvents outs ++ t.totalEvents works ++ t.windowEvents windows ++ t.lossEvents started lost ++
    t.scanEvents works ++ t.frameEvents timeSet

/-- The events of a strobe's work, before they are put in order. -/
def State.eventList (d : State) (started : ZoneId → Bool) (lost timeSet : Bool) : List StrobeEvent :=
  (d.strobeUpdated started).handsOver (d.outcomes started) (d.works started) (d.windows started) started lost
    timeSet

/-- The channels and the counts before the strobe's updates and wrap work. -/
def State.seenBefore (d : State) : Seen := ⟨d.ac, tabMap (fun _ (x : Zone) => x.cycleCount) d.zs.zones⟩

/-- The events of a strobe's work in their order, with what each finds. -/
def State.order (d : State) (started : ZoneId → Bool) (lost timeSet : Bool) : List (StrobeTask × Seen) :=
  (d.strobeMoved started).taken d.free 0 d.seenBefore
    (arrange d.free (d.eventList started lost timeSet).length (d.eventList started lost timeSet))

section
variable (d : State) (started : ZoneId → Bool) (lost timeSet : Bool)

theorem eventList_nodup : ((d.eventList started lost timeSet).map StrobeEvent.task).Nodup := by
  have faults : ∀ t outs, ∀ x ∈ (State.faultEvents t outs).map StrobeEvent.task, x.rank = 0 := by
    intro t outs x hx
    obtain ⟨e, he, rfl⟩ := List.mem_map.mp hx
    obtain ⟨a, z, -, -, rfl⟩ := mem_faultEvents.mp he
    rfl
  have totals : ∀ t works, ∀ x ∈ (State.totalEvents t works).map StrobeEvent.task, x.rank = 1 := by
    intro t works x hx
    obtain ⟨e, he, rfl⟩ := List.mem_map.mp hx
    obtain ⟨z, -, rfl⟩ := mem_totalEvents.mp he
    rfl
  have windows : ∀ t w, ∀ x ∈ (State.windowEvents t w).map StrobeEvent.task, x.rank = 2 := by
    intro t w x hx
    obtain ⟨e, he, rfl⟩ := List.mem_map.mp hx
    obtain ⟨n, -, rfl⟩ := mem_windowEvents.mp he
    rfl
  have losses : ∀ t, ∀ x ∈ (State.lossEvents t started lost).map StrobeEvent.task, x.rank = 3 := by
    intro t x hx
    obtain ⟨e, he, rfl⟩ := List.mem_map.mp hx
    obtain ⟨-, z, -, rfl⟩ := mem_lossEvents.mp he
    rfl
  have scans : ∀ t works, ∀ x ∈ (State.scanEvents t works).map StrobeEvent.task, x.rank = 4 := by
    intro t works x hx
    obtain ⟨e, he, rfl⟩ := List.mem_map.mp hx
    obtain ⟨-, rfl⟩ := mem_scanEvents.mp he
    rfl
  have frames : ∀ t, ∀ x ∈ (State.frameEvents t timeSet).map StrobeEvent.task, x.rank = 5 := by
    intro t x hx
    obtain ⟨e, he, rfl⟩ := List.mem_map.mp hx
    obtain ⟨-, rfl⟩ := mem_frameEvents.mp he
    rfl
  have below : ∀ {l m : List StrobeTask} {n : Nat}, (∀ x ∈ l, x.rank < n) → (∀ x ∈ m, x.rank = n) →
      ∀ x ∈ l ++ m, x.rank < n + 1 := by
    intro l m n hl hm x hx
    rcases List.mem_append.mp hx with h | h
    · exact (hl x h).trans (Nat.lt_succ_self n)
    · exact (hm x h) ▸ Nat.lt_succ_self n
  unfold State.eventList State.handsOver
  simp only [List.map_append]
  have b0 : ∀ x ∈ ((d.strobeUpdated started).faultEvents (d.outcomes started)).map StrobeEvent.task,
      x.rank < 1 := fun x hx => (faults _ _ x hx) ▸ Nat.zero_lt_one
  have b1 := below b0 (totals (d.strobeUpdated started) (d.works started))
  have b2 := below b1 (windows (d.strobeUpdated started) (d.windows started))
  have b3 := below b2 (losses (d.strobeUpdated started))
  have b4 := below b3 (scans (d.strobeUpdated started) (d.works started))
  exact nodup_append_of_rank 5 (nodup_append_of_rank 4 (nodup_append_of_rank 3 (nodup_append_of_rank 2
    (nodup_append_of_rank 1 (faultEvents_nodup _ _) (totalEvents_nodup _ _) b0 (totals _ _))
    (windowEvents_nodup _ _) b1 (windows _ _)) (lossEvents_nodup _ _ _) b2 (losses _))
    (scanEvents_nodup _ _) b3 (scans _ _)) (frameEvents_nodup _ _) b4 (frames _)

theorem order_tasks_perm : ((d.order started lost timeSet).map Prod.fst).Perm
    ((d.eventList started lost timeSet).map StrobeEvent.task) := by
  rw [State.order, taken_map_fst]
  exact (arrange_perm _ _ _).map _

theorem order_nodup : ((d.order started lost timeSet).map Prod.fst).Nodup :=
  (order_tasks_perm d started lost timeSet).nodup_iff.mpr (eventList_nodup d started lost timeSet)

/-- The tasks of the order are those of the events. -/
theorem mem_tasks {x : StrobeTask} : x ∈ (d.order started lost timeSet).map Prod.fst ↔
    ∃ e ∈ d.eventList started lost timeSet, e.task = x := by
  rw [(order_tasks_perm d started lost timeSet).mem_iff, List.mem_map]

end

/-- A strobe's work: its events in their order, after the zones' own moves. -/
theorem strobeWork_eq {d : State} (disjoint : OneZoneEach d) (started : ZoneId → Bool) (lost timeSet : Bool) :
    d.strobeWork started lost timeSet = (d.order started lost timeSet).foldl
      (fun v e => v.strobeEvent e.2 e.1) (d.strobeMoved started) := by
  have updated : { d.updated started with
      zs := { (d.updated started).zs with zones := tabMap (fun _ (w : ZoneWork) => w.zone) (d.works started) }
      cm := { (d.updated started).cm with
        aes := tabMap (fun _ (w : AeRecord × Bool) => w.1) (d.windows started) } } =
      d.strobeUpdated started := by
    have aes : tabMap (fun _ (w : AeRecord × Bool) => w.1) (d.windows started) = tabMap (fun _ (e : AeRecord) =>
        if (d.updated started).windowDue e then e.windowWork.1 else e) d.cm.aes := by
      rw [State.windows, tabMap_tabMap]
      congr 1
      funext i e
      split <;> rfl
    rw [aes, State.works, tabMap_tabMap]
    rfl
  obtain ⟨u, e, moved⟩ := strobeMoved_moved disjoint started
  have free : u.free = d.free := by rw [moved.only]; rfl
  have fold : (List.finRange 4).foldl (fun u z => u.zoneMoves (d.outcomes started) z)
      (d.strobeUpdated started) = u := by
    have : ∀ v w : State, v.bumpFree = w.bumpFree → v = w := by
      intro v w h
      cases v; cases w
      simpa [State.bumpFree] using h
    exact this _ _ e
  have work : ∀ t, t = d.strobeUpdated started → d.strobeWork started lost timeSet =
      ((List.finRange 4).foldl (fun u z => u.zoneMoves (d.outcomes started) z) t).bumpFree.strobeEvents
        ((List.finRange 4).foldl (fun u z => u.zoneMoves (d.outcomes started) z) t).free 0 d.seenBefore
        (((List.finRange 4).foldl (fun u z => u.zoneMoves (d.outcomes started) z) t).inOrder
          (t.handsOver (d.outcomes started) (d.works started) (d.windows started) started lost timeSet)) := by
    rintro t rfl
    rw [← updated]
    rfl
  rw [work _ rfl, fold, strobeEvents_eq_foldl, State.order, State.inOrder, free, e]
  rfl

end Sys2Proof.Machine
end

section
/-! What one event of a strobe's work does to the alarm list, to a zone, and to the scan in flight
(06 R111, R114, R116, R118 to R120; 07 R129, R131). -/

namespace Sys2Proof.Machine
open Host Statements

/-! ### The alarm list -/

/-- The alarm list and the overflow flag stand. -/
def SameList (s t : State) : Prop := t.zs.alarms = s.zs.alarms ∧ t.zs.overflow = s.zs.overflow

theorem SameList.refl (s : State) : SameList s s := ⟨rfl, rfl⟩

theorem SameList.trans {s t u : State} (h : SameList s t) (k : SameList t u) : SameList s u :=
  ⟨k.1.trans h.1, k.2.trans h.2⟩

theorem holdZone_sameList (s : State) (z : ZoneId) (r : HoldReason) : SameList s (s.holdZone z r) := by
  unfold State.holdZone State.addReason
  dsimp only
  split
  · exact ⟨rfl, rfl⟩
  · split <;> exact ⟨rfl, rfl⟩
  all_goals exact .refl s

theorem unloadZone_sameList (s : State) (z : ZoneId) (b : Bool) : SameList s (s.unloadZone z b) := by
  have safe : ∀ t : State, SameList t (t.safeIfAllFaulted z) := by
    intro t
    unfold State.safeIfAllFaulted
    split <;> exact ⟨rfl, rfl⟩
  unfold State.unloadZone
  split
  · exact SameList.trans (t := (s.setZone z ((s.zone z).enterUnload b)).alarm) ⟨rfl, rfl⟩ (safe _)
  · exact SameList.trans (t := (s.setZone z ((s.zone z).enterUnload b)).alarm) ⟨rfl, rfl⟩ (safe _)
  · exact SameList.trans (t := (s.setZone z ((s.zone z).enterUnload b)).alarm) ⟨rfl, rfl⟩ (safe _)
  all_goals exact .refl s

theorem enlist_zs (s : State) (r : Raise) : (s.enlist r).zs = (s.zs.take r s.hall).1 := by
  unfold State.enlist
  dsimp only
  split <;> rfl

/-- A raise does to the list what `take` says (06 R118, R119). -/
theorem raise_list (s : State) (r : Raise) : (s.raise r).zs.alarms = (s.zs.take r s.hall).1.alarms ∧
    (s.raise r).zs.overflow = (s.zs.take r s.hall).1.overflow := by
  have acted : SameList (s.enlist r) ((s.enlist r).severityAction r.zone r.severity) := by
    cases r.severity with
    | info => exact .refl _
    | minor => exact holdZone_sameList _ _ _
    | major => exact unloadZone_sameList _ _ _
  rw [State.raise, alarmTrigger_zs, acted.1, acted.2, enlist_zs]
  exact ⟨rfl, rfl⟩

/-- A source without a standing entry takes a new one while there is room (06 R118). -/
theorem raise_newEntry {s : State} {r : Raise} (fresh : ∀ e ∈ s.zs.alarms, e.source ≠ r.source)
    (room : s.zs.alarms.length < 16) : (s.raise r).zs.alarms = s.zs.alarms ++ [r.entry s.hall] ∧
      (s.raise r).zs.overflow = s.zs.overflow := by
  have taken : s.zs.take r s.hall = ({ s.zs with alarms := s.zs.alarms ++ [r.entry s.hall] }, .newEntry) := by
    unfold ZoneSupervisor.take
    rw [if_neg (by simpa using fresh)]
    exact if_pos room
  obtain ⟨alarms, overflow⟩ := raise_list s r
  rw [alarms, overflow, taken]
  exact ⟨rfl, rfl⟩

/-! ### What a raise does to its zone -/

theorem raise_zone (s : State) (r : Raise) (z : ZoneId) :
    (s.raise r).zone z = ((s.enlist r).severityAction r.zone r.severity).zone z := by
  rw [State.raise, State.zone, alarmTrigger_zs]
  rfl

theorem holdZone_missed (s : State) (y : ZoneId) (r : HoldReason) (z : ZoneId) :
    ((s.holdZone y r).zone z).missed = (s.zone z).missed := by
  by_cases run : (s.zone y).state = .run
  · rw [holdZone_of_run r run, held_zone]
    split
    · rename_i e; rw [e]; rfl
    · rfl
  by_cases hold : (s.zone y).state = .hold
  · rw [holdZone_of_hold r hold, addReason_zone]
    split
    · rename_i e; rw [e]
    · rfl
  · rw [holdZone_of_other r run hold]

theorem unloadZone_missed (s : State) (y z : ZoneId) :
    ((s.unloadZone y true).zone z).missed = (s.zone z).missed := by
  by_cases e : z = y
  · subst e
    by_cases was : (s.zone z).state = .ready ∨ (s.zone z).state = .run ∨ (s.zone z).state = .hold
    · obtain ⟨state, -, zone⟩ := unloadZone_zone was
      rw [zone]; rfl
    · rw [unloadZone_of_other was]
  · rw [unloadZone_zone_ne s z y true e]

theorem raise_missed (s : State) (r : Raise) (z : ZoneId) :
    ((s.raise r).zone z).missed = (s.zone z).missed := by
  rw [raise_zone, ← enlist_zone s r z]
  cases r.severity with
  | info => rfl
  | minor => exact holdZone_missed _ _ _ _
  | major => exact unloadZone_missed _ _ _

/-- A cause of HOLD that reaches a zone in RUN or HOLD: the zone is in HOLD with the reason (06 R111). -/
theorem holdZone_holds {s : State} {z : ZoneId} (r : HoldReason)
    (h : (s.zone z).state = .run ∨ (s.zone z).state = .hold) : ∃ q : HoldReasons,
      ((s.holdZone z r).zone z).state = .hold ∧ ((s.holdZone z r).zone z).reasons = q.add r := by
  rcases h with run | hold
  · rw [holdZone_of_run r run, held_zone, if_pos rfl]
    exact ⟨_, rfl, rfl⟩
  · rw [holdZone_of_hold r hold, addReason_zone, if_pos rfl]
    exact ⟨_, hold, rfl⟩

/-- A MINOR raise for a zone in RUN or HOLD (06 R120). -/
theorem raise_minor {s : State} {r : Raise} (minor : r.severity = .minor)
    (h : (s.zone r.zone).state = .run ∨ (s.zone r.zone).state = .hold) :
    ((s.raise r).zone r.zone).state = .hold ∧ ((s.raise r).zone r.zone).reasons.alarm = true := by
  rw [raise_zone, minor]
  obtain ⟨q, hold, reasons⟩ := holdZone_holds (s := s.enlist r) .alarm (by rw [enlist_zone]; exact h)
  exact ⟨hold, (congrArg HoldReasons.alarm reasons).trans rfl⟩

/-- A MAJOR raise for a zone in READY, RUN or HOLD (06 R120). -/
theorem raise_major {s : State} {r : Raise} (major : r.severity = .major)
    (h : (s.zone r.zone).state = .ready ∨ (s.zone r.zone).state = .run ∨ (s.zone r.zone).state = .hold) :
    ((s.raise r).zone r.zone).state = .unload ∨ ((s.raise r).zone r.zone).state = .safe := by
  rw [raise_zone, major]
  obtain ⟨state, gone, zone⟩ := unloadZone_zone (s := s.enlist r) (z := r.zone) (by rw [enlist_zone]; exact h)
  rw [State.severityAction, zone]
  exact gone

/-- A zone in HOLD stays in HOLD under a raise that is not a MAJOR one of its own (06 R120). -/
theorem raise_hold {s : State} {r : Raise} {z : ZoneId} (h : (s.zone z).state = .hold)
    (low : z ≠ r.zone ∨ r.severity ≠ .major) : ((s.raise r).zone z).state = .hold := by
  by_cases other : z ≠ r.zone ∨ r.severity = .info
  · rw [raise_zone_ne s r z other]; exact h
  · obtain ⟨own, notInfo⟩ := not_or.mp other
    obtain rfl := not_not.mp own
    have minor : r.severity = .minor := by
      have notMajor := low.resolve_left own
      cases e : r.severity with
      | info => exact absurd e notInfo
      | minor => rfl
      | major => exact absurd e notMajor
    exact (raise_minor minor (.inr h)).1

/-! ### The sync loss (06 R116) -/

section
variable {s : State} {r : Raise}

theorem syncLoss_of_moving (h : (s.zone r.zone).state = .run ∨ (s.zone r.zone).state = .hold) :
    s.syncLoss r = (s.raise r).holdZone r.zone .sync := by
  unfold State.syncLoss
  rw [if_pos (by simpa using h)]

theorem syncLoss_of_other (h : ¬ ((s.zone r.zone).state = .run ∨ (s.zone r.zone).state = .hold)) :
    s.syncLoss r = s := by
  unfold State.syncLoss
  rw [if_neg (by simpa using h)]

theorem syncLoss_missed (z : ZoneId) : ((s.syncLoss r).zone z).missed = (s.zone z).missed := by
  by_cases h : (s.zone r.zone).state = .run ∨ (s.zone r.zone).state = .hold
  · rw [syncLoss_of_moving h, holdZone_missed, raise_missed]
  · rw [syncLoss_of_other h]

variable (info : r.severity = .info)
include info

theorem syncLoss_zone_ne {z : ZoneId} (h : z ≠ r.zone) : (s.syncLoss r).zone z = s.zone z := by
  by_cases moving : (s.zone r.zone).state = .run ∨ (s.zone r.zone).state = .hold
  · rw [syncLoss_of_moving moving, holdZone_zone_ne _ _ _ _ h, raise_zone_ne _ _ _ (.inr info)]
  · rw [syncLoss_of_other moving]

theorem syncLoss_holds (h : (s.zone r.zone).state = .run ∨ (s.zone r.zone).state = .hold) :
    ((s.syncLoss r).zone r.zone).state = .hold ∧ ((s.syncLoss r).zone r.zone).reasons.sync = true := by
  obtain ⟨q, hold, reasons⟩ := holdZone_holds (s := s.raise r) (z := r.zone) .sync
    (by rw [raise_zone_ne s r _ (.inr info)]; exact h)
  rw [syncLoss_of_moving h]
  exact ⟨hold, (congrArg HoldReasons.sync reasons).trans rfl⟩

end

/-! ### Captured crossings while a scan is in flight (07 R129, R131) -/

/-- The scan `q` is in flight and waits for a bank. -/
def State.Awaits (s : State) (q : Scan) : Prop := s.se.scan = some q ∧ ∃ b : BankId, q.awaiting[b] = true

theorem State.Awaits.of_se {s t : State} {q : Scan} (h : s.Awaits q) (e : t.se = s.se) : t.Awaits q := by
  unfold State.Awaits at *
  rw [e]
  exact h

/-- A phase-locked request that finds a scan in flight: it takes its zone's slot, and is a miss of the zone
when it replaces one. -/
structure Slotted (s : State) (p : PhaseRequest) (t : State) : Prop where
  se : t.se = { s.se with slots := s.se.slots.set p.zone (some p) }
  zone : ∀ z, t.zone z = if z = p.zone
    then { s.zone z with missed :=
      if s.se.slots[z].isSome then bump Config.max16 (s.zone z).missed else (s.zone z).missed }
    else s.zone z
  list : SameList s t

theorem phaseRequest_slotted {s : State} {q : Scan} (h : s.Awaits q) (p : PhaseRequest) :
    Slotted s p (s.phaseRequest p) := by
  obtain ⟨scan, b, waits⟩ := h
  have still : ∀ t : State, t.se.scan = s.se.scan → t.consult = t :=
    fun t e => consult_awaiting t q b (e.trans scan) waits
  unfold State.phaseRequest
  dsimp only
  by_cases taken : s.se.slots[p.zone].isSome = true
  · rw [if_pos taken, still]
    · refine ⟨rfl, fun z => ?_, ⟨rfl, rfl⟩⟩
      rw [State.zone_setZone]
      split
      · rename_i e
        subst e
        rw [if_pos taken]
        rfl
      · rfl
    · rfl
  · rw [if_neg taken, still]
    · refine ⟨rfl, fun z => ?_, ⟨rfl, rfl⟩⟩
      split
      · rename_i e
        subst e
        rw [if_neg taken]
        rfl
      · rfl
    · rfl

theorem Slotted.awaits {s t : State} {p : PhaseRequest} {q : Scan} (h : Slotted s p t) (k : s.Awaits q) :
    t.Awaits q := by
  unfold State.Awaits at *
  rw [h.se]
  exact k

/-! ### Each event -/

/-- The scan in flight goes on waiting. -/
theorem strobeEvent_awaits {s : State} {x : Scan} (h : s.Awaits x) (q : Seen) (e : StrobeTask) :
    (s.strobeEvent q e).Awaits x := by
  cases e with
  | raise src z v => exact h.of_se (raise_scan _ _).se
  | loss z =>
    refine h.of_se (t := s.syncLoss _) ?_
    unfold State.syncLoss
    split
    · rw [(holdZone_scan _ _ _).se, (raise_scan _ _).se]
    · rfl
  | scans l => exact foldl_keeps (fun t => t.Awaits x) _ (fun t p k => (phaseRequest_slotted k p).awaits k) l s h
  | frame b => exact h.of_se (takeFrame_same s q.chans b).2.2

/-- The Scan Engine and the misses stand at an event that is not the captured crossings. -/
theorem strobeEvent_slots {s : State} (q : Seen) {e : StrobeTask} (h : ∀ l, e ≠ .scans l) (z : ZoneId) :
    (s.strobeEvent q e).se = s.se ∧ ((s.strobeEvent q e).zone z).missed = (s.zone z).missed := by
  cases e with
  | raise src y v => exact ⟨(raise_scan _ _).se, raise_missed _ _ _⟩
  | loss y =>
    refine ⟨?_, syncLoss_missed z⟩
    show (s.syncLoss _).se = s.se
    unfold State.syncLoss
    split
    · rw [(holdZone_scan _ _ _).se, (raise_scan _ _).se]
    · rfl
  | scans l => exact absurd rfl (h l)
  | frame b =>
    obtain ⟨-, zs, se⟩ := takeFrame_same s q.chans b
    exact ⟨se, congrArg (fun w : ZoneSupervisor => w.zones[z].missed) zs⟩

/-- An event that acts on zone `z` at most by a missed capture. -/
def State.Spares (s : State) (z : ZoneId) : StrobeTask → Prop
  | .raise _ y v => y ≠ z ∨ v = .info
  | .loss y => y ≠ z ∨ ¬ ((s.zone y).state = .run ∨ (s.zone y).state = .hold)
  | .scans _ => ∃ x, s.Awaits x
  | .frame _ => True

/-- An event that adds nothing to the alarm list. -/
def State.Silent (s : State) : StrobeTask → Prop
  | .raise _ _ _ => False
  | .loss y => ¬ ((s.zone y).state = .run ∨ (s.zone y).state = .hold)
  | .scans _ => ∃ x, s.Awaits x
  | .frame _ => True

theorem State.Silent.spares {s : State} {e : StrobeTask} (h : s.Silent e) (z : ZoneId) : s.Spares z e := by
  cases e with
  | raise src y v => exact h.elim
  | loss y => exact .inr h
  | scans l => exact h
  | frame b => trivial

/-- `y` is `x` but for the captures it has missed. -/
def Zone.SameButMissed (x y : Zone) : Prop := y = { x with missed := y.missed }

theorem Zone.SameButMissed.refl (x : Zone) : x.SameButMissed x := rfl

theorem Zone.SameButMissed.of_eq {x y : Zone} (h : y = x) : x.SameButMissed y := by subst h; rfl

theorem Zone.SameButMissed.trans {x y z : Zone} (h : x.SameButMissed y) (k : y.SameButMissed z) :
    x.SameButMissed z := by
  unfold Zone.SameButMissed at *
  rw [k, h]

theorem Zone.SameButMissed.state {x y : Zone} (h : x.SameButMissed y) : y.state = x.state := by rw [h]

theorem scans_awaiting {s : State} {x : Scan} (h : s.Awaits x) (l : List PhaseRequest) :
    SameList s (l.foldl State.phaseRequest s) ∧
      ∀ z, (s.zone z).SameButMissed ((l.foldl State.phaseRequest s).zone z) := by
  have all := foldl_keeps (fun t => t.Awaits x ∧ SameList s t ∧ ∀ z, (s.zone z).SameButMissed (t.zone z))
    State.phaseRequest (fun t p ⟨waits, list, zones⟩ => by
      have slotted := phaseRequest_slotted waits p
      refine ⟨slotted.awaits waits, list.trans slotted.list, fun z => (zones z).trans ?_⟩
      rw [slotted.zone]
      split <;> rfl) l s ⟨h, .refl s, fun z => .refl _⟩
  exact all.2

theorem strobeEvent_spares {s : State} {z : ZoneId} {e : StrobeTask} (h : s.Spares z e) (q : Seen) :
    (s.zone z).SameButMissed ((s.strobeEvent q e).zone z) := by
  cases e with
  | raise src y v => exact .of_eq (raise_zone_ne s _ z (h.imp Ne.symm id))
  | loss y =>
    rcases h with other | still
    · exact .of_eq (syncLoss_zone_ne (r := q.stamp s (.sync y) y .info) rfl other.symm)
    · exact .of_eq (congrArg (·.zone z) (syncLoss_of_other (r := q.stamp s (.sync y) y .info) still))
  | scans l =>
    obtain ⟨x, waits⟩ := h
    exact (scans_awaiting waits l).2 z
  | frame b =>
    exact .of_eq (congrArg (fun w : ZoneSupervisor => w.zones[z]) (takeFrame_same s q.chans b).2.1)

theorem strobeEvent_silent {s : State} {e : StrobeTask} (h : s.Silent e) (q : Seen) :
    SameList s (s.strobeEvent q e) := by
  cases e with
  | raise src y v => exact h.elim
  | loss y =>
    rw [State.strobeEvent, syncLoss_of_other (r := q.stamp s (.sync y) y .info) h]
    exact .refl s
  | scans l =>
    obtain ⟨x, waits⟩ := h
    exact (scans_awaiting waits l).1
  | frame b =>
    have zs := (takeFrame_same s q.chans b).2.1
    exact ⟨congrArg ZoneSupervisor.alarms zs, congrArg ZoneSupervisor.overflow zs⟩

/-- An event that takes no zone out of HOLD, or not zone `z`. -/
def State.Holds (s : State) (z : ZoneId) : StrobeTask → Prop
  | .raise _ y v => y ≠ z ∨ v ≠ .major
  | .loss _ => True
  | .scans _ => ∃ x, s.Awaits x
  | .frame _ => True

theorem strobeEvent_holds {s : State} {z : ZoneId} {e : StrobeTask} (h : s.Holds z e)
    (hold : (s.zone z).state = .hold) (q : Seen) : ((s.strobeEvent q e).zone z).state = .hold := by
  have spared : s.Spares z e → ((s.strobeEvent q e).zone z).state = .hold := fun k => by
    rw [strobeEvent_spares k q]; exact hold
  cases e with
  | raise src y v => exact raise_hold hold (h.imp Ne.symm id)
  | loss y =>
    by_cases other : y = z
    · subst other
      exact (syncLoss_holds (r := q.stamp s (.sync y) y .info) rfl (.inr hold)).1
    · exact spared (.inl other)
  | scans l => exact spared h
  | frame b => exact spared trivial

end Sys2Proof.Machine
end

section
/-! Which events a strobe's work has, and what each of them finds (log 8 to 11). -/

namespace Sys2Proof.Machine
open Host Statements

/-! ### The raises and the other events -/

section
variable (d : State) (started : ZoneId → Bool)

/-- An AE channel takes window work at this strobe: it is enabled, and its zone wraps (10 R182). -/
def WindowAt (n : AeId) : Prop := d.cm.aes[n].enabled = true ∧ WrapAt d d.cm.aes[n].zone

/-- The raises of ACTUATOR, TOTAL and AE of a strobe's work (05 R86, 06 R105, 10 R183). -/
def Raised (r : AlarmSource × ZoneId × Severity) : Prop :=
  (∃ a z, d.zoneOf a = some z ∧ (d.updateOf started a).2.fault = true ∧ r = (.actuator a, z, .major)) ∨
  (∃ z, (d.workOf started z).total = true ∧ r = (.total z, z, .major)) ∨
  (∃ n : AeId, d.cm.aes[n].enabled = true ∧ WrapAt d d.cm.aes[n].zone ∧ d.cm.aes[n].windowWork.2 = true ∧
    r = (.ae n, d.cm.aes[n].zone, d.cm.aes[n].severity))

/-- The captured crossings of a strobe's work, in zone order (06 R104). -/
def State.captures : List PhaseRequest := (List.finRange 4).filterMap fun z => (d.workOf started z).capture

end

section
variable {d : State} {started : ZoneId → Bool} {lost timeSet : Bool}

theorem not_raised_sync {y z : ZoneId} {v : Severity} : ¬ Raised d started (.sync y, z, v) := by
  rintro (⟨a, z, -, -, e⟩ | ⟨z, -, e⟩ | ⟨n, -, -, -, e⟩) <;> cases e

theorem works_get (z : ZoneId) : (d.works started)[z] = d.workOf started z := tabMap_get _ _ z

theorem windowDue_iff (n : AeId) : (d.updated started).windowDue d.cm.aes[n] = true ↔ WindowAt d n := by
  rw [State.windowDue, Bool.and_eq_true]
  exact and_congr_right fun _ => wrapsAt_iff d _

theorem windows_get (n : AeId) : (d.windows started)[n].2 = true ↔
    WindowAt d n ∧ d.cm.aes[n].windowWork.2 = true := by
  have get : (d.windows started)[n] = if (d.updated started).windowDue d.cm.aes[n] then d.cm.aes[n].windowWork
      else (d.cm.aes[n], false) := tabMap_get _ _ n
  rw [get, ← windowDue_iff (started := started)]
  split
  · rename_i due; exact ⟨fun h => ⟨due, h⟩, fun h => h.2⟩
  · rename_i due; exact ⟨fun h => absurd h Bool.false_ne_true, fun h => absurd h.1 due⟩

/-- The windows' work by channel (10 R182, R183). -/
theorem strobeUpdated_aes (n : AeId) :
    (WindowAt d n → (d.strobeUpdated started).cm.aes[n] = d.cm.aes[n].windowWork.1) ∧
    (¬ WindowAt d n → (d.strobeUpdated started).cm.aes[n] = d.cm.aes[n]) := by
  have get : (d.strobeUpdated started).cm.aes[n] = if (d.updated started).windowDue d.cm.aes[n]
      then d.cm.aes[n].windowWork.1 else d.cm.aes[n] := tabMap_get _ _ n
  rw [get]
  exact ⟨fun h => if_pos ((windowDue_iff n).mpr h), fun h => if_neg (mt (windowDue_iff n).mp h)⟩

theorem windowWork_same (e : AeRecord) : e.windowWork.1.zone = e.zone ∧ e.windowWork.1.severity = e.severity := by
  unfold AeRecord.windowWork
  dsimp only
  split <;> exact ⟨rfl, rfl⟩

theorem strobeUpdated_ae_same (n : AeId) : (d.strobeUpdated started).cm.aes[n].zone = d.cm.aes[n].zone ∧
    (d.strobeUpdated started).cm.aes[n].severity = d.cm.aes[n].severity := by
  by_cases h : WindowAt d n
  · rw [(strobeUpdated_aes n).1 h]; exact windowWork_same _
  · rw [(strobeUpdated_aes n).2 h]; exact ⟨rfl, rfl⟩

theorem strobeUpdated_zoneOf (a : ActId) : (d.strobeUpdated started).zoneOf a = d.zoneOf a := by
  unfold State.zoneOf Zone.has
  simp only [strobeUpdated_members]

theorem captures_eq : (d.works started).toList.filterMap ZoneWork.capture = d.captures started := by
  have all := toList_map_eq_finRange (d.works started) id
  rw [List.map_id] at all
  rw [all, List.filterMap_map, State.captures]
  congr 1
  funext z
  rw [Function.comp_apply, id, works_get]

theorem mem_captures {p : PhaseRequest} : p ∈ d.captures started ↔ ∃ z, (d.workOf started z).capture = some p := by
  simp [State.captures]

/-- A captured crossing is of its own zone (06 R104). -/
theorem workOf_capture_zone {z : ZoneId} {p : PhaseRequest} (h : (d.workOf started z).capture = some p) :
    p.zone = z := clockWork_capture_zone _ _ z p h

theorem captures_ne_nil : d.captures started ≠ [] ↔ ∃ z, (d.workOf started z).capture ≠ none := by
  rw [ne_eq, List.eq_nil_iff_forall_not_mem, not_forall]
  simp only [mem_captures, Option.ne_none_iff_exists', not_not]
  exact exists_comm

/-- One captured crossing for each zone at most. -/
theorem captures_nodup : ((d.captures started).map PhaseRequest.zone).Nodup := by
  have zones : (d.captures started).map PhaseRequest.zone =
      (List.finRange 4).filter fun z => (d.workOf started z).capture.isSome := by
    rw [State.captures, List.map_filterMap, ← List.filterMap_eq_filter]
    congr 1
    funext z
    cases h : (d.workOf started z).capture with
    | none => simp [Option.guard, h]
    | some p => simp [Option.guard, h, workOf_capture_zone h]
  rw [zones]
  exact (List.nodup_finRange 4).filter _

end

section
variable (d : State) (started : ZoneId → Bool) (lost timeSet : Bool)

/-- The zones whose crossing a strobe's work captures. -/
def State.capturing : List ZoneId := tabFilter (fun _ (w : ZoneWork) => w.capture.isSome) (d.works started)

/-- The events of a strobe's work, by their kinds, each with what it cannot come before. -/
inductive HandsOver : StrobeEvent → Prop
  | fault (a : ActId) (z : ZoneId) (faulted : (d.updateOf started a).2.fault = true)
      (zone : d.zoneOf a = some z) : HandsOver ⟨.raise (.actuator a) z .major, [a], []⟩
  | total (z : ZoneId) (guarded : (d.workOf started z).total = true) : HandsOver
      ⟨.raise (.total z) z .major, (d.strobeUpdated started).readAfter Config.guardAfterUpdate z, []⟩
  | window (n : AeId) (due : WindowAt d n) (full : d.cm.aes[n].windowWork.2 = true) :
      HandsOver ⟨.raise (.ae n) d.cm.aes[n].zone d.cm.aes[n].severity, [], []⟩
  | loss (z : ZoneId) (told : lost = true)
      (reached : started z = false ∨ Config.lossAfterStart (d.strobeUpdated started).free z = true) :
      HandsOver ⟨.loss z, [], []⟩
  | scans (z : ZoneId) (captured : (d.workOf started z).capture.isSome = true) :
      HandsOver ⟨.scans (d.captures started), ((d.capturing started).map
        ((d.strobeUpdated started).readAfter Config.crossingAfterUpdate)).flatten, d.capturing started⟩
  | frame (b : BlockId) (active : d.cu.blocks[b].isActive) : HandsOver ⟨.frame timeSet, [], []⟩

end

section
variable {d : State} {started : ZoneId → Bool} {lost timeSet : Bool}

theorem mem_eventList {e : StrobeEvent} :
    e ∈ d.eventList started lost timeSet ↔ HandsOver d started lost timeSet e := by
  simp only [State.eventList, State.handsOver, List.mem_append, or_assoc, mem_faultEvents, mem_totalEvents,
    mem_windowEvents, mem_lossEvents, mem_scanEvents, mem_frameEvents, outcomes_get, works_get, windows_get,
    strobeUpdated_zoneOf, strobeUpdated_ae_same, captures_eq]
  constructor
  · rintro (⟨a, z, faulted, zone, rfl⟩ | ⟨z, guarded, rfl⟩ | ⟨n, ⟨due, full⟩, rfl⟩ |
      ⟨told, z, reached, rfl⟩ | ⟨⟨z, captured⟩, rfl⟩ | ⟨⟨b, active⟩, rfl⟩)
    · exact .fault a z faulted zone
    · exact .total z guarded
    · exact .window n due full
    · exact .loss z told reached
    · exact .scans z captured
    · exact .frame b active
  · intro h
    cases h with
    | fault a z faulted zone => exact .inl ⟨a, z, faulted, zone, rfl⟩
    | total z guarded => exact .inr (.inl ⟨z, guarded, rfl⟩)
    | window n due full => exact .inr (.inr (.inl ⟨n, ⟨due, full⟩, rfl⟩))
    | loss z told reached => exact .inr (.inr (.inr (.inl ⟨told, z, reached, rfl⟩)))
    | scans z captured => exact .inr (.inr (.inr (.inr (.inl ⟨⟨z, captured⟩, rfl⟩))))
    | frame b active => exact .inr (.inr (.inr (.inr (.inr ⟨⟨b, active⟩, rfl⟩))))

theorem mem_order_tasks {x : StrobeTask} : x ∈ (d.order started lost timeSet).map Prod.fst ↔
    ∃ e, HandsOver d started lost timeSet e ∧ e.task = x := by
  simp only [mem_tasks, mem_eventList]

theorem mem_task_raise {src : AlarmSource} {z : ZoneId} {v : Severity} :
    .raise src z v ∈ (d.order started lost timeSet).map Prod.fst ↔ Raised d started (src, z, v) := by
  rw [mem_order_tasks]
  constructor
  · rintro ⟨e, he, task⟩
    cases he with
    | fault a y faulted zone => cases task; exact .inl ⟨a, _, zone, faulted, rfl⟩
    | total y guarded => cases task; exact .inr (.inl ⟨_, guarded, rfl⟩)
    | window n due full =>
      injection task with source zone severity
      subst source zone severity
      exact .inr (.inr ⟨n, due.1, due.2, full, rfl⟩)
    | loss | scans | frame => cases task
  · rintro (⟨a, y, zone, faulted, e⟩ | ⟨y, guarded, e⟩ | ⟨n, enabled, wrap, full, e⟩)
    · cases e; exact ⟨_, .fault a z faulted zone, rfl⟩
    · cases e; exact ⟨_, .total z guarded, rfl⟩
    · cases e; exact ⟨_, .window n ⟨enabled, wrap⟩ full, rfl⟩

theorem mem_task_loss {z : ZoneId} : .loss z ∈ (d.order started lost timeSet).map Prod.fst ↔
    lost = true ∧ (started z = false ∨ Config.lossAfterStart (d.strobeUpdated started).free z = true) := by
  rw [mem_order_tasks]
  constructor
  · rintro ⟨e, he, task⟩
    cases he with
    | loss y told reached => cases task; exact ⟨told, reached⟩
    | fault | total | window | scans | frame => cases task
  · exact fun ⟨told, reached⟩ => ⟨_, .loss z told reached, rfl⟩

theorem mem_task_scans {l : List PhaseRequest} : .scans l ∈ (d.order started lost timeSet).map Prod.fst ↔
    l ≠ [] ∧ l = d.captures started := by
  rw [mem_order_tasks]
  constructor
  · rintro ⟨e, he, task⟩
    cases he with
    | scans z captured =>
      cases task
      exact ⟨captures_ne_nil.mpr ⟨z, Option.isSome_iff_ne_none.mp captured⟩, rfl⟩
    | fault | total | window | loss | frame => cases task
  · rintro ⟨ne, rfl⟩
    obtain ⟨z, captured⟩ := captures_ne_nil.mp ne
    exact ⟨_, .scans z (Option.isSome_iff_ne_none.mpr captured), rfl⟩

theorem mem_task_frame {b : Bool} : .frame b ∈ (d.order started lost timeSet).map Prod.fst ↔
    b = timeSet ∧ ∃ c : BlockId, d.cu.blocks[c].isActive := by
  rw [mem_order_tasks]
  constructor
  · rintro ⟨e, he, task⟩
    cases he with
    | frame c active => cases task; exact ⟨rfl, c, active⟩
    | fault | total | window | loss | scans => cases task
  · rintro ⟨rfl, c, active⟩
    exact ⟨_, .frame c active, rfl⟩

/-- An ACTUATOR raise comes after its channel's update (05 R86). -/
theorem HandsOver.updated {e : StrobeEvent} (h : HandsOver d started lost timeSet e) {a : ActId} {z : ZoneId}
    {v : Severity} (task : e.task = .raise (.actuator a) z v) : a ∈ e.updated := by
  cases h with
  | fault => cases task; exact List.mem_cons_self
  | total | window | loss | scans | frame => cases task

/-- The captured crossings come after the wrap work of their zones (06 R104). -/
theorem HandsOver.wrapped {e : StrobeEvent} (h : HandsOver d started lost timeSet e) {l : List PhaseRequest}
    (task : e.task = .scans l) {z : ZoneId} (captured : (d.workOf started z).capture ≠ none) :
    z ∈ e.wrapped := by
  cases h with
  | scans =>
    refine List.mem_filter.mpr ⟨List.mem_finRange z, ?_⟩
    rw [works_get]
    exact Option.isSome_iff_ne_none.mpr captured
  | fault | total | window | loss | frame => cases task

end

end Sys2Proof.Machine
end

section
/-! A strobe's work event by event: what holds throughout, what an event brings about, and what the events
find (log 8 to 11). -/

namespace Sys2Proof.Machine
open Host Statements

/-! ### Folds over tasks that come once -/

/-- What the step of one key establishes from what the steps of other keys before it keep, and what those
after it keep, holds after the fold. -/
theorem foldl_establish_key {α β κ : Type} {k : β → κ} {x : κ} {pre post : α → Prop} {f : α → β → α}
    {l : List β} (once : (l.map k).Nodup) (hx : x ∈ l.map k)
    (before : ∀ s, ∀ b ∈ l, k b ≠ x → pre s → pre (f s b)) (make : ∀ s, ∀ b ∈ l, k b = x → pre s → post (f s b))
    (after : ∀ s, ∀ b ∈ l, k b ≠ x → post s → post (f s b)) : ∀ s, pre s → post (l.foldl f s) := by
  induction l with
  | nil => simp at hx
  | cons b l ih =>
    intro s hs
    rw [List.map_cons, List.nodup_cons] at once
    obtain ⟨head, tail⟩ := once
    rw [List.foldl_cons]
    by_cases e : k b = x
    · have others : ∀ c ∈ l, k c ≠ x := fun c hc h => head (e.trans h.symm ▸ List.mem_map_of_mem hc)
      exact List.foldlRecOn l f (make s b List.mem_cons_self e hs) fun t ht c hc =>
        after t c (List.mem_cons_of_mem _ hc) (others c hc) ht
    · refine ih tail ((List.mem_cons.mp hx).resolve_left (Ne.symm e))
        (fun t c hc => before t c (List.mem_cons_of_mem _ hc))
        (fun t c hc => make t c (List.mem_cons_of_mem _ hc))
        (fun t c hc => after t c (List.mem_cons_of_mem _ hc)) _ (before s b List.mem_cons_self e hs)

/-! ### What holds throughout the events -/

/-- A part among the events of a strobe's work. -/
structure Underway (d : State) (started : ZoneId → Bool) (v : State) : Prop where
  updated : Inner (d.strobeUpdated started) v
  moved : Inner (d.strobeMoved started) v
  disjoint : OneZoneEach v
  fated : Fated (d.strobeMoved started) v
  awaits : ∀ x, d.Awaits x → v.Awaits x

/-- A channel after its update, or as it then begins to hold (03 R50). -/
def UpdatedAs (d : State) (started : ZoneId → Bool) (a : ActId) (c : Channel) : Prop :=
  c = (d.updateOf started a).1 ∨ c = heldMember (d.updateOf started a).1

theorem UpdatedAs.held {d : State} {started : ZoneId → Bool} {a : ActId} {c : Channel}
    (h : UpdatedAs d started a c) : UpdatedAs d started a (heldMember c) := by
  rcases h with rfl | rfl
  · exact .inr rfl
  · rw [heldMember_idem]; exact .inr rfl

theorem UpdatedAs.wasCycling {d : State} {started : ZoneId → Bool} {a : ActId} {c : Channel}
    (h : UpdatedAs d started a c) : c.wasCycling = ((d.updated started).chan a).wasCycling := by
  rw [updated_chan]
  rcases h with rfl | rfl
  · rfl
  · exact heldMember_wasCycling _

section
variable {d : State} {started : ZoneId → Bool}

theorem moved_members (disjoint : OneZoneEach d) (z : ZoneId) :
    ((d.strobeMoved started).zone z).members = (d.zone z).members := by
  rw [strobeMoved_zone disjoint, moveOf_members, strobeUpdated_members]

theorem underway_moved (disjoint : OneZoneEach d) : Underway d started (d.strobeMoved started) :=
  ⟨strobeMoved_inner d started, .refl _, disjoint.of_members (moved_members disjoint), .of_same rfl rfl,
    fun _ h => h.of_se (by rw [strobeMoved_only disjoint])⟩

theorem Underway.event {v : State} (h : Underway d started v) (q : Seen) (e : StrobeTask) :
    Underway d started (v.strobeEvent q e) := by
  have inner := strobeEvent_inner v q e
  obtain ⟨disjoint, fated⟩ := (fated_closed (d.strobeMoved started)).strobeEvent ⟨h.disjoint, h.fated⟩ q e
  exact ⟨h.updated.trans inner, h.moved.trans inner, disjoint, fated,
    fun x k => strobeEvent_awaits (h.awaits x k) q e⟩

/-- A strobe's work keeps what each of its events keeps. -/
theorem strobeWork_keeps (disjoint : OneZoneEach d) {lost timeSet : Bool} {P : State → Prop}
    (first : P (d.strobeMoved started))
    (step : ∀ v, Underway d started v → P v → ∀ e ∈ d.order started lost timeSet, P (v.strobeEvent e.2 e.1)) :
    P (d.strobeWork started lost timeSet) := by
  rw [strobeWork_eq disjoint]
  exact (List.foldlRecOn (motive := fun v => Underway d started v ∧ P v) _ _ ⟨underway_moved disjoint, first⟩
    fun v h e he => ⟨h.1.event e.2 e.1, step v h.1 h.2 e he⟩).2

theorem underway_work (disjoint : OneZoneEach d) (lost timeSet : Bool) :
    Underway d started (d.strobeWork started lost timeSet) :=
  strobeWork_keeps disjoint (underway_moved disjoint) fun _ h _ e _ => h.event e.2 e.1

/-- What one event of a strobe's work brings about. -/
theorem strobeWork_establish (disjoint : OneZoneEach d) {lost timeSet : Bool} {x : StrobeTask}
    (hx : x ∈ (d.order started lost timeSet).map Prod.fst) {pre post : State → Prop}
    (first : pre (d.strobeMoved started))
    (before : ∀ v, Underway d started v → pre v → ∀ e ∈ d.order started lost timeSet, e.1 ≠ x →
      pre (v.strobeEvent e.2 e.1))
    (make : ∀ v, Underway d started v → pre v → ∀ q, (x, q) ∈ d.order started lost timeSet →
      post (v.strobeEvent q x))
    (after : ∀ v, Underway d started v → post v → ∀ e ∈ d.order started lost timeSet, e.1 ≠ x →
      post (v.strobeEvent e.2 e.1)) : post (d.strobeWork started lost timeSet) := by
  rw [strobeWork_eq disjoint]
  refine (foldl_establish_key (pre := fun v => Underway d started v ∧ pre v)
    (post := fun v => Underway d started v ∧ post v) (order_nodup d started lost timeSet) hx ?_ ?_ ?_ _
    ⟨underway_moved disjoint, first⟩).2
  · exact fun v e he ne h => ⟨h.1.event e.2 e.1, before v h.1 h.2 e he ne⟩
  · rintro v ⟨y, q⟩ he rfl h
    exact ⟨h.1.event q y, make v h.1 h.2 q he⟩
  · exact fun v e he ne h => ⟨h.1.event e.2 e.1, after v h.1 h.2 e he ne⟩

/-! ### Zones and channels among the events -/

section
variable {v : State} (h : Underway d started v)
include h

theorem Underway.members (disjoint : OneZoneEach d) (z : ZoneId) : (v.zone z).members = (d.zone z).members :=
  (h.fated.members z).trans (moved_members disjoint z)

theorem Underway.config (z : ZoneId) : (d.workOf started z).zone.SameConfig (v.zone z) := by
  rw [← strobeUpdated_zone]; exact h.updated.zones z

theorem Underway.later (z : ZoneId) : (d.workOf started z).zone.Later (v.zone z) := by
  rw [← strobeUpdated_zone]; exact h.updated.later z

theorem Underway.hall : v.hall = d.hall := by
  unfold State.hall State.strobeHall State.subPeriod
  rw [h.updated.tb, h.updated.osc]
  rfl

/-- Where a zone that is in RUN or HOLD at a strobe can be among its events. -/
theorem Underway.moving {z : ZoneId} (was : (d.zone z).state = .run ∨ (d.zone z).state = .hold) :
    ((v.zone z).state = .run ∨ (v.zone z).state = .hold) ∨
      (v.zone z).state = .unload ∨ (v.zone z).state = .safe := by
  have later := h.later z
  rw [← (workOf_same d started z).state] at was
  rcases was with run | hold
  · rcases later.run run with e | e | e | e <;> simp [e]
  · rcases later.hold hold with e | e | e <;> simp [e]

/-- Where a zone that is in READY, RUN or HOLD at a strobe can be among its events. -/
theorem Underway.live {z : ZoneId}
    (was : (d.zone z).state = .ready ∨ (d.zone z).state = .run ∨ (d.zone z).state = .hold) :
    ((v.zone z).state = .ready ∨ (v.zone z).state = .run ∨ (v.zone z).state = .hold) ∨
      (v.zone z).state = .unload ∨ (v.zone z).state = .safe := by
  rcases was with ready | was
  · rw [← (workOf_same d started z).state] at ready
    rcases (h.later z).ready ready with e | e | e <;> simp [e]
  · exact (h.moving was).imp_left .inr

/-- A zone that is not in RUN or HOLD at a strobe does not come to be among its events. -/
theorem Underway.not_moving {z : ZoneId} (was : ¬ ((d.zone z).state = .run ∨ (d.zone z).state = .hold)) :
    ¬ ((v.zone z).state = .run ∨ (v.zone z).state = .hold) := by
  have later := h.later z
  have state := (workOf_same d started z).state
  cases e : (d.zone z).state with
  | run | hold => simp [e] at was
  | idle => simp [later.idle (state.trans e)]
  | safe => simp [later.safe (state.trans e)]
  | ready => rcases later.ready (state.trans e) with k | k | k <;> simp [k]
  | unload => rcases later.unload (state.trans e) with k | k <;> simp [k]

/-- The channels among the events are as updated, or hold since. -/
theorem Underway.chan (disjoint : OneZoneEach d) (a : ActId) : UpdatedAs d started a (v.chan a) := by
  by_cases member : ∃ z, (d.zone z).members.getLsbD a = true
  · obtain ⟨z, ha⟩ := member
    have moved : UpdatedAs d started a ((d.strobeMoved started).chan a) := by
      obtain ⟨held, kept⟩ := strobeMoved_chan disjoint started ha
      by_cases ended : EndedAt d started z
      · exact .inr (held ended)
      · exact .inl (kept ended)
    obtain ⟨b, -, chan⟩ := h.fated.zones z
    rw [chan a (by rw [moved_members disjoint]; exact ha)]
    cases b with
    | false => rw [if_neg Bool.false_ne_true]; exact moved
    | true => rw [if_pos rfl]; exact moved.held
  · have none : ∀ z, (d.zone z).members.getLsbD a = false :=
      fun z => Bool.eq_false_iff.mpr fun ha => member ⟨z, ha⟩
    rw [h.fated.others a fun z => by rw [moved_members disjoint]; exact none z]
    exact .inl (strobeMoved_chan_others disjoint started none)

end

/-! ### What the events find -/

/-- What the event `x` finds: the channels and counts before or after the strobe's updates and wrap work, and
never before those it needs. -/
structure Finds (d : State) (started : ZoneId → Bool) (x : StrobeTask) (q : Seen) : Prop where
  chans : ∀ a : ActId, q.chans[a] = d.chan a ∨ UpdatedAs d started a q.chans[a]
  updated : ∀ (a : ActId) z v, x = .raise (.actuator a) z v → UpdatedAs d started a q.chans[a]
  counts : ∀ z : ZoneId, q.counts[z] = (d.zone z).cycleCount ∨
    q.counts[z] = (d.workOf started z).zone.cycleCount
  wrapped : ∀ (z : ZoneId) l, x = .scans l → (d.workOf started z).capture ≠ none →
    q.counts[z] = (d.workOf started z).zone.cycleCount

theorem order_finds (disjoint : OneZoneEach d) {lost timeSet : Bool} {e : StrobeTask × Seen}
    (he : e ∈ d.order started lost timeSet) : Finds d started e.1 e.2 := by
  obtain ⟨found, ev, hev, task, updated, wrapped⟩ := taken_foundAfter
    (C := UpdatedAs d started) (N := fun z n => n = (d.workOf started z).zone.cycleCount)
    (I := Underway d started) (fun _ h a => h.chan disjoint a) (fun _ h z => (h.config z).cycleCount)
    (fun _ q e h => h.event q e) _ _ _ _ _ (underway_moved disjoint) e he
  replace hev := mem_eventList.mp ((arrange_perm _ _ _).mem_iff.mp hev)
  have count : ∀ z : ZoneId, d.seenBefore.counts[z] = (d.zone z).cycleCount := fun z => tabMap_get _ _ z
  exact {
    chans := found.chans
    updated := fun a _ _ h => updated a (hev.updated (task.trans h))
    counts := fun z => (found.counts z).imp_left fun e => e.trans (count z)
    wrapped := fun z _ h some => wrapped z (hev.wrapped (task.trans h) some) }

/-- What one event finds, each later one finds, or what came after it. -/
theorem order_pairwise (disjoint : OneZoneEach d) (lost timeSet : Bool) :
    (d.order started lost timeSet).Pairwise fun e f =>
      (∀ a : ActId, f.2.chans[a] = e.2.chans[a] ∨ UpdatedAs d started a f.2.chans[a]) ∧
      ∀ z : ZoneId, f.2.counts[z] = e.2.counts[z] ∨ f.2.counts[z] = (d.workOf started z).zone.cycleCount :=
  (taken_pairwise (C := UpdatedAs d started) (N := fun z n => n = (d.workOf started z).zone.cycleCount)
    (I := Underway d started) (fun _ h a => h.chan disjoint a) (fun _ h z => (h.config z).cycleCount)
    (fun _ q e h => h.event q e) _ _ _ _ _ (underway_moved disjoint)).imp fun h => ⟨h.chans, h.counts⟩

end

end Sys2Proof.Machine
end

section
/-! Where the channels and the zones stand after a strobe's work (03 R50; 06 R103, R111, R112, R114 to R116,
R120). -/

namespace Sys2Proof.Machine
open Host Statements

/-! ### A zone after its own move -/

section
variable {d : State} {started : ZoneId → Bool} (disjoint : OneZoneEach d) (z : ZoneId)
include disjoint

/-- A zone's own move at a strobe: HELD, SAFE, HOLD by an end action, or none. -/
theorem strobeMoved_zone_or :
    (RampedAt d started z ∧ (d.strobeMoved started).zone z =
      { (d.workOf started z).zone with sub := .held, clockRunning := false }) ∨
    (UnloadedAt d started z ∧ (d.strobeMoved started).zone z =
      { (d.workOf started z).zone with state := .safe, unloadFirst := false }) ∨
    (EndedAt d started z ∧ (d.strobeMoved started).zone z =
      heldZone (d.workOf started z).zone (ramps (d.updated started) z) ⟨false, true, false, false⟩) ∨
    ((d.zone z).state = .unload ∧ (d.strobeMoved started).zone z =
      { (d.workOf started z).zone with unloadFirst := false }) ∨
    ((d.zone z).state ≠ .unload ∧ ¬ RampedAt d started z ∧ ¬ EndedAt d started z ∧
      (d.strobeMoved started).zone z = (d.workOf started z).zone) := by
  obtain ⟨ramped, unloaded, ended, first, stays⟩ := strobeMoved_zone_cases disjoint started z
  rw [(workOf_same d started z).state] at first stays
  by_cases r : RampedAt d started z
  · exact .inl ⟨r, ramped r⟩
  by_cases s : UnloadedAt d started z
  · exact .inr (.inl ⟨s, unloaded s⟩)
  by_cases e : EndedAt d started z
  · exact .inr (.inr (.inl ⟨e, ended e⟩))
  by_cases u : (d.zone z).state = .unload
  · exact .inr (.inr (.inr (.inl ⟨u, first u s⟩)))
  · exact .inr (.inr (.inr (.inr ⟨u, r, e, stays u r e⟩)))

/-- A zone in RUN after its own move has made none. -/
theorem moved_run (h : ((d.strobeMoved started).zone z).state = .run) :
    (d.zone z).state = .run ∧ ¬ EndedAt d started z ∧
      (d.strobeMoved started).zone z = (d.workOf started z).zone := by
  have work := workOf_same d started z
  have run : ∀ x : Zone, (d.strobeMoved started).zone z = x → x.state = .run := fun x e => e ▸ h
  rcases strobeMoved_zone_or (started := started) disjoint z with ⟨r, e⟩ | ⟨-, e⟩ | ⟨-, e⟩ | ⟨u, e⟩ |
    ⟨-, -, stays, e⟩
  · have k := run _ e
    exact absurd (r.1.symm.trans (work.state.symm.trans k)) (by decide)
  · exact absurd (show ZoneState.safe = .run from run _ e) (by decide)
  · exact absurd (show ZoneState.hold = .run from run _ e) (by decide)
  · have k := run _ e
    exact absurd (u.symm.trans (work.state.symm.trans k)) (by decide)
  · exact ⟨work.state.symm.trans (run _ e), stays, e⟩

/-- What the own move of a zone in READY, RUN or HOLD leaves. -/
theorem moved_live (h : (d.zone z).state = .ready ∨ (d.zone z).state = .run ∨ (d.zone z).state = .hold) :
    (((d.strobeMoved started).zone z).state = .ready ∨ ((d.strobeMoved started).zone z).state = .run ∨
      ((d.strobeMoved started).zone z).state = .hold) ∧
    ((d.strobeMoved started).zone z).pendingStart = (d.zone z).pendingStart ∧
    ((d.strobeMoved started).zone z).lastStart = (d.zone z).lastStart := by
  have work := workOf_same d started z
  have other : ∀ {p : Prop}, (d.zone z).state = .unload → p := fun u => by simp [u] at h
  rcases strobeMoved_zone_or (started := started) disjoint z with ⟨-, e⟩ | ⟨s, -⟩ | ⟨-, e⟩ | ⟨u, -⟩ |
    ⟨-, -, -, e⟩
  · rw [e]; exact ⟨work.state.symm ▸ h, work.pendingStart, work.lastStart⟩
  · exact other s.1
  · rw [e]; exact ⟨.inr (.inr rfl), work.pendingStart, work.lastStart⟩
  · exact other u
  · rw [e]; exact ⟨work.state.symm ▸ h, work.pendingStart, work.lastStart⟩

/-- Whether a member is cycling does not change with the zone's own move. -/
theorem moved_ramps : ramps (d.strobeMoved started) z = ramps (d.updated started) z := by
  refine ramps_congr (moved_members disjoint z) fun a ha => ?_
  obtain ⟨held, kept⟩ := strobeMoved_chan disjoint started (a := a) (z := z) ha
  rw [updated_chan]
  by_cases ended : EndedAt d started z
  · rw [held ended, heldMember_isCycling]
  · rw [kept ended]

end

/-! ### The channels -/

section
variable {d v : State} {started : ZoneId → Bool} (h : Underway d started v) (disjoint : OneZoneEach d)
include h disjoint

/-- The members of a zone that is still in RUN, or was not, are as updated. -/
theorem Underway.chan_updated {a : ActId} (run : ∀ z, d.zoneOf a = some z → (d.zone z).state = .run →
    (v.zone z).state = .run) : v.chan a = (d.updateOf started a).1 := by
  cases zone : d.zoneOf a with
  | none =>
    have none := zoneOf_eq_none_iff.mp zone
    rw [h.fated.others a fun z => by rw [moved_members disjoint]; exact none z]
    exact strobeMoved_chan_others disjoint started none
  | some z =>
    have member := (zoneOf_eq_some_iff disjoint).mp zone
    obtain ⟨b, fate, chan⟩ := h.fated.zones z
    have noMark : b ≠ true := fun mark => by
      obtain ⟨was, left⟩ := fate.run_of_held mark
      exact left (run z zone (moved_run disjoint z was).1)
    have noEnd : ¬ EndedAt d started z := fun ended => by
      have moved := (strobeMoved_zone_cases disjoint started z).2.2.1 ended
      have now := run z zone ended.1
      rcases (h.moved.later z).hold (by rw [moved]; rfl) with e | e | e <;> simp [now] at e
    rw [chan a (by rw [moved_members disjoint]; exact member), if_neg noMark,
      (strobeMoved_chan disjoint started member).2 noEnd]

/-- The members of a zone that has come from RUN to HOLD hold (03 R50). -/
theorem Underway.chan_held {a : ActId} {z : ZoneId} (zone : d.zoneOf a = some z)
    (run : (d.zone z).state = .run) (hold : (v.zone z).state = .hold) :
    v.chan a = heldMember (d.updateOf started a).1 := by
  have member := (zoneOf_eq_some_iff disjoint).mp zone
  obtain ⟨b, fate, chan⟩ := h.fated.zones z
  rw [chan a (by rw [moved_members disjoint]; exact member)]
  obtain ⟨held, kept⟩ := strobeMoved_chan disjoint started member
  by_cases ended : EndedAt d started z
  · rw [held ended, heldMember_idem, ite_self]
  · have moved := (strobeMoved_zone_cases disjoint started z).2.2.2.2
    have same := moved (by rw [(workOf_same d started z).state, run]; decide)
      (fun r => absurd (run.symm.trans r.1) (by decide)) ended
    have mark := (fate.hold_of_run (by rw [same, (workOf_same d started z).state, run]) hold).1
    rw [kept ended, if_pos mark]

end

/-! ### The zones -/

section
variable {d v : State} {started : ZoneId → Bool} (h : Underway d started v) (disjoint : OneZoneEach d)
  (z : ZoneId)
include h disjoint

/-- A zone that has come from RUN to HOLD: its sub-state and its clock (06 R111). -/
theorem Underway.hold_of_run (run : (d.zone z).state = .run) (hold : (v.zone z).state = .hold) :
    (v.zone z).sub = (heldZone (d.zone z) (ramps (d.updated started) z) (v.zone z).reasons).sub ∧
    (v.zone z).clockRunning =
      (heldZone (d.zone z) (ramps (d.updated started) z) (v.zone z).reasons).clockRunning := by
  have work := workOf_same d started z
  obtain ⟨b, fate, -⟩ := h.fated.zones z
  rcases strobeMoved_zone_or (started := started) disjoint z with ⟨r, -⟩ | ⟨s, -⟩ | ⟨-, e⟩ | ⟨u, -⟩ |
    ⟨-, -, -, e⟩
  · exact absurd (run.symm.trans r.1) (by decide)
  · exact absurd (run.symm.trans s.1) (by decide)
  · rw [e] at fate
    obtain ⟨sub, clock, -⟩ := fate.hold_of_hold rfl hold
    rw [sub, clock, heldZone, heldZone, work.clockRunning]
    exact ⟨rfl, rfl⟩
  · exact absurd (run.symm.trans u) (by decide)
  · rw [e, moved_ramps disjoint] at fate
    obtain ⟨-, sub, clock⟩ := fate.hold_of_run (work.state.trans run) hold
    rw [sub, clock, heldZone, heldZone, work.clockRunning]
    exact ⟨rfl, rfl⟩

/-- A zone that has come from READY, RUN or HOLD to UNLOAD or SAFE (06 R114). -/
theorem Underway.cleared
    (was : (d.zone z).state = .ready ∨ (d.zone z).state = .run ∨ (d.zone z).state = .hold)
    (gone : (v.zone z).state = .unload ∨ (v.zone z).state = .safe) : (v.zone z).clockRunning = false ∧
    (v.zone z).reasons = ⟨false, false, false, false⟩ ∧ (v.zone z).pendingStart = none ∧
    (v.zone z).unloadFirst = true ∧ (v.zone z).lastStart =
      if (d.zone z).pendingStart.isSome then .cancelled else (d.zone z).lastStart := by
  obtain ⟨b, fate, -⟩ := h.fated.zones z
  obtain ⟨live, pending, last⟩ := moved_live (started := started) disjoint z was
  rw [← pending, ← last]
  exact fate.cleared live gone

/-- A zone that has ramped out is HELD, or has left HOLD since (06 R112). -/
theorem Underway.ramped (r : RampedAt d started z) :
    ((v.zone z).state = .hold ∧ (v.zone z).sub = .held ∧ (v.zone z).clockRunning = false) ∨
      (v.zone z).state = .unload ∨ (v.zone z).state = .safe := by
  have moved := (strobeMoved_zone_cases disjoint started z).1 r
  have hold : ((d.strobeMoved started).zone z).state = .hold := by
    rw [moved]; exact (workOf_same d started z).state.trans r.1
  have later := h.moved.later z
  rcases later.hold hold with e | e
  · exact .inl ⟨e, later.held hold e (by rw [moved]), later.stopped (by rw [moved])⟩
  · exact .inr e

/-- A zone whose members are all at their safe loads is in SAFE (06 R115). -/
theorem Underway.unloaded (s : UnloadedAt d started z) : (v.zone z).state = .safe :=
  (h.moved.later z).safe (by rw [(strobeMoved_zone_cases disjoint started z).2.1 s])

/-- The update of this strobe was not the last in UNLOAD that is the first (06 R115). -/
theorem Underway.unloadFirst (u : (d.zone z).state = .unload) : (v.zone z).unloadFirst = false := by
  have work := workOf_same d started z
  obtain ⟨-, unloaded, -, stays, -⟩ := strobeMoved_zone_cases disjoint started z
  by_cases s : UnloadedAt d started z
  · exact (h.moved.later z).unloadFirst (by rw [unloaded s]; exact .inr rfl) (by rw [unloaded s])
  · have same := stays (work.state.trans u) s
    exact (h.moved.later z).unloadFirst (by rw [same]; exact .inl (work.state.trans u)) (by rw [same])

/-- A zone in UNLOAD whose members are not all at their safe loads stays in UNLOAD (06 R115). -/
theorem Underway.unload_stays (u : (d.zone z).state = .unload) (s : ¬ UnloadedAt d started z) :
    (v.zone z).state = .unload := by
  have work := workOf_same d started z
  have same := (strobeMoved_zone_cases disjoint started z).2.2.2.1 (work.state.trans u) s
  have unload : ((d.strobeMoved started).zone z).state = .unload := by rw [same]; exact work.state.trans u
  obtain ⟨b, fate, -⟩ := h.fated.zones z
  rcases fate.state with e | ⟨run, -⟩ | ⟨live, -⟩
  · exact e.trans unload
  · exact absurd (unload.symm.trans run) (by decide)
  · simp [unload] at live

/-- A zone that an end action holds is in HOLD with the reason SEGMENT, or has left HOLD since (03 R47). -/
theorem Underway.ended (e : EndedAt d started z) :
    ((v.zone z).state = .hold ∧ (v.zone z).reasons.segment = true) ∨
      (v.zone z).state = .unload ∨ (v.zone z).state = .safe := by
  have moved := (strobeMoved_zone_cases disjoint started z).2.2.1 e
  have hold : ((d.strobeMoved started).zone z).state = .hold := by rw [moved]; rfl
  have later := h.moved.later z
  rcases later.hold hold with k | k
  · exact .inl ⟨k, (later.reasons hold k).segment (by rw [moved]; rfl)⟩
  · exact .inr k

end

end Sys2Proof.Machine
end

section
/-! What a strobe's raises, sync losses and captured crossings do to its zones and to the alarm list
(06 R111, R114, R116 to R120; 07 R129, R131). -/

namespace Sys2Proof.Machine
open Host Statements

/-- A zone that has left for UNLOAD or SAFE (06 R114, R115). -/
def Zone.Gone (x : Zone) : Prop := x.state = .unload ∨ x.state = .safe

theorem Zone.Later.gone {x y : Zone} (h : x.Later y) (g : x.Gone) : y.Gone := by
  rcases g with e | e
  · exact h.unload e
  · exact .inr (h.safe e)

/-- A zone in HOLD with a reason keeps it until it leaves HOLD (06 R111). -/
theorem Zone.Later.heldFor {x y : Zone} (h : x.Later y) {p : HoldReasons → Prop}
    (stays : x.reasons.Within y.reasons → p x.reasons → p y.reasons)
    (k : (x.state = .hold ∧ p x.reasons) ∨ x.Gone) : (y.state = .hold ∧ p y.reasons) ∨ y.Gone := by
  rcases k with ⟨hold, reason⟩ | gone
  · rcases h.hold hold with e | e
    · exact .inl ⟨e, stays (h.reasons hold e) reason⟩
    · exact .inr e
  · exact .inr (h.gone gone)

section
variable (d : State) (started : ZoneId → Bool) (lost : Bool)

/-- Captured crossings of a strobe find no scan in flight that waits for a bank, and may start one. -/
def Scanned : Prop := (∃ z, (d.workOf started z).capture ≠ none) ∧ ¬ ∃ x, d.Awaits x

/-- All that a strobe's work may add to the alarm list, but for what its scans give. -/
def Raises (r : AlarmSource × ZoneId × Severity) : Prop := Raised d started r ∨
  ∃ z, lost = true ∧ ((d.zone z).state = .run ∨ (d.zone z).state = .hold) ∧ r = (.sync z, z, .info)

end

section
variable {d : State} {started : ZoneId → Bool} {lost timeSet : Bool}

theorem mem_order_task {e : StrobeTask × Seen} (he : e ∈ d.order started lost timeSet) :
    e.1 ∈ (d.order started lost timeSet).map Prod.fst := List.mem_map_of_mem he

/-- While no scan can start, captured crossings find one in flight that waits. -/
theorem Underway.scans_wait {v : State} (h : Underway d started v) (quiet : ¬ Scanned d started)
    {l : List PhaseRequest} (hl : .scans l ∈ (d.order started lost timeSet).map Prod.fst) : ∃ x, v.Awaits x := by
  obtain ⟨ne, rfl⟩ := mem_task_scans.mp hl
  by_contra none
  exact quiet ⟨captures_ne_nil.mp ne, fun ⟨x, k⟩ => none ⟨x, h.awaits x k⟩⟩

variable (disjoint : OneZoneEach d)
include disjoint

/-! ### What an event brings about in a zone -/

/-- What the event `x` brings about in a zone, and no later one undoes, holds after the strobe's work. -/
theorem zone_establish {x : StrobeTask} (hx : x ∈ (d.order started lost timeSet).map Prod.fst) {z : ZoneId}
    {P : Zone → Prop} (make : ∀ v q, Underway d started v → P ((v.strobeEvent q x).zone z))
    (stays : ∀ {y w : Zone}, y.Later w → P y → P w) : P ((d.strobeWork started lost timeSet).zone z) :=
  strobeWork_establish disjoint hx (pre := fun _ => True) (post := fun v => P (v.zone z)) trivial
    (fun _ _ _ _ _ _ => trivial) (fun v h _ q _ => make v q h)
    fun v _ k e _ _ => stays ((strobeEvent_inner v e.2 e.1).later z) k

/-- The sync loss holds a zone in RUN or HOLD with the reason SYNC, unless it has left (06 R116). -/
theorem lost_holds {z : ZoneId} (told : lost = true) (before : started z = false)
    (was : (d.zone z).state = .run ∨ (d.zone z).state = .hold) :
    (((d.strobeWork started lost timeSet).zone z).state = .hold ∧
      ((d.strobeWork started lost timeSet).zone z).reasons.sync = true) ∨
      ((d.strobeWork started lost timeSet).zone z).Gone := by
  refine zone_establish disjoint (mem_task_loss.mpr ⟨told, .inl before⟩)
    (P := fun y => (y.state = .hold ∧ y.reasons.sync = true) ∨ y.Gone) (fun v q h => ?_)
    fun later => later.heldFor (p := fun q => q.sync = true) fun within => within.sync
  rcases h.moving was with moving | gone
  · exact .inl (syncLoss_holds (r := q.stamp v (.sync z) z .info) rfl moving)
  · exact .inr (((strobeEvent_inner v q (.loss z)).later z).gone gone)

/-- A MINOR raise holds a zone in RUN or HOLD with the reason ALARM, unless it has left (06 R120). -/
theorem raised_minor_holds {src : AlarmSource} {z : ZoneId} (raised : Raised d started (src, z, .minor))
    (was : (d.zone z).state = .run ∨ (d.zone z).state = .hold) :
    (((d.strobeWork started lost timeSet).zone z).state = .hold ∧
      ((d.strobeWork started lost timeSet).zone z).reasons.alarm = true) ∨
      ((d.strobeWork started lost timeSet).zone z).Gone := by
  refine zone_establish disjoint (mem_task_raise.mpr raised)
    (P := fun y => (y.state = .hold ∧ y.reasons.alarm = true) ∨ y.Gone) (fun v q h => ?_)
    fun later => later.heldFor (p := fun q => q.alarm = true) fun within => within.alarm
  rcases h.moving was with moving | gone
  · exact .inl (raise_minor (r := q.stamp v src z .minor) rfl moving)
  · exact .inr (((strobeEvent_inner v q (.raise src z .minor)).later z).gone gone)

/-- A MAJOR raise moves a zone in READY, RUN or HOLD to UNLOAD or SAFE (06 R120). -/
theorem raised_major_gone {src : AlarmSource} {z : ZoneId} (raised : Raised d started (src, z, .major))
    (was : (d.zone z).state = .ready ∨ (d.zone z).state = .run ∨ (d.zone z).state = .hold) :
    ((d.strobeWork started lost timeSet).zone z).Gone := by
  refine zone_establish disjoint (mem_task_raise.mpr raised) (P := Zone.Gone) (fun v q h => ?_)
    fun later => later.gone
  rcases h.live was with live | gone
  · exact raise_major (r := q.stamp v src z .major) rfl live
  · exact ((strobeEvent_inner v q (.raise src z .major)).later z).gone gone

/-! ### A zone that no event acts on -/

variable (quiet : ¬ Scanned d started)
include quiet

theorem zone_spared {z : ZoneId} (raises : ∀ r, Raises d started lost r → r.2.1 ≠ z ∨ r.2.2 = .info)
    (still : lost = true → ¬ ((d.zone z).state = .run ∨ (d.zone z).state = .hold)) :
    ((d.strobeMoved started).zone z).SameButMissed ((d.strobeWork started lost timeSet).zone z) := by
  refine strobeWork_keeps disjoint (P := fun v => ((d.strobeMoved started).zone z).SameButMissed (v.zone z))
    (.refl _) fun v h same e he => same.trans (strobeEvent_spares ?_ e.2)
  have task := mem_order_task he
  cases x : e.1 with
  | raise src y s => exact raises (src, y, s) (.inl (mem_task_raise.mp (x ▸ task)))
  | loss y =>
    by_cases own : y = z
    · subst own
      exact .inr (h.not_moving (still (mem_task_loss.mp (x ▸ task)).1))
    · exact .inl own
  | scans l => exact h.scans_wait quiet (x ▸ task)
  | frame b => trivial

/-- A zone for which nothing is raised, lost or ended stays as it is (06 R111, R114). -/
theorem zone_stays {z : ZoneId} (raises : ∀ r, Raises d started lost r → r.2.1 ≠ z ∨ r.2.2 = .info)
    (still : lost = true → (d.zone z).state ≠ .run ∧ (d.zone z).state ≠ .hold)
    (ended : ¬ EndedAt d started z) (unload : (d.zone z).state ≠ .unload) :
    ((d.strobeWork started lost timeSet).zone z).state = (d.zone z).state ∧
    ((d.strobeWork started lost timeSet).zone z).reasons = (d.zone z).reasons ∧
    ((d.zone z).state ≠ .hold ∨ (d.zone z).sub = .held →
      ((d.strobeWork started lost timeSet).zone z).clockRunning = (d.zone z).clockRunning ∧
      ((d.strobeWork started lost timeSet).zone z).sub = (d.zone z).sub) := by
  have work := workOf_same d started z
  have same := zone_spared (timeSet := timeSet) disjoint quiet raises fun told =>
    not_or.mpr (still told)
  rcases strobeMoved_zone_or (started := started) disjoint z with ⟨r, e⟩ | ⟨s, -⟩ | ⟨k, -⟩ | ⟨u, -⟩ |
    ⟨-, -, -, e⟩
  · rw [same, e]
    refine ⟨work.state, work.reasons, fun k => ?_⟩
    rcases k with k | k
    · exact absurd r.1 k
    · exact absurd (k.symm.trans r.2.1) (by decide)
  · exact absurd s.1 unload
  · exact absurd k ended
  · exact absurd u unload
  · rw [same, e]
    exact ⟨work.state, work.reasons, fun _ => ⟨work.clockRunning, work.sub⟩⟩

/-- A zone in HOLD RAMPING OUT for which nothing MAJOR is raised ramps on (06 R112). -/
theorem zone_rampsOn {z : ZoneId} (raises : ∀ r, Raises d started lost r → r.2.1 ≠ z ∨ r.2.2 ≠ .major)
    (hold : (d.zone z).state = .hold) (out : (d.zone z).sub = .rampingOut) (r : ¬ RampedAt d started z) :
    ((d.strobeWork started lost timeSet).zone z).state = .hold ∧
    ((d.strobeWork started lost timeSet).zone z).sub = .rampingOut ∧
    ((d.strobeWork started lost timeSet).zone z).clockRunning = (d.zone z).clockRunning := by
  have work := workOf_same d started z
  have moved := (strobeMoved_zone_cases disjoint started z).2.2.2.2 (by rw [work.state, hold]; decide) r
    fun ended => absurd (hold.symm.trans ended.1) (by decide)
  have first : ((d.strobeMoved started).zone z).state = .hold := by rw [moved, work.state, hold]
  have last : ((d.strobeWork started lost timeSet).zone z).state = .hold := by
    refine strobeWork_keeps disjoint (P := fun v => (v.zone z).state = .hold) first fun v h hold e he =>
      strobeEvent_holds ?_ hold e.2
    have task := mem_order_task he
    cases x : e.1 with
    | raise src y s => exact raises (src, y, s) (.inl (mem_task_raise.mp (x ▸ task)))
    | loss y => trivial
    | scans l => exact h.scans_wait quiet (x ▸ task)
    | frame b => trivial
  obtain ⟨b, fate, -⟩ := (underway_work disjoint lost timeSet).fated.zones z
  obtain ⟨sub, clock, -⟩ := fate.hold_of_hold first last
  rw [sub, clock, moved, work.sub, work.clockRunning]
  exact ⟨last, out, rfl⟩

end

end Sys2Proof.Machine
end

section
/-! The slots of the captured crossings and the alarm list after a strobe's work (06 R117 to R119; 07 R129,
R131; log 10). -/

namespace Sys2Proof.Machine
open Host Statements

/-! ### The slots (07 R129) -/

/-- A zone's crossing, captured while a scan is in flight, is in the zone's slot and is a miss of the zone when
it has replaced one. -/
theorem phaseRequests_slot {s : State} {x : Scan} (h : s.Awaits x) {l : List PhaseRequest} {p : PhaseRequest}
    (hp : p ∈ l) (once : (l.map PhaseRequest.zone).Nodup) :
    (l.foldl State.phaseRequest s).se.slots[p.zone] = some p ∧
    ((l.foldl State.phaseRequest s).zone p.zone).missed = if s.se.slots[p.zone].isSome
      then bump Config.max16 (s.zone p.zone).missed else (s.zone p.zone).missed := by
  have others : ∀ {t u : State} {q : PhaseRequest}, Slotted t q u → q.zone ≠ p.zone →
      u.se.slots[p.zone] = t.se.slots[p.zone] ∧ u.zone p.zone = t.zone p.zone := by
    intro t u q step ne
    rw [step.se, step.zone, if_neg ne.symm]
    exact ⟨Vector.getElem_set_ne q.zone.isLt p.zone.isLt fun e => ne (Fin.ext e), rfl⟩
  refine (foldl_establish_key
    (pre := fun t => t.Awaits x ∧ t.se.slots[p.zone] = s.se.slots[p.zone] ∧ t.zone p.zone = s.zone p.zone)
    (post := fun t => t.Awaits x ∧ t.se.slots[p.zone] = some p ∧ (t.zone p.zone).missed =
      if s.se.slots[p.zone].isSome then bump Config.max16 (s.zone p.zone).missed else (s.zone p.zone).missed)
    once (List.mem_map_of_mem hp) ?_ ?_ ?_ s ⟨h, rfl, rfl⟩).2
  · intro t q _ ne ⟨waits, slot, zone⟩
    have step := phaseRequest_slotted waits q
    obtain ⟨sameSlot, sameZone⟩ := others step ne
    exact ⟨step.awaits waits, sameSlot.trans slot, sameZone.trans zone⟩
  · intro t q hq e ⟨waits, slot, zone⟩
    obtain rfl : q = p := List.inj_on_of_nodup_map once hq hp e
    have step := phaseRequest_slotted waits q
    refine ⟨step.awaits waits, ?_, ?_⟩
    · rw [step.se]; exact Vector.getElem_set_self _
    · rw [step.zone, if_pos rfl, slot, zone]
  · intro t q _ ne ⟨waits, slot, missed⟩
    have step := phaseRequest_slotted waits q
    obtain ⟨sameSlot, sameZone⟩ := others step ne
    exact ⟨step.awaits waits, sameSlot.trans slot, sameZone ▸ missed⟩

/-- The crossing `p` is in zone `z`'s slot, and a miss of the zone when it has replaced one of the part `d`. -/
def InSlot (d : State) (z : ZoneId) (p : PhaseRequest) (v : State) : Prop :=
  v.se.slots[z] = some p ∧ (v.zone z).missed =
    if d.se.slots[z].isNone then (d.zone z).missed else min ((d.zone z).missed + 1) 65535

section
variable {d : State} {started : ZoneId → Bool} {lost timeSet : Bool} (disjoint : OneZoneEach d)
include disjoint

theorem moved_missed (z : ZoneId) : ((d.strobeMoved started).zone z).missed = (d.zone z).missed := by
  have work := (workOf_same d started z).missed
  rcases strobeMoved_zone_or (started := started) disjoint z with ⟨-, e⟩ | ⟨-, e⟩ | ⟨-, e⟩ | ⟨-, e⟩ |
    ⟨-, -, -, e⟩ <;> rw [e] <;> exact work

/-- A crossing captured while a scan is in flight that waits for a bank (07 R129, R131). -/
theorem capture_slotted {x : Scan} (waits : d.Awaits x) {z : ZoneId} {p : PhaseRequest}
    (capture : (d.workOf started z).capture = some p) :
    InSlot d z p (d.strobeWork started lost timeSet) := by
  have hp : p ∈ d.captures started := mem_captures.mpr ⟨z, capture⟩
  have zone : p.zone = z := workOf_capture_zone capture
  have task : .scans (d.captures started) ∈ (d.order started lost timeSet).map Prod.fst :=
    mem_task_scans.mpr ⟨List.ne_nil_of_mem hp, rfl⟩
  have only : ∀ e ∈ d.order started lost timeSet, e.1 ≠ .scans (d.captures started) →
      ∀ l, e.1 ≠ .scans l := by
    intro e he ne l k
    have same := (mem_task_scans.mp (k ▸ mem_order_task he)).2
    exact ne (k.trans (congrArg StrobeTask.scans same))
  refine strobeWork_establish disjoint task
    (pre := fun v => v.se = d.se ∧ (v.zone z).missed = (d.zone z).missed)
    (post := InSlot d z p) ⟨?_, moved_missed disjoint z⟩ ?_ ?_ ?_
  · rw [strobeMoved_only disjoint]
  · intro v _ ⟨se, missed⟩ e he ne
    obtain ⟨sameSe, sameMissed⟩ := strobeEvent_slots e.2 (only e he ne) z
    exact ⟨sameSe.trans se, sameMissed.trans missed⟩
  · intro v h ⟨se, missed⟩ q _
    obtain ⟨slot, count⟩ := phaseRequests_slot (h.awaits x waits) hp captures_nodup
    subst zone
    refine ⟨slot, count.trans ?_⟩
    rw [se, missed]
    cases d.se.slots[p.zone] <;> rfl
  · intro v _ ⟨slot, missed⟩ e he ne
    obtain ⟨sameSe, sameMissed⟩ := strobeEvent_slots e.2 (only e he ne) z
    exact ⟨by rw [sameSe]; exact slot, sameMissed.trans missed⟩

/-! ### The alarm list -/

theorem moved_sameList : SameList d (d.strobeMoved started) := by
  rw [strobeMoved_only disjoint]
  exact ⟨rfl, rfl⟩

/-- Without a raise, a sync loss that reaches a zone, or a scan, the alarm list stands (06 R118). -/
theorem list_stands (quiet : ¬ Scanned d started) (none : ∀ r, ¬ Raises d started lost r) :
    SameList d (d.strobeWork started lost timeSet) := by
  refine strobeWork_keeps disjoint (moved_sameList disjoint) fun v h same e he =>
    same.trans (strobeEvent_silent ?_ e.2)
  have task := mem_order_task he
  cases x : e.1 with
  | raise src y s => exact none (src, y, s) (.inl (mem_task_raise.mp (x ▸ task)))
  | loss y =>
    exact h.not_moving fun was => none _ (.inr ⟨y, (mem_task_loss.mp (x ▸ task)).1, was, rfl⟩)
  | scans l => exact h.scans_wait quiet (x ▸ task)
  | frame b => trivial

/-- The own move of a zone in RUN or HOLD leaves it in RUN or HOLD. -/
theorem moved_moving {z : ZoneId} (was : (d.zone z).state = .run ∨ (d.zone z).state = .hold) :
    ((d.strobeMoved started).zone z).state = .run ∨ ((d.strobeMoved started).zone z).state = .hold := by
  have state := (workOf_same d started z).state
  rcases strobeMoved_zone_or (started := started) disjoint z with ⟨-, e⟩ | ⟨s, -⟩ | ⟨-, e⟩ | ⟨u, -⟩ |
    ⟨-, -, -, e⟩
  · rw [e]; exact state.symm ▸ was
  · simp [s.1] at was
  · rw [e]; exact .inr rfl
  · simp [u] at was
  · rw [e]; exact state.symm ▸ was

/-- The cycle count that a raise for zone `z` is stamped with when it finds `q` (06 R117, R118). -/
def Seen.cycle (q : Seen) (d : State) (z : ZoneId) : Option Nat :=
  if (d.zone z).memberList.any fun a => q.chans[a].wasCycling then some q.counts[z] else none

/-- The entry of a source's first raise at a strobe. -/
def Seen.entry (q : Seen) (d : State) (src : AlarmSource) (z : ZoneId) (v : Severity) : AlarmEntry :=
  ⟨src, z, v, d.hall, q.cycle d z, 1, false⟩

theorem Underway.entry {v : State} (h : Underway d started v) (q : Seen) (src : AlarmSource) (z : ZoneId)
    (s : Severity) : (q.stamp v src z s).entry v.hall = q.entry d src z s := by
  have members : (v.zone z).memberList = (d.zone z).memberList := by
    unfold Zone.memberList Zone.has
    rw [h.members disjoint]
  rw [Raise.entry, Seen.stamp, Seen.entry, Seen.cycle, h.hall, members]

/-- One raise or sync loss alone joins the list (06 R117, R118). -/
theorem list_grows_of_task {x : StrobeTask} {src : AlarmSource} {z : ZoneId} {s : Severity}
    (hx : x ∈ (d.order started lost timeSet).map Prod.fst)
    (silent : ∀ v, Underway d started v → ∀ e ∈ d.order started lost timeSet, e.1 ≠ x → v.Silent e.1)
    (joins : ∀ v q, Underway d started v → SameList d v →
      (∀ y, ((d.strobeMoved started).zone y).SameButMissed (v.zone y)) →
      (v.strobeEvent q x).zs.alarms = v.zs.alarms ++ [(q.stamp v src z s).entry v.hall] ∧
        (v.strobeEvent q x).zs.overflow = v.zs.overflow) :
    ∃ q, (x, q) ∈ d.order started lost timeSet ∧
      (d.strobeWork started lost timeSet).zs.overflow = d.zs.overflow ∧
      (d.strobeWork started lost timeSet).zs.alarms = d.zs.alarms ++ [q.entry d src z s] := by
  refine strobeWork_establish disjoint hx
    (pre := fun v => SameList d v ∧ ∀ y, ((d.strobeMoved started).zone y).SameButMissed (v.zone y))
    (post := fun v => ∃ q, (x, q) ∈ d.order started lost timeSet ∧ v.zs.overflow = d.zs.overflow ∧
      v.zs.alarms = d.zs.alarms ++ [q.entry d src z s])
    ⟨moved_sameList disjoint, fun y => .refl _⟩ ?_ ?_ ?_
  · intro v h ⟨list, zones⟩ e he ne
    have still := silent v h e he ne
    exact ⟨list.trans (strobeEvent_silent still e.2),
      fun y => (zones y).trans (strobeEvent_spares (still.spares y) e.2)⟩
  · intro v h ⟨list, zones⟩ q hq
    obtain ⟨alarms, overflow⟩ := joins v q h list zones
    rw [h.entry disjoint, list.1] at alarms
    exact ⟨q, hq, overflow.trans list.2, alarms⟩
  · intro v h ⟨q, hq, overflow, alarms⟩ e he ne
    have same := strobeEvent_silent (silent v h e he ne) e.2
    exact ⟨q, hq, same.2.trans overflow, same.1.trans alarms⟩

variable {src : AlarmSource} {z : ZoneId} {s : Severity}

/-- The one raise of a strobe that raises nothing else joins the list, stamped as it finds its zone
(06 R117, R118; log 10). -/
theorem list_grows (quiet : ¬ Scanned d started) (told : lost = true → ∀ z, started z = false)
    (raises : Raises d started lost (src, z, s)) (alone : ∀ r, Raises d started lost r → r = (src, z, s))
    (fresh : ∀ e ∈ d.zs.alarms, e.source ≠ src) (room : d.zs.alarms.length < 16) :
    ∃ x q, Finds d started x q ∧ (∀ a, src = .actuator a → x = .raise (.actuator a) z s) ∧
      (d.strobeWork started lost timeSet).zs.overflow = d.zs.overflow ∧
      (d.strobeWork started lost timeSet).zs.alarms = d.zs.alarms ++ [q.entry d src z s] := by
  have joins : ∀ v (q : Seen), SameList d v → (v.raise (q.stamp v src z s)).zs.alarms =
      v.zs.alarms ++ [(q.stamp v src z s).entry v.hall] ∧
      (v.raise (q.stamp v src z s)).zs.overflow = v.zs.overflow := fun v q list =>
    raise_newEntry (by rw [list.1]; exact fresh) (by rw [list.1]; exact room)
  have reached : ∀ v, Underway d started v → ∀ y, .loss y ∈ (d.order started lost timeSet).map Prod.fst →
      ((v.zone y).state = .run ∨ (v.zone y).state = .hold) → (.sync y, y, .info) = (src, z, s) := by
    intro v h y task moving
    by_contra other
    exact h.not_moving (fun was => other (alone _ (.inr ⟨y, (mem_task_loss.mp task).1, was, rfl⟩))) moving
  rcases raises with raised | ⟨y, isLost, was, e⟩
  · have silent : ∀ v, Underway d started v → ∀ e ∈ d.order started lost timeSet, e.1 ≠ .raise src z s →
        v.Silent e.1 := by
      intro v h e he ne
      have task := mem_order_task he
      cases x : e.1 with
      | raise src' y s' =>
        have same := alone _ (.inl (mem_task_raise.mp (x ▸ task)))
        cases same
        exact ne x
      | loss y => exact fun moving => not_raised_sync (reached v h y (x ▸ task) moving ▸ raised)
      | scans l => exact h.scans_wait quiet (x ▸ task)
      | frame b => trivial
    obtain ⟨q, hq, overflow, alarms⟩ := list_grows_of_task disjoint (mem_task_raise.mpr raised) silent
      fun v q _ list _ => joins v q list
    exact ⟨_, q, order_finds disjoint hq, fun a k => (by rw [k]), overflow, alarms⟩
  · cases e
    have silent : ∀ v, Underway d started v → ∀ e ∈ d.order started lost timeSet, e.1 ≠ .loss z →
        v.Silent e.1 := by
      intro v h e he ne
      have task := mem_order_task he
      cases x : e.1 with
      | raise src' y s' =>
        have raised := mem_task_raise.mp (x ▸ task)
        exact not_raised_sync (alone _ (.inl raised) ▸ raised)
      | loss y =>
        intro moving
        cases reached v h y (x ▸ task) moving
        exact ne x
      | scans l => exact h.scans_wait quiet (x ▸ task)
      | frame b => trivial
    have task := (mem_task_loss (d := d) (timeSet := timeSet)).mpr ⟨isLost, .inl (told isLost z)⟩
    obtain ⟨q, hq, overflow, alarms⟩ := list_grows_of_task (src := .sync z) (z := z) (s := .info) disjoint
      task silent fun v q _ list zones => by
        have moving : (v.zone z).state = .run ∨ (v.zone z).state = .hold := by
          rw [(zones z).state]; exact moved_moving disjoint was
        obtain ⟨alarms, overflow⟩ := joins v q list
        have same := holdZone_sameList (v.raise (q.stamp v (.sync z) z .info)) z .sync
        rw [State.strobeEvent, syncLoss_of_moving (r := q.stamp v (.sync z) z .info) moving]
        exact ⟨same.1.trans alarms, same.2.trans overflow⟩
    exact ⟨_, q, order_finds disjoint hq, nofun, overflow, alarms⟩

end

/-! ### The stamp (06 R117, R118; log 10) -/

section
variable {d : State} {started : ZoneId → Bool} {x : StrobeTask} {q : Seen} (h : Finds d started x q)

/-- A raise finds channel `a` as this strobe's update leaves it. -/
def Seen.after (q : Seen) (d : State) (started : ZoneId → Bool) (a : ActId) : Bool :=
  decide (q.chans[a] = (d.updateOf started a).1) || decide (q.chans[a] = heldMember (d.updateOf started a).1)

theorem after_iff (a : ActId) : q.after d started a = true ↔ UpdatedAs d started a q.chans[a] := by
  rw [Seen.after, Bool.or_eq_true, decide_eq_true_eq, decide_eq_true_eq, UpdatedAs]

include h

theorem Finds.wasCycling (a : ActId) :
    (if q.after d started a then (d.updated started).chan a else d.chan a).wasCycling =
      q.chans[a].wasCycling := by
  by_cases k : q.after d started a = true
  · rw [if_pos k, ((after_iff a).mp k).wasCycling]
  · rw [if_neg k, (h.chans a).resolve_right (mt (after_iff a).mpr k)]

/-- A member is cycling as the raise finds it. -/
theorem Finds.cycling_iff (z : ZoneId) : ((d.zone z).memberList.any fun a => q.chans[a].wasCycling) = true ↔
    ∃ a : ActId, (d.zone z).members.getLsbD a = true ∧
      (if q.after d started a then (d.updated started).chan a else d.chan a).wasCycling = true := by
  rw [Zone.any_member]
  simp only [h.wasCycling]

end

end Sys2Proof.Machine
end

section
/-! A strobe as a whole (02 R26 to R28; 06 R109, R111 to R120; logs 8 to 11): the rule, from the parts before. -/

namespace Sys2Proof.Machine
open Host Statements

section
variable (d : State) (started : ZoneId → Bool) (lost timeSet : Bool)

/-- What the events of a strobe's work hand over, in the statements' form. -/
theorem strobeWork_handed (disjoint : OneZoneEach d) : d.strobeWork started lost timeSet =
    (d.order started lost timeSet).foldl (fun v e => handed v e.2 e.1) (d.strobeMoved started) := by
  rw [strobeWork_eq disjoint]
  simp only [handed_eq]

theorem strobeWork_aes (n : AeId) :
    (d.cm.aes[n].enabled = true ∧ WrapAt d d.cm.aes[n].zone →
      (d.strobeWork started lost timeSet).cm.aes[n] = d.cm.aes[n].windowWork.1) ∧
    (d.cm.aes[n].enabled = false ∨ ¬ WrapAt d d.cm.aes[n].zone →
      (d.strobeWork started lost timeSet).cm.aes[n] = d.cm.aes[n]) := by
  rw [(strobeWork_inner d started lost timeSet).cm]
  obtain ⟨due, idle⟩ := strobeUpdated_aes (d := d) (started := started) n
  refine ⟨due, fun h => idle fun ⟨enabled, wrap⟩ => ?_⟩
  rcases h with off | none
  · rw [off] at enabled; exact absurd enabled (by decide)
  · exact none wrap

variable {d} (disjoint : OneZoneEach d)
include disjoint

theorem strobeMoved_frame : d.strobeMoved started = { d with
    ac := (d.strobeMoved started).ac
    cm := { d.cm with aes := (d.strobeWork started lost timeSet).cm.aes }
    zs := { d.zs with zones := (d.strobeMoved started).zs.zones }
    lp := { d.lp with alarmPending := (d.strobeMoved started).lp.alarmPending }, free := d.free + 1 } := by
  rw [(underway_work disjoint lost timeSet).moved.cm]
  exact strobeMoved_only disjoint started

theorem strobeMoved_chan_zoneOf (a : ActId) :
    ((∃ z, d.zoneOf a = some z ∧ EndedAt d started z) →
      (d.strobeMoved started).chan a = heldMember (d.updateOf started a).1) ∧
    ((∀ z, d.zoneOf a = some z → ¬ EndedAt d started z) →
      (d.strobeMoved started).chan a = (d.updateOf started a).1) := by
  refine ⟨fun ⟨z, zone, ended⟩ =>
    (strobeMoved_chan disjoint started ((zoneOf_eq_some_iff disjoint).mp zone)).1 ended, fun none => ?_⟩
  cases zone : d.zoneOf a with
  | none => exact strobeMoved_chan_others disjoint started (zoneOf_eq_none_iff.mp zone)
  | some z =>
    exact (strobeMoved_chan disjoint started ((zoneOf_eq_some_iff disjoint).mp zone)).2 (none z zone)

end

/-- The states a zone can be in after a strobe, by the state it was in (06 R111, R114, R115). -/
theorem Underway.states {d v : State} {started : ZoneId → Bool} (h : Underway d started v) (z : ZoneId) :
    ((d.zone z).state = .idle → (v.zone z).state = .idle) ∧
    ((d.zone z).state = .safe → (v.zone z).state = .safe) ∧
    ((d.zone z).state = .ready → (v.zone z).state = .ready ∨ (v.zone z).Gone) ∧
    ((d.zone z).state = .run → (v.zone z).state = .run ∨ (v.zone z).state = .hold ∨ (v.zone z).Gone) ∧
    ((d.zone z).state = .hold → (v.zone z).state = .hold ∨ (v.zone z).Gone) ∧
    ((d.zone z).state = .unload → (v.zone z).Gone) := by
  rw [← (workOf_same d started z).state]
  have later := h.later z
  exact ⟨later.idle, later.safe, later.ready, later.run, later.hold, later.unload⟩

/-- An AE channel of a zone that wraps, with a full window, raises (10 R183). -/
theorem raised_of_window {d : State} {started : ZoneId → Bool} {z : ZoneId} {s : Severity} (n : AeId)
    (h : d.cm.aes[n].enabled = true ∧ d.cm.aes[n].zone = z ∧ d.cm.aes[n].severity = s ∧ WrapAt d z ∧
      d.cm.aes[n].windowWork.2 = true) : Raised d started (.ae n, z, s) := by
  obtain ⟨enabled, rfl, rfl, wrap, full⟩ := h
  exact .inr (.inr ⟨n, enabled, wrap, full, rfl⟩)

/-- The cycle count in a new entry, by what the raise finds (06 R118; log 10). -/
theorem Finds.cycle {d v : State} {started : ZoneId → Bool} {x : StrobeTask} {q : Seen}
    (h : Finds d started x q) (way : Underway d started v) {z : ZoneId}
    (cycling : ((d.zone z).memberList.any fun a => q.chans[a].wasCycling) = true) :
    q.cycle d z = some (d.zone z).cycleCount ∨ q.cycle d z = some (v.zone z).cycleCount := by
  rw [Seen.cycle, if_pos cycling, (way.config z).cycleCount]
  exact (h.counts z).imp (congrArg some) (congrArg some)

/-- The start decision of a zone by its cases (06 R109). -/
theorem decideStarts_cases (t : State) (z : ZoneId) :
    let due : Prop := (t.zone z).state = .ready ∧ ∃ T, (t.zone z).pendingStart = some T ∧ T ≤ t.strobeHall
    (t.starts z = true ↔ due ∧ t.scv.zeroOp = none ∧ ¬ Blocked t z) ∧
    (¬ due → t.decideStarts.zone z = t.zone z) ∧
    (due → t.scv.zeroOp ≠ none →
      t.decideStarts.zone z = { t.zone z with pendingStart := none, lastStart := .late }) ∧
    (due → t.scv.zeroOp = none → Blocked t z →
      t.decideStarts.zone z = { t.zone z with pendingStart := none, lastStart := .cancelled }) ∧
    (t.starts z = true → t.decideStarts.zone z = (t.zone z).enterRun t.strobeHall) := by
  intro due
  have due_iff : (t.zone z).startsAt t.strobeHall = true ↔ due := startsAt_iff _ _
  rw [(decideStarts_spec t).2 z]
  exact ⟨starts_iff t z, fun h => startOf_notDue (mt due_iff.mp h), fun h => startOf_late (due_iff.mpr h),
    fun h => startOf_cancelled (due_iff.mpr h), startOf_starts⟩

/-- Settles O39: the commands that issue a strobe, its start decisions, its events in their order, and where
its zones, its channels and the alarm list then stand. -/
theorem strobeWorkRule : Obligations.StrobeWorkRule := by
  refine ⟨fun s t ht => ⟨fun h => exec_oscillatorStrobe h ht, fun follows sync run =>
    exec_substituteStrobe follows sync run ht⟩, fun s follows sync late => exec_syncEdge_strobe follows sync late,
    fun s src lost => ?_, fun d started lost timeSet disjoint => ?_⟩
  · refine ⟨(s.tbStrobe src).decideStarts, (s.tbStrobe src).starts, strobe_eq s src lost, decideStarts_eq s src,
      decideStarts_alarmPending (s.tbStrobe src), (decideStarts_scv s src).1, (decideStarts_scv s src).2,
      fun z => ?_⟩
    have cases := decideStarts_cases (s.tbStrobe src) z
    rw [tbStrobe_zeroOp] at cases
    rw [(decideStarts_spec (s.tbStrobe src)).1.tb]
    exact cases
  have way := underway_work (started := started) disjoint lost timeSet
  refine ⟨fun a none => by rw [State.viewOf, none]; rfl,
    fun a z zone => viewOf_member disjoint started ((zoneOf_eq_some_iff disjoint).mp zone),
    fun a => ⟨updated_chan d started a, way.chan disjoint a, way.chan_updated disjoint,
      fun z => way.chan_held disjoint⟩, strobeWork_aes d started lost timeSet,
    ⟨d.strobeMoved started, d.order started lost timeSet, strobeWork_handed d started lost timeSet disjoint,
      strobeMoved_frame started lost timeSet disjoint, strobeMoved_alarmPending disjoint started,
      strobeMoved_chan_zoneOf started disjoint, strobeMoved_zone_cases disjoint started,
      order_nodup d started lost timeSet, fun _ _ _ => mem_task_raise,
      fun z => ⟨fun h => (mem_task_loss.mp h).1, fun told before => mem_task_loss.mpr ⟨told, .inl before⟩⟩,
      fun _ => mem_task_scans, fun _ => mem_task_frame, fun e he => ?_, order_pairwise disjoint lost timeSet⟩,
    list_stands disjoint, ?_, fun z => ?_⟩
  · have finds := order_finds disjoint he
    exact ⟨fun a => ⟨finds.chans a, finds.updated a⟩, fun z => ⟨finds.counts z, finds.wrapped z⟩⟩
  · intro quiet told src z severity raises alone fresh room
    obtain ⟨x, q, finds, updated, overflow, alarms⟩ :=
      list_grows (timeSet := timeSet) disjoint quiet told raises alone fresh room
    exact ⟨q.after d started, q.cycle d z, overflow, alarms,
      fun none => if_neg (mt (finds.cycling_iff z).mp none),
      fun cycling => finds.cycle way ((finds.cycling_iff z).mpr cycling),
      fun a k => (after_iff a).mpr (finds.updated a z severity (updated a k))⟩
  · have config := way.config z
    obtain ⟨idle, safe, ready, run, hold, unload⟩ := way.states z
    exact ⟨⟨config.cycleCount, config.counter, config.latestN, config.guardRun, config.guardSum⟩,
      idle, safe, ready, run, hold, unload, way.hold_of_run disjoint z, way.cleared disjoint z,
      way.ramped disjoint z, way.unloaded disjoint z, way.unloadFirst disjoint z, way.ended disjoint z,
      lost_holds disjoint, fun was ⟨n, window⟩ => raised_minor_holds disjoint (raised_of_window n window) was,
      fun was why => by
        rcases why with ⟨a, zone, fault⟩ | total | ⟨n, window⟩
        · exact raised_major_gone disjoint (.inl ⟨a, z, zone, fault, rfl⟩) was
        · exact raised_major_gone disjoint (.inr (.inl ⟨z, total, rfl⟩)) was
        · exact raised_major_gone disjoint (raised_of_window n window) was,
      fun quiet => zone_stays disjoint quiet, fun quiet => zone_rampsOn disjoint quiet, way.unload_stays disjoint z,
      fun p q captured scan waits => capture_slotted disjoint ⟨scan, waits⟩ captured⟩

end Sys2Proof.Machine
end

section
/-! What payloads carry: segments cut from their bytes and read field by field (03 R37; 12 R204, R205), and the
fields of CONFIGURE CAPTURE (11 R189). -/

namespace Sys2Proof.Machine
open Host Statements

/-! ### Bytes -/

theorem field_byte_le (p : List Byte) (off : Nat) : field p off 1 ≤ 255 := by
  unfold field beNat
  cases p.drop off with
  | nil => simp
  | cons b l =>
    have := b.isLt
    simp
    omega

theorem field_cons_zero (k : Byte) (l : List Byte) : field (k :: l) 0 1 = k.toNat := by
  simp [field, beNat]

/-! ### Lists read element by element -/

theorem readAll_eq_some {α β : Type} {f : α → Option β} : ∀ {l : List α} {ys : List β},
    readAll f l = some ys ↔ l.map f = ys.map some
  | [], ys => by cases ys <;> simp [readAll]
  | x :: xs, ys => by
    unfold readAll
    cases hx : f x with
    | none => cases ys <;> simp [hx]
    | some y =>
      cases hr : readAll f xs with
      | none =>
        cases ys with
        | nil => simp
        | cons z zs =>
          have tail : xs.map f ≠ zs.map some := fun e => by simp [readAll_eq_some.mpr e] at hr
          simp [tail]
      | some zs =>
        have tail := readAll_eq_some.mp hr
        cases ys <;> simp [hx, tail, (Option.some_injective β).list_map.eq_iff]

theorem readAll_length {α β : Type} {f : α → Option β} {l : List α} {ys : List β}
    (h : readAll f l = some ys) : ys.length = l.length := by
  simpa using (congrArg List.length (readAll_eq_some.mp h)).symm

/-- A list all of whose elements can be read. -/
theorem readAll_of_forall {α β : Type} {f : α → Option β} : ∀ {l : List α},
    (∀ x ∈ l, ∃ y, f x = some y) → ∃ ys, readAll f l = some ys
  | [], _ => ⟨[], rfl⟩
  | x :: xs, h => by
    obtain ⟨y, hy⟩ := h x List.mem_cons_self
    obtain ⟨ys, hys⟩ := readAll_of_forall fun z hz => h z (List.mem_cons_of_mem x hz)
    exact ⟨y :: ys, by simp [readAll, hy, hys]⟩

/-! ### Cutting the segments (12 R205) -/

/-- Bytes as long as the kind in their first byte says. -/
def IsSegment (b : List Byte) : Prop := segmentLen (field b 0 1) = some b.length

theorem segmentLen_eq_some {k len : Nat} : segmentLen k = some len ↔
    (len = 13 ∧ k = 1) ∨ (len = 9 ∧ k = 2) ∨ (len = 19 ∧ k = 3) := by
  unfold segmentLen
  split <;> simp_all [eq_comm]

theorem isSegment_iff (b : List Byte) : IsSegment b ↔ (b.length = 13 ∧ field b 0 1 = 1) ∨
    (b.length = 9 ∧ field b 0 1 = 2) ∨ (b.length = 19 ∧ field b 0 1 = 3) := segmentLen_eq_some

theorem IsSegment.ne_nil {b : List Byte} (h : IsSegment b) : b ≠ [] := by
  rintro rfl
  rcases (isSegment_iff []).mp h with ⟨l, -⟩ | ⟨l, -⟩ | ⟨l, -⟩ <;> cases l

/-- One segment is cut off, and the others from the bytes behind it. -/
theorem cutSegments_succ {n : Nat} {bytes : List Byte} {cuts : List (List Byte)} :
    cutSegments (n + 1) bytes = some cuts ↔ ∃ b tail rest, IsSegment b ∧ bytes = b ++ tail ∧
      cutSegments n tail = some rest ∧ cuts = b :: rest := by
  constructor
  · intro h
    unfold cutSegments at h
    split at h; · cases h
    rename_i k l
    split at h; · cases h
    rename_i len hlen
    split at h; · cases h
    rename_i room
    obtain ⟨rest, hrest, rfl⟩ := Option.map_eq_some_iff.mp h
    refine ⟨(k :: l).take len, (k :: l).drop len, rest, ?_, (List.take_append_drop ..).symm, hrest, rfl⟩
    have taken : ((k :: l).take len).length = len := by
      rw [List.length_take]
      omega
    have pos : len ≠ 0 := by
      rcases segmentLen_eq_some.mp hlen with ⟨rfl, -⟩ | ⟨rfl, -⟩ | ⟨rfl, -⟩ <;> decide
    obtain ⟨m, rfl⟩ := Nat.exists_eq_succ_of_ne_zero pos
    rw [IsSegment, taken, List.take_succ_cons, field_cons_zero]
    exact hlen
  · rintro ⟨b, tail, rest, hb, rfl, hrest, rfl⟩
    obtain ⟨k, l, rfl⟩ := List.exists_cons_of_ne_nil hb.ne_nil
    have hlen : segmentLen k.toNat = some (k :: l).length := by rwa [IsSegment, field_cons_zero] at hb
    have room : ¬ ((k :: l) ++ tail).length < (k :: l).length := by simp
    unfold cutSegments
    rw [List.cons_append]
    dsimp only
    rw [hlen]
    dsimp only
    rw [← List.cons_append, if_neg room, List.drop_left, List.take_left, hrest]
    rfl

/-- The cuts are segments that make up the bytes. -/
theorem cutSegments_eq_some : ∀ {n : Nat} {bytes : List Byte} {cuts : List (List Byte)},
    cutSegments n bytes = some cuts ↔ cuts.length = n ∧ cuts.flatten = bytes ∧ ∀ b ∈ cuts, IsSegment b
  | 0, bytes, cuts => by
    cases bytes with
    | nil =>
      rw [cutSegments, List.length_eq_zero_iff]
      constructor
      · rintro ⟨⟩; simp
      · rintro ⟨rfl, -⟩; rfl
    | cons b l =>
      rw [cutSegments, List.length_eq_zero_iff]
      constructor
      · rintro ⟨⟩
      · rintro ⟨rfl, h, -⟩; cases h
  | n + 1, bytes, cuts => by
    rw [cutSegments_succ]
    constructor
    · rintro ⟨b, tail, rest, hb, rfl, hrest, rfl⟩
      obtain ⟨hl, hf, hs⟩ := cutSegments_eq_some.mp hrest
      exact ⟨by rw [List.length_cons, hl], by rw [List.flatten_cons, hf], List.forall_mem_cons.mpr ⟨hb, hs⟩⟩
    · rintro ⟨hl, rfl, hs⟩
      obtain ⟨b, rest, rfl⟩ := List.exists_cons_of_length_eq_add_one hl
      obtain ⟨hb, hs⟩ := List.forall_mem_cons.mp hs
      exact ⟨b, rest.flatten, rest, hb, rfl, cutSegments_eq_some.mpr ⟨Nat.succ.inj hl, rfl, hs⟩, rfl⟩

/-- As many segments are read as the count says. -/
theorem segments_length {n : Nat} {bytes : List Byte} {cuts : List (List Byte)} {segs : List Segment}
    (hc : cutSegments n bytes = some cuts) (hs : readAll readSegment cuts = some segs) : segs.length = n :=
  (readAll_length hs).trans (cutSegments_eq_some.mp hc).1

/-! ### The fields of a segment (03 R37) -/

/-- The code of a segment's end action, which stands at `off`: 0 where its presence bit does not stand. -/
def actionCode (b : List Byte) (off bits : Nat) : Nat := if bits.testBit 2 then field b off 1 else 0

/-- A segment's tag, which stands at `off`, where its presence bit stands. -/
def tagAt (b : List Byte) (off bits : Nat) : Option Nat :=
  if bits.testBit 1 then some (field b off 2) else none

/-- The end action of a code. -/
def actionOf (code : Nat) : EndAction := if code = 1 then .holdZone else .next

theorem segmentTail_eq (b : List Byte) (off bits : Nat) : segmentTail b off bits =
    if actionCode b (off + 2) bits ≤ 1 then some (tagAt b off bits, actionOf (actionCode b (off + 2) bits))
    else none := by
  unfold segmentTail actionCode
  by_cases h : bits.testBit 2 = true
  · rw [if_pos h, if_pos h]
    split
    · rename_i e; rw [e]; rfl
    · rename_i e; rw [e]; rfl
    · rename_i e0 e1
      rw [if_neg]
      have e0 : field b (off + 2) 1 ≠ 0 := e0
      have e1 : field b (off + 2) 1 ≠ 1 := e1
      omega
  · rw [if_neg h, if_neg h]
    rfl

/-- A kind's fields before the tail, and then its tail: all are in range, or nothing is read. -/
theorem readTail_cases {b : List Byte} {off bits : Nat} {test : Bool} {inRange : Prop}
    {make : Option Nat × EndAction → Segment}
    (h : test = true ∧ actionCode b (off + 2) bits ≤ 1 ↔ inRange) :
    (¬ inRange → (if test then (segmentTail b off bits).map make else none) = none) ∧
    (inRange → (if test then (segmentTail b off bits).map make else none) =
      some (make (tagAt b off bits, actionOf (actionCode b (off + 2) bits)))) := by
  rw [segmentTail_eq, ← h]
  constructor
  · intro no
    by_cases ht : test = true
    · rw [if_pos ht, if_neg fun k => no ⟨ht, k⟩]
      rfl
    · rw [if_neg ht]
  · rintro ⟨ht, hk⟩
    rw [if_pos ht, if_pos hk]
    rfl

theorem inForce_iff (x : Int) : inForce x = true ↔ -3000000 ≤ x ∧ x ≤ 3000000 := by
  rw [inForce, Bool.and_eq_true, decide_eq_true_eq, decide_eq_true_eq]
  rfl

/-! ### The fields of CONFIGURE CAPTURE (11 R189) -/

theorem Signal.ofCode_eq_some {kind i : Nat} {x : Signal} :
    Signal.ofCode kind i = some x ↔ x.code = (kind, i) := by
  constructor
  · intro h
    unfold Signal.ofCode at h
    split at h
    case h_6 => cases h
    all_goals
      obtain ⟨a, ha, rfl⟩ := Option.map_eq_some_iff.mp h
      rw [index?_eq_some.mp ha]
      rfl
  · have own : Signal.ofCode x.code.1 x.code.2 = some x := by
      cases x <;> exact congrArg (Option.map _) (index?_eq_some.mpr rfl)
    intro h
    rw [h] at own
    exact own

/-- The codes of the capture signals. -/
def SignalCode (kind i : Nat) : Prop := 1 ≤ kind ∧ kind ≤ 5 ∧ (kind ≤ 4 → i ≤ 7)

theorem Signal.code_range (x : Signal) : SignalCode x.code.1 x.code.2 := by
  cases x <;> simp [Signal.code, SignalCode] <;> omega

/-- Of two bytes that name a capture signal. -/
theorem Signal.exists_ofCode {kind i : Nat} (h : SignalCode kind i) (hi : i ≤ 255) :
    ∃ x, Signal.ofCode kind i = some x := by
  obtain ⟨low, high, act⟩ := h
  simp only [Signal.ofCode_eq_some]
  rcases (by omega : kind = 1 ∨ kind = 2 ∨ kind = 3 ∨ kind = 4 ∨ kind = 5) with rfl | rfl | rfl | rfl | rfl
  · exact ⟨.actForce ⟨i, by omega⟩, rfl⟩
  · exact ⟨.actCommand ⟨i, by omega⟩, rfl⟩
  · exact ⟨.actStroke ⟨i, by omega⟩, rfl⟩
  · exact ⟨.actValve ⟨i, by omega⟩, rfl⟩
  · exact ⟨.gauge ⟨i, by omega⟩, rfl⟩

theorem TriggerSeverity.ofCode_eq_some {v : Nat} {x : TriggerSeverity} :
    TriggerSeverity.ofCode v = some x ↔ x.code = v := by
  constructor
  · intro h
    unfold TriggerSeverity.ofCode at h
    split at h <;> cases h <;> rfl
  · rintro rfl
    cases x <;> rfl

theorem TriggerSeverity.exists_ofCode {v : Nat} (h : v ≤ 3) : ∃ x, TriggerSeverity.ofCode v = some x := by
  simp only [TriggerSeverity.ofCode_eq_some]
  rcases (by omega : v = 0 ∨ v = 1 ∨ v = 2 ∨ v = 3) with rfl | rfl | rfl | rfl
  exacts [⟨.off, rfl⟩, ⟨.info, rfl⟩, ⟨.minor, rfl⟩, ⟨.major, rfl⟩]

theorem flag?_eq_some {v : Nat} {b : Bool} : flag? v = some b ↔ v = b.toNat := by
  constructor
  · intro h
    unfold flag? at h
    split at h
    · cases h; assumption
    split at h
    · cases h; assumption
    · cases h
  · exact flag?_of_eq b

section
variable {p : List Byte} {n : Nat}

/-- The i-th signal of a capture configuration's payload. -/
def readSignal (p : List Byte) (i : Nat) : Option Signal :=
  Signal.ofCode (field p (1 + 2 * i) 1) (field p (2 + 2 * i) 1)

theorem readSignals_code {signals : List Signal} (h : readAll (readSignal p) (List.range n) = some signals)
    {i : Nat} {x : Signal} (hx : signals[i]? = some x) :
    x.code = (field p (1 + 2 * i) 1, field p (2 + 2 * i) 1) := by
  have row := congrArg (·[i]?) (readAll_eq_some.mp h)
  simp only [List.getElem?_map, hx, Option.map_some] at row
  obtain ⟨j, hj, code⟩ := Option.map_eq_some_iff.mp row
  obtain ⟨_, rfl⟩ := List.getElem?_eq_some_iff.mp hj
  rw [List.getElem_range] at code
  exact Signal.ofCode_eq_some.mp code

theorem readSignals_range {signals : List Signal} (h : readAll (readSignal p) (List.range n) = some signals)
    {i : Nat} (hi : i < n) : SignalCode (field p (1 + 2 * i) 1) (field p (2 + 2 * i) 1) := by
  have length : i < signals.length := by rwa [readAll_length h, List.length_range]
  have code := readSignals_code h (List.getElem?_eq_getElem length)
  have range := signals[i].code_range
  rwa [code] at range

theorem exists_readSignals (h : ∀ i, i < n → SignalCode (field p (1 + 2 * i) 1) (field p (2 + 2 * i) 1)) :
    ∃ signals, readAll (readSignal p) (List.range n) = some signals :=
  readAll_of_forall fun i hi => Signal.exists_ofCode (h i (List.mem_range.mp hi)) (field_byte_le p _)

/-- A configuration that is read from a payload, field by field. -/
theorem readCapture_eq_some {cfg : CaptureConfig} : readCapture p n = some cfg ↔
    (1 ≤ n ∧ n ≤ 8 ∧ field p (1 + 2 * n) 2 ≤ 2047 ∧ field p (1 + 2 * n + 3) 1 < 16) ∧
    readAll (readSignal p) (List.range n) = some cfg.signals ∧
    cfg.pre = field p (1 + 2 * n) 2 ∧ cfg.severity.code = field p (1 + 2 * n + 2) 1 ∧
    cfg.zoneMask = BitVec.ofNat 4 (field p (1 + 2 * n + 3) 1) ∧
    field p (1 + 2 * n + 4) 1 = cfg.continues.toNat := by
  obtain ⟨signals, pre, severity, zoneMask, continues⟩ := cfg
  rw [← flag?_eq_some, ← TriggerSeverity.ofCode_eq_some]
  unfold readCapture
  dsimp only
  split
  · rename_i hs hv hc
    rw [show readAll (readSignal p) (List.range n) = some _ from hs, hv, hc]
    split
    · rename_i range
      simp only [Bool.and_eq_true, decide_eq_true_eq] at range
      obtain ⟨⟨⟨low, high⟩, hpre⟩, hmask⟩ := range
      simp only [Option.some.injEq, CaptureConfig.mk.injEq, low, high, hpre, hmask, true_and]
      tauto
    · rename_i range
      simp only [Bool.and_eq_true, decide_eq_true_eq, and_assoc] at range
      simp [range]
  · rename_i no
    exact ⟨nofun, fun ⟨_, hs, _, hv, _, hc⟩ => absurd hc (no _ _ _ hs hv)⟩

end

/-- Settles O23: the segments by the lengths of their kinds, each kind by its fields before the tail and its
tail, the capture configuration by the codes of its fields. -/
theorem segmentAndCaptureFields : Obligations.SegmentAndCaptureFields := by
  refine ⟨fun n bytes cuts => ?_, fun cuts segs => readAll_eq_some, fun b => ⟨?_, ?_, ?_⟩, fun p n => ?_⟩
  · simp only [← isSegment_iff]
    exact cutSegments_eq_some
  · intro kind
    unfold readSegment
    rw [kind]
    refine readTail_cases ?_
    simp only [Bool.and_eq_true, decide_eq_true_eq, Bool.not_eq_true', inForce_iff, and_assoc]
    rfl
  · intro kind
    unfold readSegment
    rw [kind]
    refine readTail_cases ?_
    simp only [Bool.and_eq_true, decide_eq_true_eq, Bool.not_eq_true', and_assoc]
    rfl
  · intro kind
    unfold readSegment
    rw [kind]
    refine readTail_cases ?_
    simp only [Bool.and_eq_true, decide_eq_true_eq, inForce_iff, and_assoc]
    rfl
  · intro off kind index inRange
    constructor
    · intro no
      cases h : readCapture p n with
      | none => rfl
      | some cfg =>
        obtain ⟨⟨low, high, pre, mask⟩, hs, -, hv, -, hc⟩ := readCapture_eq_some.mp h
        refine absurd ⟨low, high, fun i hi => ?_, pre, ?_, Nat.le_of_lt_succ mask, ?_⟩ no
        · exact readSignals_range hs hi
        · show field p (1 + 2 * n + 2) 1 ≤ 3
          rw [← hv]
          cases cfg.severity <;> decide
        · show field p (1 + 2 * n + 4) 1 ≤ 1
          rw [hc]
          exact Bool.toNat_le _
    · rintro ⟨low, high, codes, pre, severity, mask, flag⟩
      obtain ⟨signals, hs⟩ := exists_readSignals codes
      obtain ⟨v, hv⟩ := TriggerSeverity.exists_ofCode severity
      have hc : field p (off + 4) 1 = (decide (field p (off + 4) 1 = 1)).toNat := by
        rcases Nat.le_one_iff_eq_zero_or_eq_one.mp flag with e | e <;> rw [e] <;> rfl
      refine ⟨⟨signals, field p off 2, v, BitVec.ofNat 4 (field p (off + 3) 1),
        decide (field p (off + 4) 1 = 1)⟩, readCapture_eq_some.mpr
          ⟨⟨low, high, pre, Nat.lt_succ_of_le mask⟩, hs, rfl, TriggerSeverity.ofCode_eq_some.mp hv, rfl, hc⟩,
        ?_, ?_, rfl, TriggerSeverity.ofCode_eq_some.mp hv, ?_, decide_eq_true_eq⟩
      · rw [readAll_length hs, List.length_range]
      · exact fun i x => readSignals_code hs
      · show (field p (off + 3) 1) % 16 = _
        exact Nat.mod_eq_of_lt (Nat.lt_succ_of_le mask)

end Sys2Proof.Machine
end

section
/-! One channel keeps its gain, its queue, its limits and its valve output within their bounds: through its
program, its update, its requests (03 R36, 04 R72 and R74, 05 R92). -/

namespace Sys2Proof.Machine
open Host Statements

/-! ### What the bounds speak of -/

/-- `d` is as `c` in what the bounds speak of, its queue no longer. -/
structure Channel.SameBounds (c d : Channel) : Prop where
  state : d.state = c.state
  dryRun : d.dryRun = c.dryRun
  cfg : d.cfg = c.cfg
  valve : d.valve = c.valve
  gain : d.gain = c.gain
  queue : d.queueLen ≤ c.queueLen

theorem Channel.SameBounds.refl (c : Channel) : c.SameBounds c := ⟨rfl, rfl, rfl, rfl, rfl, Nat.le_refl _⟩

theorem Channel.SameBounds.trans {c d e : Channel} (h : c.SameBounds d) (k : d.SameBounds e) :
    c.SameBounds e :=
  ⟨k.state.trans h.state, k.dryRun.trans h.dryRun, k.cfg.trans h.cfg, k.valve.trans h.valve,
    k.gain.trans h.gain, k.queue.trans h.queue⟩

theorem Channel.SameBounds.channelOk {c d : Channel} (h : c.SameBounds d) (k : ChannelOk c) :
    ChannelOk d where
  gainLow := by rw [h.gain]; exact k.gainLow
  gainHigh := by rw [h.gain]; exact k.gainHigh
  queue := h.queue.trans k.queue
  limits := by rw [h.cfg]; exact k.limits
  valveLow := by rw [h.valve]; exact k.valveLow
  valveHigh := by rw [h.valve]; exact k.valveHigh
  valve := by rw [h.valve, h.state, h.dryRun]; exact k.valve

theorem Channel.SameButHold.sameBounds {c d : Channel} (h : c.SameButHold d) : c.SameBounds d := by
  rw [h]; exact ⟨rfl, rfl, rfl, rfl, rfl, Nat.le_refl _⟩

theorem Channel.SameButProgram.sameBounds {c d : Channel} (h : c.SameButProgram d)
    (queue : d.queueLen ≤ c.queueLen) : c.SameBounds d :=
  ⟨by rw [h], by rw [h], by rw [h], by rw [h], by rw [h], queue⟩

/-- An update is taken in STANDBY and in ACTIVE alone (04 R56). -/
def Channel.Live (c : Channel) : Prop := c.state ≠ .off ∧ c.state ≠ .fault

theorem Channel.SameBounds.live {c d : Channel} (h : c.SameBounds d) (k : c.Live) : d.Live := by
  rw [Channel.Live, h.state]
  exact k

/-- Outside OFF and FAULT the valve output need be 0 in dry run alone. -/
theorem Channel.Live.valve {c d : Channel} (on : d.Live) (h : ChannelOk c) (dryRun : d.dryRun = c.dryRun)
    (valve : d.valve = c.valve) (rest : d.state = .off ∨ d.state = .fault ∨ d.dryRun = true) : d.valve = 0 := by
  rcases rest with off | fault | dry
  · exact absurd off on.1
  · exact absurd fault on.2
  · rw [valve]
    exact h.valve (.inr (.inr (dryRun ▸ dry)))

/-- A channel whose valve output is 0. -/
theorem channelOk_of_still {c : Channel} (low : 8192 ≤ c.gain) (high : c.gain ≤ 32768)
    (queue : c.queueLen ≤ Config.programQueue) (limits : c.cfg.fMin ≤ c.cfg.fMax) (still : c.valve = 0) :
    ChannelOk c :=
  ⟨low, high, queue, limits, by rw [still]; decide, by rw [still]; decide, fun _ => still⟩

theorem clamp_mem {lo hi : Int} (h : lo ≤ hi) (x : Int) : lo ≤ clamp lo hi x ∧ clamp lo hi x ≤ hi :=
  ⟨le_min (le_max_right _ _) h, min_le_right _ _⟩

/-! ### The program's queue (03 R36, R42) -/

theorem Channel.queueLen_le (c : Channel) : c.queueLen ≤ c.queued.length + 1 := by
  unfold Channel.queueLen
  split <;> omega

theorem Channel.queueLen_of_some {c : Channel} {x : Current} (h : c.current = some x) :
    c.queueLen = c.queued.length + 1 := by
  simp [Channel.queueLen, h]

theorem Channel.queueLen_of_none {c : Channel} (h : c.current = none) : c.queueLen = c.queued.length := by
  simp [Channel.queueLen, h]

theorem Channel.advance_queued (c : Channel) (v : ZoneView) (x : Current) :
    (c.advance v x).chan.queued = c.queued := by
  cases x with
  | ramp g r => simp only [Channel.advance, Channel.advanceRamp]; split <;> rfl
  | dwell g l => simp only [Channel.advance, Channel.advanceDwell]; split <;> rfl
  | cycle g p =>
    cases p with
    | waiting => simp only [Channel.advance, Channel.advanceCycle]; split <;> rfl
    | cycling n =>
      simp only [Channel.advance, Channel.advanceCycle]
      split
      · split <;> rfl
      · rfl

theorem Channel.take_queued (c : Channel) (v : ZoneView) (b : Bool) (g : Segment) :
    (c.take v b g).chan.queued = c.queued := by
  cases g with
  | ramp g => exact c.advance_queued v (.ramp g 0)
  | dwell g => exact c.advance_queued v (.dwell g (2 * g.duration))
  | cycle g =>
    simp only [Channel.take]
    split <;> rfl

/-- The segment that becomes current has left the queue behind it (03 R42). -/
theorem Channel.consume_queueLen (c : Channel) (v : ZoneView) : (c.consume v).chan.queueLen ≤ c.queueLen := by
  unfold Channel.consume
  dsimp only
  split
  · rename_i x hx
    refine (Channel.queueLen_le _).trans ?_
    rw [Channel.advance_queued, c.queueLen_of_some hx]
  · rename_i none
    split
    · rename_i seg rest queued
      refine (Channel.queueLen_le _).trans ?_
      rw [Channel.take_queued, c.queueLen_of_none none, queued]
      exact Nat.le_refl _
    · unfold Channel.underrun
      split <;> exact Nat.le_refl _

theorem Channel.enterRun_queueLen (c : Channel) (v : ZoneView) : (c.enterRun v).queueLen = c.queueLen := by
  unfold Channel.enterRun
  split
  · rfl
  split
  · dsimp only
    split <;> rfl
  · rfl

theorem Channel.drop_queueLen (c : Channel) : c.drop.queueLen ≤ c.queueLen := by
  rw [Channel.drop_eq]
  exact Nat.le_add_right _ _

theorem Channel.profile_queueLen (c : Channel) (view : Option ZoneView) :
    (c.profile view).chan.queueLen ≤ c.queueLen := by
  cases view with
  | none => exact Nat.le_refl _
  | some v =>
    unfold Channel.profile
    dsimp only
    cases v.state with
    | idle => exact Nat.le_refl _
    | ready => exact Nat.le_refl _
    | run => exact (Channel.consume_queueLen _ v).trans (c.enterRun_queueLen v).le
    | hold =>
      simp only [Channel.holdProfile]
      split <;> exact Nat.le_refl _
    | unload => exact c.drop_queueLen
    | safe => exact Nat.le_refl _

/-! ### The update (04 R57) -/

theorem Channel.compensate_channelOk {c : Channel} (h : ChannelOk c) : ChannelOk c.compensate := by
  unfold Channel.compensate
  split
  · exact h
  · dsimp only
    split
    · exact h
    · obtain ⟨low, high⟩ := clamp_mem (show (8192 : Int) ≤ 32768 by decide) _
      exact ⟨low, high, h.queue, h.limits, h.valveLow, h.valveHigh, h.valve⟩

theorem Channel.compensate_state (c : Channel) : c.compensate.state = c.state := by
  unfold Channel.compensate
  split
  · rfl
  · dsimp only
    split <;> rfl

/-- The wrap work moves the gain alone of what the bounds speak of, and the gain within its bounds (04 R74). -/
theorem Channel.wrapWork_channelOk {c : Channel} (h : ChannelOk c) (live : c.Live) (v : ZoneView) :
    ChannelOk (c.wrapWork v) ∧ (c.wrapWork v).Live := by
  unfold Channel.wrapWork
  split
  · have tracked : c.compensate.SameBounds { c.compensate with track := none } :=
      ⟨rfl, rfl, rfl, rfl, rfl, Nat.le_refl _⟩
    refine ⟨tracked.channelOk (Channel.compensate_channelOk h), tracked.live ?_⟩
    rwa [Channel.Live, Channel.compensate_state]
  split
  · have marked : c.SameBounds { c with track := none, aligned := c.isCycling } :=
      ⟨rfl, rfl, rfl, rfl, rfl, Nat.le_refl _⟩
    exact ⟨marked.channelOk h, marked.live live⟩
  · exact ⟨h, live⟩

theorem Channel.activate_channelOk {c : Channel} (h : ChannelOk c) (live : c.Live) (view : Option ZoneView) :
    ChannelOk (c.activate view) ∧ (c.activate view).Live := by
  have on : Channel.Live { c with state := .active } := ⟨nofun, nofun⟩
  have active : ChannelOk { c with state := .active } ∧ Channel.Live { c with state := .active } :=
    ⟨⟨h.gainLow, h.gainHigh, h.queue, h.limits, h.valveLow, h.valveHigh, on.valve h rfl rfl⟩, on⟩
  unfold Channel.activate
  split
  · split
    · exact active
    · exact active
    · exact active
    · exact active
    · exact ⟨h, live⟩
    · exact ⟨h, live⟩
  · exact ⟨h, live⟩

theorem Channel.alignMark_sameBounds (c : Channel) (v : ZoneView) : c.SameBounds (c.alignMark v) := by
  unfold Channel.alignMark
  split
  · exact ⟨rfl, rfl, rfl, rfl, rfl, Nat.le_refl _⟩
  · exact .refl c

theorem Channel.profile_sameBounds (c : Channel) (view : Option ZoneView) :
    c.SameBounds (c.profile view).chan :=
  (c.profile_program view).sameBounds (c.profile_queueLen view)

theorem Channel.program_channelOk {c : Channel} (h : ChannelOk c) (live : c.Live) (view : Option ZoneView) :
    ChannelOk (c.program view).chan ∧ (c.program view).chan.Live := by
  cases view with
  | none => exact ⟨h, live⟩
  | some v =>
    obtain ⟨worked, alive⟩ := Channel.wrapWork_channelOk h live v
    have rest := ((c.wrapWork v).profile_sameBounds (some v)).trans (Channel.alignMark_sameBounds _ v)
    exact ⟨rest.channelOk worked, rest.live alive⟩

theorem Channel.checks_sameBounds (c : Channel) (e : Int) (view : Option ZoneView) :
    c.SameBounds ((c.judgeFresh.judgeTracking e).keepProgramValue view) := by
  have fresh : c.SameBounds c.judgeFresh := by
    unfold Channel.judgeFresh
    split
    · exact ⟨rfl, rfl, rfl, rfl, rfl, Nat.le_refl _⟩
    split <;> exact ⟨rfl, rfl, rfl, rfl, rfl, Nat.le_refl _⟩
  have tracking : ∀ d : Channel, d.SameBounds (d.judgeTracking e) := by
    intro d
    unfold Channel.judgeTracking
    split <;> exact ⟨rfl, rfl, rfl, rfl, rfl, Nat.le_refl _⟩
  refine (fresh.trans (tracking _)).trans ?_
  unfold Channel.keepProgramValue
  split
  · split
    · exact ⟨rfl, rfl, rfl, rfl, rfl, Nat.le_refl _⟩
    · exact .refl _
  · exact .refl _

theorem Channel.judged_channelOk {c : Channel} (h : ChannelOk c) (live : c.Live) (view : Option ZoneView) :
    ChannelOk (c.judged view) ∧ (c.judged view).Live := by
  obtain ⟨activated, alive⟩ := Channel.activate_channelOk h live view
  obtain ⟨programmed, running⟩ := Channel.program_channelOk activated alive view
  have clamped : ((c.activate view).program view).chan.SameBounds (c.staged view).1 :=
    ⟨rfl, rfl, rfl, rfl, rfl, Nat.le_refl _⟩
  have rest := clamped.trans (Channel.checks_sameBounds _ (c.stagedError view) view)
  exact ⟨rest.channelOk programmed, rest.live running⟩

/-- An entry into FAULT sets the valve output to 0 and drops the current segment (05 R86). -/
theorem Channel.fail_channelOk {c : Channel} (h : ChannelOk c) (q : FaultCauses) (hall : Nat)
    (z : Option ZoneId) : ChannelOk (c.fail q hall z) := by
  rw [Channel.fail, Channel.drop_eq]
  have queue : c.queued.length + 0 ≤ Config.programQueue := (Nat.le_add_right _ _).trans h.queue
  exact channelOk_of_still h.gainLow h.gainHigh queue h.limits rfl

/-- The close drives the valve with the servo's output, and in dry run with 0 (04 R70, R72). -/
theorem Channel.close_channelOk {c : Channel} (h : ChannelOk c) (live : c.Live) (e f cmd : Int) :
    ChannelOk (((c.servo e).trackForce f).close cmd) := by
  have bound : -Config.valveMax ≤ (c.servo e).v ∧ (c.servo e).v ≤ Config.valveMax :=
    clamp_mem (show -Config.valveMax ≤ Config.valveMax by decide) _
  have valve : (((c.servo e).trackForce f).close cmd).valve = if c.dryRun then 0 else (c.servo e).v := rfl
  by_cases dry : c.dryRun = true
  · exact channelOk_of_still h.gainLow h.gainHigh h.queue h.limits (valve.trans (if_pos dry))
  · rw [if_neg dry] at valve
    refine ⟨h.gainLow, h.gainHigh, h.queue, h.limits, by rw [valve]; exact bound.1,
      by rw [valve]; exact bound.2, ?_⟩
    rintro (off | fault | on)
    · exact absurd off live.1
    · exact absurd fault live.2
    · exact absurd on dry

theorem Channel.setPrev_sameBounds (c : Channel) (prev err : Int) : c.SameBounds { c with prev, err } :=
  ⟨rfl, rfl, rfl, rfl, rfl, Nat.le_refl _⟩

theorem Channel.setWasCycling_sameBounds (c : Channel) (wasCycling : Bool) :
    c.SameBounds { c with wasCycling } :=
  ⟨rfl, rfl, rfl, rfl, rfl, Nat.le_refl _⟩

/-- A channel's work at a strobe keeps its bounds. -/
theorem Channel.update_channelOk {c : Channel} (h : ChannelOk c) (view : Option ZoneView) (hall : Nat) :
    ChannelOk (c.update view hall).1 := by
  have on : c.Live → ChannelOk (c.updateOn view hall).1 := by
    intro live
    obtain ⟨judged, alive⟩ := Channel.judged_channelOk h live view
    rw [Channel.updateOn_fst]
    split
    · exact (Channel.setWasCycling_sameBounds _ _).channelOk
        (Channel.fail_channelOk ((Channel.setPrev_sameBounds _ _ _).channelOk judged) _ _ _)
    · exact (Channel.setWasCycling_sameBounds _ _).channelOk (Channel.close_channelOk judged alive _ _ _)
  unfold Channel.update
  split
  · rename_i e; exact on ⟨by rw [e]; decide, by rw [e]; decide⟩
  · rename_i e; exact on ⟨by rw [e]; decide, by rw [e]; decide⟩
  · exact h
  · exact h

/-! ### The channel's requests and feedback (03 R38, R39; 05 R81, R87 to R95, R107, R110) -/

theorem Channel.toStandby_channelOk {c : Channel} (h : ChannelOk c) : ChannelOk c.toStandby := by
  have on : c.toStandby.Live := ⟨nofun, nofun⟩
  have gain : (8192 : Int) ≤ 16384 ∧ (16384 : Int) ≤ 32768 := by decide
  exact ⟨gain.1, gain.2, h.queue, h.limits, h.valveLow, h.valveHigh, on.valve h rfl rfl⟩

theorem Channel.disable_channelOk {c : Channel} (h : ChannelOk c) : ChannelOk c.disable :=
  channelOk_of_still h.gainLow h.gainHigh (Nat.zero_le _) h.limits rfl

theorem Channel.setDryRun_channelOk {c : Channel} (h : ChannelOk c) (off : c.state = .off) (on : Bool) :
    ChannelOk (c.setDryRun on) :=
  ⟨h.gainLow, h.gainHigh, h.queue, h.limits, h.valveLow, h.valveHigh, fun _ => h.valve (.inl off)⟩

theorem Channel.configure_channelOk {c : Channel} (h : ChannelOk c) {cfg : ChannelConfig}
    (limits : cfg.fMin ≤ cfg.fMax) : ChannelOk { c with cfg } :=
  ⟨h.gainLow, h.gainHigh, h.queue, limits, h.valveLow, h.valveHigh, h.valve⟩

theorem Channel.load_channelOk {c : Channel} (h : ChannelOk c) {segs : List Segment}
    (room : c.queueLen + segs.length ≤ 32) : ChannelOk { c with queued := c.queued ++ segs } := by
  refine ⟨h.gainLow, h.gainHigh, ?_, h.limits, h.valveLow, h.valveHigh, h.valve⟩
  simp only [Channel.queueLen, List.length_append, Config.programQueue] at room ⊢
  omega

theorem Channel.flush_channelOk {c : Channel} (h : ChannelOk c) (abort : Bool) : ChannelOk (c.flush abort) := by
  have queue : ({ c with queued := [] } : Channel).queueLen ≤ Config.programQueue :=
    (Channel.queueLen_le _).trans (show 0 + 1 ≤ 32 by decide)
  unfold Channel.flush
  split
  · exact ⟨h.gainLow, h.gainHigh, Nat.zero_le _, h.limits, h.valveLow, h.valveHigh, h.valve⟩
  · exact ⟨h.gainLow, h.gainHigh, queue, h.limits, h.valveLow, h.valveHigh, h.valve⟩

theorem Channel.prepare_channelOk {c : Channel} (h : ChannelOk c) : ChannelOk c.prepare := by
  unfold Channel.prepare
  split
  · exact Channel.toStandby_channelOk h
  · exact h

theorem Channel.release_channelOk {c : Channel} (h : ChannelOk c) : ChannelOk c.release := by
  unfold Channel.release
  split
  · have on : Channel.Live { c with state := .standby } := ⟨nofun, nofun⟩
    exact ⟨h.gainLow, h.gainHigh, h.queue, h.limits, h.valveLow, h.valveHigh, on.valve h rfl rfl⟩
  · exact h

theorem Channel.arrive_sameBounds (c : Channel) (f : Feedback) : c.SameBounds (c.arrive f) :=
  ⟨rfl, rfl, rfl, rfl, rfl, Nat.le_refl _⟩

theorem Channel.clearFlags_sameBounds (c : Channel) : c.SameBounds c.clearFlags :=
  ⟨rfl, rfl, rfl, rfl, rfl, Nat.le_refl _⟩

end Sys2Proof.Machine
end

section
/-! Every step keeps every channel within its bounds: the requests, the events, the step. -/

namespace Sys2Proof.Machine
open Host Statements

/-! ### From one channel to the part -/

theorem channelsOk_of_ac {s t : State} (h : ChannelsOk s) (ac : t.ac = s.ac) : ChannelsOk t := by
  intro a
  rw [State.chan, ac]
  exact h a

/-- An entry into HOLD, and what is no more than that, keeps the bounds (03 R50). -/
theorem channelsOk_of_hold {s t : State} (h : ChannelsOk s) (ac : ∀ a, (s.chan a).SameButHold (t.chan a)) :
    ChannelsOk t := fun a => (ac a).sameBounds.channelOk (h a)

theorem EventKeeps.channelsOk {s t : State} (k : EventKeeps s t) (h : ChannelsOk s) : ChannelsOk t :=
  channelsOk_of_hold h k.1.ac

theorem setChan_channelsOk {s : State} (h : ChannelsOk s) (a : ActId) {c : Channel} (hc : ChannelOk c) :
    ChannelsOk (s.setChan a c) := by
  intro b
  rw [State.chan_setChan]
  split
  · exact hc
  · exact h b

/-- What a request does to the channels of its mask (01 R11). -/
theorem onMask_chan (s : State) (m : Byte) (f : Channel → Channel) (a : ActId) :
    (s.onMask m f).chan a = if m.getLsbD a then f (s.chan a) else s.chan a := tabMap_get _ s.ac a

theorem onMask_channelsOk {s : State} (h : ChannelsOk s) {m : Byte} {f : Channel → Channel}
    (hf : ∀ a : ActId, m.getLsbD a = true → ChannelOk (f (s.chan a))) : ChannelsOk (s.onMask m f) := by
  intro a
  rw [onMask_chan]
  split
  · rename_i ha; exact hf a ha
  · exact h a

theorem mapMembers_channelsOk {s : State} (h : ChannelsOk s) (z : ZoneId) {f : Channel → Channel}
    (hf : ∀ c, ChannelOk c → ChannelOk (f c)) : ChannelsOk (s.mapMembers z f) := by
  intro a
  rw [mapMembers_ac_get]
  split
  · exact hf _ (h a)
  · exact h a

theorem mem_maskActs {m : Byte} {a : ActId} : a ∈ maskActs m ↔ m.getLsbD a = true := by
  simp [maskActs]

/-! ### The actuators' requests -/

theorem inRange_limits {c : ChannelConfig} {safe : Int} (h : c.inRange safe = true) : c.fMin ≤ c.fMax := by
  simp only [ChannelConfig.inRange, Bool.and_eq_true, decide_eq_true_eq, and_assoc] at h
  obtain ⟨-, -, limits, -⟩ := h
  exact limits

section
variable {s : State} (h : ChannelsOk s) (r : Request)
include h

theorem answerConfigureActuator_channelsOk : (answerConfigureActuator r s).Leads ChannelsOk := by
  unfold answerConfigureActuator
  dsimp only
  split; · trivial
  split; · trivial
  rename_i range
  split; · trivial
  have inRange : (readConfig r.payload).inRange (fieldI r.payload 33 4) = true := by
    simp only [Bool.or_eq_true, Bool.not_eq_true', not_or, Bool.not_eq_false] at range
    exact range.2
  exact onMask_channelsOk h fun a _ => Channel.configure_channelOk (h a) (inRange_limits inRange)

theorem answerLoadSegments_channelsOk : (answerLoadSegments r s).Leads ChannelsOk := by
  unfold answerLoadSegments
  dsimp only
  split; · trivial
  split; · trivial
  rename_i cuts hcuts
  split; · trivial
  rename_i segs hsegs
  split; · trivial
  rename_i range
  split; · trivial
  rename_i room
  refine onMask_channelsOk h fun a ha => Channel.load_channelOk (h a) ?_
  have count : field r.payload 1 1 ≤ 8 := by
    simp only [Bool.or_eq_true, decide_eq_true_eq, not_or, Nat.not_lt] at range
    exact range.2
  have fits : ¬ 32 - field r.payload 1 1 < (s.chan a).queueLen := fun k =>
    room (List.any_eq_true.mpr ⟨a, mem_maskActs.mpr ha, decide_eq_true k⟩)
  rw [segments_length hcuts hsegs]
  omega

theorem answerFlushProgram_channelsOk : (answerFlushProgram r s).Leads ChannelsOk := by
  unfold answerFlushProgram
  dsimp only
  split; · trivial
  split; · trivial
  split; · trivial
  split; · trivial
  exact onMask_channelsOk h fun a _ => Channel.flush_channelOk (h a) _

theorem answerEnableActuator_channelsOk : (answerEnableActuator r s).Leads ChannelsOk := by
  refine onChannel_leads fun a _ => ?_
  dsimp only
  split
  · trivial
  · exact setChan_channelsOk h a (Channel.toStandby_channelOk (h a))

theorem answerDisableActuator_channelsOk : (answerDisableActuator r s).Leads ChannelsOk := by
  refine onChannel_leads fun a _ => ?_
  dsimp only
  split
  · trivial
  · exact setChan_channelsOk h a (Channel.disable_channelOk (h a))

theorem answerSetDryRun_channelsOk : (answerSetDryRun r s).Leads ChannelsOk := by
  unfold answerSetDryRun
  dsimp only
  split; · trivial
  split
  · rename_i a on _ _
    split
    · trivial
    · rename_i off
      exact setChan_channelsOk h a (Channel.setDryRun_channelOk (h a) (not_not.mp off) on)
  · trivial

theorem answerClearFault_channelsOk : (answerClearFault r s).Leads ChannelsOk := by
  refine onChannel_leads fun a _ => ?_
  split
  · trivial
  · exact setChan_channelsOk h a (Channel.toStandby_channelOk (h a))

theorem answerReadActuator_channelsOk : (answerReadActuator r s).Leads ChannelsOk :=
  onChannel_leads fun a _ => setChan_channelsOk h a ((s.chan a).clearFlags_sameBounds.channelOk (h a))

/-! ### The zones' requests -/

theorem answerPrepare_channelsOk : (answerPrepare r s).Leads ChannelsOk := by
  refine onZone_leads fun z => ?_
  dsimp only
  split; · trivial
  split; · trivial
  have prepared : ChannelsOk (s.prepareZone z) :=
    mapMembers_channelsOk (s := s.setZone z _) h z fun _ => Channel.prepare_channelOk
  exact zoneReply_leads prepared z _

theorem answerHold_channelsOk : (answerHold r s).Leads ChannelsOk := by
  refine onZone_leads fun z => ?_
  split
  · exact zoneReply_leads (channelsOk_of_hold h (holdZone_inner s z .request).ac) z _
  · trivial

theorem answerUnload_channelsOk : (answerUnload r s).Leads ChannelsOk := by
  refine onZone_leads fun z => ?_
  dsimp only
  split
  · exact zoneReply_leads (channelsOk_of_ac h (unloadZone_ac s z false)) z _
  · trivial

theorem answerRelease_channelsOk : (answerRelease r s).Leads ChannelsOk := by
  refine onZone_leads fun z => ?_
  dsimp only
  split
  · refine zoneReply_leads ?_ z _
    unfold State.releaseZone
    dsimp only
    split
    · exact channelsOk_of_ac h rfl
    · exact mapMembers_channelsOk (s := s.setZone z _) h z fun _ => Channel.release_channelOk
  · trivial

theorem answerAckAlarm_channelsOk : (answerAckAlarm r s).Leads ChannelsOk := by
  have latch : ∀ (t : State) (x : AlarmSource), ChannelsOk t → ChannelsOk (t.clearLatchOf x) := by
    intro t x ht
    cases x <;> exact ht
  have removed : ∀ p, ChannelsOk (s.removeAlarms p) := fun _ => h
  unfold answerAckAlarm ackReply
  dsimp only
  split; · trivial
  split
  · split
    · exact latch _ _ (removed _)
    · trivial
  · split
    · exact foldl_keeps ChannelsOk _ (fun t (e : AlarmEntry) => latch t e.source) _ _ (removed _)
    · trivial
  · show ChannelsOk s.ackOverflow
    unfold State.ackOverflow
    dsimp only
    split <;> exact h
  · trivial

end

/-- The requests whose owner writes at most its own settings or the zones' records. -/
theorem settingAnswers_ac : ∀ act ∈ [
    answerSetGroup, answerSetReporting, answerReadLinkCounts, answerRestart, answerDefineZone,
    answerSetCycleRate, answerStart, answerResume, answerResetCycleCount, answerReadZone, answerReadAlarms],
    ∀ (r : Request) (s : State), (act r s).Leads fun t => t.ac = s.ac := by
  simp only [List.forall_mem_cons, List.not_mem_nil, false_implies, implies_true, and_true]
  and_intros
  all_goals
    intro r s
    simp only [
      answerSetGroup, answerSetReporting, answerReadLinkCounts, answerRestart, answerDefineZone,
      answerSetCycleRate, answerStart, answerResume, answerResetCycleCount, answerReadZone,
      answerReadAlarms, onZone, zoneReply]
    repeat' split
    all_goals first
      | exact Answer.leads_refused ..
      | rfl

/-- Every request keeps the channels within their bounds. -/
theorem request_channelsOk {i : Instr} {p : Byte → Bool} {act : Request → State → Answer}
    (ha : requestArm i = some (p, act)) {s t : State} (h : ChannelsOk s) (hs : exec i s = .next t) :
    ChannelsOk t := by
  have taken : ChannelsOk s.dequeued := h
  have effect : (∀ r, (act r s.dequeued).Leads ChannelsOk) → ChannelsOk t := by
    intro hact
    obtain ⟨u, hu, f⟩ := request_effect ha hs ChannelsOk h taken fun r _ _ => hact r
    exact channelsOk_of_ac hu f.ac
  have setting : (∀ r, (act r s.dequeued).Leads fun u => u.ac = s.dequeued.ac) → ChannelsOk t :=
    fun hact => effect fun r => (hact r).mono fun _ => channelsOk_of_ac taken
  have block : i ∈ [Instr.setScanList, .setScanInterval, .bankReset, .writeTemplate, .setDefaultProfile,
      .validateTemplates, .readGauges, .setLimitRule, .configureLoop, .configureAe, .readCrackStatus,
      .configureCapture, .trigger, .readCapture, .releaseBlock, .captureStatus] → ChannelsOk t := by
    intro hi
    obtain ⟨u, hu, f⟩ := block_requested hi hs
    exact channelsOk_of_ac h (f.ac.trans hu.ac)
  have time : i ∈ [Instr.setTime, .readTime, .setSyncRole] → ChannelsOk t := by
    intro hi
    obtain ⟨u, hu, f⟩ := time_requested hi hs
    exact channelsOk_of_ac h (f.ac.trans hu.ac)
  cases i <;> cases ha
  case unknownKindRequest => exact effect fun _ => trivial
  case identify | status => exact effect fun r => answerRead_leads taken _ r
  case setTime | readTime | setSyncRole => exact time (by decide)
  case configureActuator => exact effect (answerConfigureActuator_channelsOk taken)
  case enableActuator => exact effect (answerEnableActuator_channelsOk taken)
  case disableActuator => exact effect (answerDisableActuator_channelsOk taken)
  case setDryRun => exact effect (answerSetDryRun_channelsOk taken)
  case loadSegments => exact effect (answerLoadSegments_channelsOk taken)
  case flushProgram => exact effect (answerFlushProgram_channelsOk taken)
  case clearFault => exact effect (answerClearFault_channelsOk taken)
  case readActuator => exact effect (answerReadActuator_channelsOk taken)
  case prepare => exact effect (answerPrepare_channelsOk taken)
  case hold => exact effect (answerHold_channelsOk taken)
  case unload => exact effect (answerUnload_channelsOk taken)
  case release => exact effect (answerRelease_channelsOk taken)
  case ackAlarm => exact effect (answerAckAlarm_channelsOk taken)
  case zeroGauges => exact (zeroGauges_eventKeeps hs).channelsOk h
  case setGroup | setReporting | readLinkCounts | restart | defineZone | setCycleRate | start | resume |
      resetCycleCount | readZone | readAlarms =>
    exact setting fun r => settingAnswers_ac _ (by simp) r _
  all_goals exact block (by decide)

/-! ### The events and the step -/

theorem atExpiry_channelsOk {s : State} (h : ChannelsOk s) (x : Timer) {f : State → State}
    (hf : ∀ t, ChannelsOk t → ChannelsOk (f t)) : ChannelsOk (s.atExpiry x f) :=
  atExpiry_keeps ChannelsOk s x f h (fun _ => h) hf

theorem arbitrate_channelsOk {s : State} (h : ChannelsOk s) : ChannelsOk (arbitrate s) :=
  channelsOk_of_ac h (arbitrate_ac s)

/-- A strobe: the updates, and an entry into HOLD. -/
theorem strobe_channelsOk {s : State} (h : ChannelsOk s) (src : StrobeSource) (lost : Bool) :
    ChannelsOk (s.strobe src lost) := by
  have decided : ChannelsOk (s.tbStrobe src).decideStarts :=
    channelsOk_of_ac (s := s.tbStrobe src) h (decideStarts_spec _).1.ac
  unfold State.strobe
  refine channelsOk_of_hold (fun a => ?_) (strobeWork_inner _ _ _ _).ac
  rw [strobeUpdated_chan]
  exact Channel.update_channelOk (decided a) _ _

theorem regain_channelsOk {s : State} (h : ChannelsOk s) : ChannelsOk s.regain := by
  have dropped : ChannelsOk ((List.finRange 4).foldl State.dropSyncReason
      { s with tb := { s.tb with syncLost := false, regainRun := 0, subRun := 0 } }) := by
    rw [dropSyncReasons_eq]
    exact h
  unfold State.regain
  dsimp only
  split
  · exact dropped
  · exact strobe_channelsOk dropped _ _

theorem lostEdge_channelsOk {s : State} (h : ChannelsOk s) : ChannelsOk s.lostEdge := by
  unfold State.lostEdge
  split
  · exact h
  split
  · exact h
  split
  · exact regain_channelsOk h
  · exact h

theorem syncEdge_channelsOk {s t : State} (h : ChannelsOk s) (hs : exec .syncEdge s = .next t) :
    ChannelsOk t := by
  simp only [exec, execSyncEdge] at hs
  split at hs
  · cases hs; exact h
  · cases hs; exact h
  split at hs
  · cases hs; exact arbitrate_channelsOk (lostEdge_channelsOk h)
  split at hs
  · cases hs; exact h
  · obtain rfl := Outcome.next.inj hs
    exact arbitrate_channelsOk (strobe_channelsOk (s := { s with tb := { s.tb with subRun := 0 } }) h _ _)

theorem oscillatorStrobe_channelsOk {s t : State} (h : ChannelsOk s)
    (hs : exec .oscillatorStrobe s = .next t) : ChannelsOk t := by
  simp only [exec, execOscillatorStrobe] at hs
  split at hs
  · cases hs
    exact atExpiry_channelsOk h _ fun t ht => arbitrate_channelsOk (strobe_channelsOk ht _ _)
  · cases hs; exact h

theorem substituteStrobe_channelsOk {s t : State} (h : ChannelsOk s)
    (hs : exec .substituteStrobe s = .next t) : ChannelsOk t := by
  simp only [exec, execSubstituteStrobe] at hs
  split at hs
  · cases hs; exact h
  · cases hs
    exact atExpiry_channelsOk h _ fun t ht =>
      arbitrate_channelsOk (strobe_channelsOk (s := { t with tb := t.tb.substitute }) ht _ _)

theorem memberFault_inner (s : State) (a : ActId) : Inner s (s.memberFault a) := by
  unfold State.memberFault
  split
  · exact Inner.refl s
  · exact (raise_inner s _).trans (safeIfAllFaulted_inner _ _)

theorem feedbackArrival_channelsOk {s t : State} (h : ChannelsOk s) {a : ActId} {force stroke : Int}
    {status : DriveStatus} (hs : exec (.feedbackArrival a force stroke status) s = .next t) :
    ChannelsOk t := by
  have arrived : ChannelOk ((s.chan a).arrive (Feedback.ofArrival force stroke status)) :=
    ((s.chan a).arrive_sameBounds _).channelOk (h a)
  simp only [exec, execFeedbackArrival] at hs
  split at hs
  · cases hs
    exact arbitrate_channelsOk (channelsOk_of_hold
      (setChan_channelsOk h a (Channel.fail_channelOk arrived _ _ _)) (memberFault_inner _ a).ac)
  · cases hs
    exact setChan_channelsOk h a arrived

theorem aeHit_channelsOk {s t : State} (h : ChannelsOk s) {ch : AeId} (hs : exec (.aeHit ch) s = .next t) :
    ChannelsOk t := by
  simp only [exec, execAeHit] at hs
  split at hs
  · cases hs; exact h
  split at hs
  · cases hs; exact h
  split at hs <;> (cases hs; exact h)

theorem frameEnd_ac (s : State) : s.frameEnd.ac = s.ac := by
  unfold State.frameEnd
  split
  · rfl
  · dsimp only
    split <;> rfl

/-- Every command that is the taking of no request keeps the channels within their bounds. -/
theorem event_channelsOk {i : Instr} (ha : requestArm i = none) {s t : State} (h : ChannelsOk s)
    (hs : exec i s = .next t) : ChannelsOk t := by
  have line : LineEvent i → ChannelsOk t := fun hi =>
    channelsOk_of_ac h (by rw [(lineEvent_effect hi hs).1])
  cases i <;> cases ha
  case byteReceived b stop => exact line (.byte b stop)
  case gap => exact line .gap
  case lineBreak => exact line .brk
  case lineReturnsToMark => exact line .toMark
  case uplinkFrameEnd =>
    cases hs
    exact atExpiry_channelsOk h _ fun t ht => arbitrate_channelsOk (channelsOk_of_ac ht (frameEnd_ac t))
  case restartEffect =>
    cases hs
    exact atExpiry_channelsOk h _ fun t _ a => by rw [t.afterRestart_chan]; exact channelOk_reset
  case reset addr =>
    cases hs
    exact fun a => by rw [s.afterReset_chan]; exact channelOk_reset
  case oscillatorStrobe => exact oscillatorStrobe_channelsOk h hs
  case substituteStrobe => exact substituteStrobe_channelsOk h hs
  case syncPulseEnd => cases hs; exact atExpiry_channelsOk h _ fun _ ht => ht
  case regainRunTimeout => cases hs; exact atExpiry_channelsOk h _ fun _ ht => ht
  case syncEdge => exact syncEdge_channelsOk h hs
  case feedbackArrival => exact feedbackArrival_channelsOk h hs
  case freeScanExpiry => exact (freeScanExpiry_eventKeeps hs).channelsOk h
  case bankAnswer => exact (bankAnswer_eventKeeps hs).channelsOk h
  case bankTimeout => exact (bankTimeout_eventKeeps hs).channelsOk h
  case bankSettlingEnd => exact (bankSettlingEnd_eventKeeps hs).channelsOk h
  case reportDelayRunOut => exact (reportDelayRunOut_eventKeeps hs).channelsOk h
  case loopSample => exact channelsOk_of_hold h (loopSample_eventFrame hs).ac
  case aeHit => exact aeHit_channelsOk h hs

theorem exec_channelsOk {i : Instr} {s t : State} (h : ChannelsOk s) (hs : exec i s = .next t) :
    ChannelsOk t := by
  cases ha : requestArm i with
  | some a => exact request_channelsOk ha h hs
  | none => exact event_channelsOk ha h hs

/-- Settles O57: the queue's rest behind the command, or one microsecond of the oscillator, leaves the channels
alone, and every command keeps each of them within its bounds. -/
theorem everyStepKeepsTheChannels : Obligations.EveryStepKeepsTheChannels := by
  intro s t h hs
  unfold step at hs
  split at hs
  · cases hs
    unfold State.tick
    split <;> exact h
  · rename_i c rest _
    exact exec_channelsOk (s := { s with pending := rest }) h hs

end Sys2Proof.Machine
end

section
/-! LOAD SEGMENTS and FLUSH PROGRAM: their tests in order, and the queues that they leave (03 R38, R39). -/

namespace Sys2Proof.Machine
open Host Statements

theorem maskActs_any {m : Byte} {p : ActId → Bool} :
    (maskActs m).any p = true ↔ ∃ a : ActId, m.getLsbD a = true ∧ p a = true := by
  simp only [List.any_eq_true, mem_maskActs]

theorem inZone_iff (s : State) (a : ActId) (p : ZoneState → Bool) :
    s.inZone a p = true ↔ ∃ z, s.zoneOf a = some z ∧ p (s.zone z).state = true := by
  unfold State.inZone
  cases s.zoneOf a <;> simp

/-! ### LOAD SEGMENTS -/

section
variable {r : Request} {s : State}

theorem answerLoadSegments_malformed (h : r.payload.length < 2 ∨
    cutSegments (field r.payload 1 1) (r.payload.drop 2) = none) : answerLoadSegments r s = .no .malformed := by
  unfold answerLoadSegments
  dsimp only
  by_cases hl : r.payload.length < 2
  · rw [if_pos hl]
  · rw [if_neg hl, h.resolve_left hl]

variable {cuts : List (List Byte)} (hl : 2 ≤ r.payload.length)
  (hc : cutSegments (field r.payload 1 1) (r.payload.drop 2) = some cuts)
include hl hc

theorem answerLoadSegments_unread (h : readAll readSegment cuts = none) :
    answerLoadSegments r s = .no .range := by
  unfold answerLoadSegments
  dsimp only
  rw [if_neg (Nat.not_lt.mpr hl), hc]
  dsimp only
  rw [h]

/-- The tests behind the reading of the segments. -/
theorem answerLoadSegments_read {segs : List Segment} (h : readAll readSegment cuts = some segs) :
    answerLoadSegments r s =
      if byteAt r.payload 0 = 0 ∨ field r.payload 1 1 < 1 ∨ 8 < field r.payload 1 1 then .no .range
      else if ∃ a : ActId, (byteAt r.payload 0).getLsbD a = true ∧
          Config.programQueue - field r.payload 1 1 < (s.chan a).queueLen then .no .full
      else .accepted (s.onMask (byteAt r.payload 0) fun c => { c with queued := c.queued ++ segs })
        (encList ((maskActs (byteAt r.payload 0)).map fun a =>
          encN 1 ((s.chan a).queueLen + field r.payload 1 1))) := by
  unfold answerLoadSegments
  dsimp only
  rw [if_neg (Nat.not_lt.mpr hl), hc]
  dsimp only
  rw [h]
  simp only [Bool.or_eq_true, decide_eq_true_eq, maskActs_any, or_assoc]

theorem answerLoadSegments_range (h : readAll readSegment cuts = none ∨ byteAt r.payload 0 = 0 ∨
    field r.payload 1 1 < 1 ∨ 8 < field r.payload 1 1) : answerLoadSegments r s = .no .range := by
  cases hs : readAll readSegment cuts with
  | none => exact answerLoadSegments_unread hl hc hs
  | some segs =>
    rw [answerLoadSegments_read hl hc hs, if_pos (h.resolve_left (by simp [hs]))]

end

/-! ### FLUSH PROGRAM -/

section
variable {r : Request} {s : State} (hl : r.payload.length = 2)
include hl

theorem answerFlushProgram_range (h : byteAt r.payload 0 = 0 ∨ 1 < field r.payload 1 1) :
    answerFlushProgram r s = .no .range := by
  unfold answerFlushProgram
  dsimp only
  rw [if_neg (not_not.mpr hl)]
  cases hf : flag? (field r.payload 1 1) with
  | none => rfl
  | some abort =>
    have flag : field r.payload 1 1 ≤ 1 := by
      rw [flag?_eq_some.mp hf]
      exact Bool.toNat_le abort
    exact if_pos (h.resolve_right (Nat.not_lt.mpr flag))

theorem answerFlushProgram_read {abort : Bool} (hf : field r.payload 1 1 = abort.toNat)
    (hm : byteAt r.payload 0 ≠ 0) : answerFlushProgram r s =
      if abort = true ∧ ∃ a : ActId, (byteAt r.payload 0).getLsbD a = true ∧ ∃ z, s.zoneOf a = some z ∧
          ((s.zone z).state = .run ∨ (s.zone z).state = .hold) then .no .state
      else .accepted (s.onMask (byteAt r.payload 0) fun c => c.flush abort)
        (encList ((maskActs (byteAt r.payload 0)).map fun a =>
          encN 1 (if abort then (s.chan a).queueLen else (s.chan a).queued.length) ++
            encFlag (abort && (s.chan a).current.isSome))) := by
  unfold answerFlushProgram
  dsimp only
  rw [if_neg (not_not.mpr hl), flag?_eq_some.mpr hf]
  dsimp only
  rw [if_neg hm]
  simp only [Bool.and_eq_true, maskActs_any, inZone_iff, Bool.or_eq_true, decide_eq_true_eq]

end

/-- Settles O22: each request's tests in their order; the queues of the selected channels grow by the whole
list, or are emptied. -/
theorem loadAndFlushPrograms : Obligations.LoadAndFlushPrograms := by
  refine ⟨fun s r hr => ?_, fun s r hr hl => ?_⟩
  · intro p m n held
    refine ⟨fun short => ?_, fun _ uncut => ?_, fun hl cuts hc => ⟨fun range => ?_, ?_⟩⟩
    · exact exec_refused rfl hr (answerLoadSegments_malformed (.inl short))
    · exact exec_refused rfl hr (answerLoadSegments_malformed (.inr uncut))
    · exact exec_refused rfl hr (answerLoadSegments_range hl hc range)
    · intro segs hs hm low high
      have inRange : ¬ (m = 0 ∨ n < 1 ∨ 8 < n) := by
        rintro (e | e | e)
        · exact hm e
        · omega
        · omega
      have read := answerLoadSegments_read (s := s.dequeued) hl hc hs
      rw [if_neg inRange] at read
      refine ⟨fun full => exec_refused rfl hr (read.trans (if_pos full)), fun room => ?_⟩
      have fits : ¬ ∃ a : ActId, m.getLsbD a = true ∧ 32 - n < held a :=
        fun ⟨a, ha, full⟩ => Nat.not_lt.mpr (room a ha) full
      exact ⟨_, exec_accepted rfl hr (read.trans (if_neg fits)), onMask_chan s.dequeued m _, rfl⟩
  · intro m running
    refine ⟨fun range => ?_, fun hm keep => ?_, fun hm abort run => ?_, fun hm abort idle => ?_⟩
    · exact exec_refused rfl hr (answerFlushProgram_range hl range)
    · have read := answerFlushProgram_read (s := s.dequeued) (abort := false) hl keep hm
      exact ⟨_, exec_accepted rfl hr (read.trans (if_neg fun k => by cases k.1)),
        onMask_chan s.dequeued m _, rfl⟩
    · have read := answerFlushProgram_read (s := s.dequeued) (abort := true) hl abort hm
      exact exec_refused rfl hr (read.trans (if_pos ⟨rfl, run⟩))
    · have read := answerFlushProgram_read (s := s.dequeued) (abort := true) hl abort hm
      exact ⟨_, exec_accepted rfl hr (read.trans (if_neg fun ⟨_, a, ha, run⟩ => idle a ha run)),
        onMask_chan s.dequeued m _, rfl⟩

end Sys2Proof.Machine
end

section
/-! What a channel's program gives an update: the rule of each command source and of each kind of segment
(03 R41 to R52; 04 R60 to R66). -/

namespace Sys2Proof.Machine
open Host Statements

/-! ### The sources of the command (04 R61) -/

theorem Channel.profile_run (c : Channel) {v : ZoneView} (h : v.state = .run) :
    c.profile (some v) = (c.enterRun v).consume v := by
  simp only [Channel.profile, h]

theorem Channel.profile_hold (c : Channel) {v : ZoneView} (h : v.state = .hold) :
    c.profile (some v) = c.holdProfile v := by
  simp only [Channel.profile, h]

/-- The safe load is approached from the previous command, and the segment is dropped (03 R52, 04 R63). -/
theorem Channel.profile_unload (c : Channel) {v : ZoneView} (h : v.state = .unload) :
    c.profile (some v) = ⟨{ c with
      current := none
      dropped := if c.current.isSome then min (c.dropped + 1) 4294967295 else c.dropped
      inUnderrun := false, afterCycle := false
      unloadRem := ((if v.unloadFirst then 0 else c.unloadRem) + v.unloadRate) % 2000 },
      moveToward c.prev (clamp c.cfg.fMin c.cfg.fMax c.cfg.safeLoad)
        (((if v.unloadFirst then 0 else c.unloadRem) + v.unloadRate) / 2000), false⟩ := by
  simp only [Channel.profile, h, Channel.unloadProfile, Channel.drop_eq]
  rfl

theorem Channel.profile_safe (c : Channel) {v : ZoneView} (h : v.state = .safe) :
    c.profile (some v) = ⟨c, c.target, false⟩ := by
  simp only [Channel.profile, h]

theorem Channel.profile_kept (c : Channel) {v : ZoneView} (h : v.state = .idle ∨ v.state = .ready) :
    c.profile (some v) = ⟨c, c.prev, false⟩ := by
  rcases h with h | h <;> simp only [Channel.profile, h]

/-! ### The program's step in RUN (03 R41, R42, R48) -/

theorem ZoneView.resumed_iff {v : ZoneView} (h : v.state = .run) :
    v.resumed = true ↔ v.index = some 0 ∧ v.started = false := by
  simp [ZoneView.resumed, h]

theorem ZoneView.wrap_iff (v : ZoneView) : v.wrap = true ↔
    ∃ n, v.index = some n ∧ 1 ≤ n ∧ (n - 1) * v.inc / 2 ^ 32 < n * v.inc / 2 ^ 32 := by
  unfold ZoneView.wrap
  cases v.index with
  | none => simp
  | some n => simp only [isWrap_iff, Option.some.injEq, exists_eq_left']

theorem ZoneView.not_wrap_of_zero {v : ZoneView} (h : v.index = some 0) : ¬ v.wrap = true := by
  rw [ZoneView.wrap_iff]
  rintro ⟨n, hn, low, -⟩
  rw [h] at hn
  cases hn
  exact absurd low (by decide)

/-- A channel as its program's step in RUN finds it: at a start the program value is the previous command, and
the first update in RUN ends an underrun (03 R41, R48). A cycling member at a RESUME is left out. -/
def Channel.running (c : Channel) (v : ZoneView) : Channel :=
  { c with
    programValue := if v.started then c.prev else c.programValue
    inUnderrun := c.inUnderrun && !(v.started || decide (v.index = some 0))
    afterCycle := false }

theorem Channel.setCurrent_self {c : Channel} {x : Option Current} (h : c.current = x) :
    { c with current := x } = c := by
  subst h; rfl

section
variable {c : Channel} {v : ZoneView}

theorem Channel.enterRun_started (h : v.started = true) :
    c.enterRun v = { c with programValue := c.prev, inUnderrun := false, afterCycle := false } := if_pos h

theorem Channel.enterRun_plain (start : v.started = false) (h : v.resumed = false) : c.enterRun v = c := by
  simp [Channel.enterRun, start, h]

theorem Channel.enterRun_resumed (start : v.started = false) (h : v.resumed = true)
    (other : ∀ g n, c.current ≠ some (.cycle g (.cycling n))) : c.enterRun v = { c with inUnderrun := false } := by
  unfold Channel.enterRun
  rw [if_neg (by simp [start]), if_pos h]
  dsimp only
  split
  · rename_i g n hc; exact absurd hc (other g n)
  · rfl

/-- A cycling member begins a new stretch at a RESUME (03 R49, R51). -/
theorem Channel.enterRun_cycling (start : v.started = false) (h : v.resumed = true) {g : CycleSegment} {n : Nat}
    (hc : c.current = some (.cycle g (.cycling n))) : c.enterRun v = { c with
      inUnderrun := false, k := 0, j := 0, aHold := 0, aEff := stretchAmp g.amplitude 0 v.nin } := by
  unfold Channel.enterRun
  rw [if_neg (by simp [start]), if_pos h]
  simp only [hc]

theorem Channel.enterRun_keeps : (c.enterRun v).current = c.current ∧ (c.enterRun v).queued = c.queued ∧
    (c.enterRun v).afterCycle = (c.afterCycle && !v.started) := by
  cases start : v.started with
  | true => rw [Channel.enterRun_started start]; simp
  | false =>
    unfold Channel.enterRun
    rw [if_neg (by simp [start])]
    split
    · dsimp only
      split <;> simp
    · simp

/-- Entry into RUN, and then the mark of a completed CYCLE taken. -/
theorem Channel.enterRun_running (run : v.state = .run)
    (h : ¬ v.resumed = true ∨ ∀ g n, c.current ≠ some (.cycle g (.cycling n))) :
    { c.enterRun v with afterCycle := false } = c.running v := by
  unfold Channel.running
  cases start : v.started with
  | true => rw [Channel.enterRun_started start]; simp
  | false =>
    by_cases res : v.resumed = true
    · have index := ((ZoneView.resumed_iff run).mp res).1
      rw [Channel.enterRun_resumed start res (h.resolve_left (not_not.mpr res)), index]
      simp
    · have index : ¬ v.index = some 0 := fun k => res ((ZoneView.resumed_iff run).mpr ⟨k, start⟩)
      rw [Channel.enterRun_plain start (by simpa using res)]
      simp [index]

variable (run : v.state = .run)
include run

/-- The current segment's step. -/
theorem Channel.profile_current {x : Current} (hc : c.current = some x)
    (h : ¬ v.resumed = true ∨ ∀ g n, x ≠ .cycle g (.cycling n)) :
    c.profile (some v) = (c.running v).advance v x := by
  have other : ¬ v.resumed = true ∨ ∀ g n, c.current ≠ some (.cycle g (.cycling n)) :=
    h.imp_right fun k g n e => k g n (Option.some.inj (hc.symm.trans e))
  rw [c.profile_run run, ← Channel.enterRun_running run other]
  unfold Channel.consume
  dsimp only
  rw [Channel.enterRun_keeps.1, hc]

/-- No segment is current and none waits: underrun (03 R48). -/
theorem Channel.profile_underrun (hc : c.current = none) (hq : c.queued = []) :
    c.profile (some v) = ⟨(c.running v).underrun, (c.running v).programValue, false⟩ := by
  rw [c.profile_run run, ← Channel.enterRun_running run (.inr fun g n => by simp [hc])]
  unfold Channel.consume
  dsimp only
  rw [Channel.enterRun_keeps.1, Channel.enterRun_keeps.2.1, hc, hq]

/-- The next segment becomes current (03 R42). -/
theorem Channel.profile_next (hc : c.current = none) {q : Segment} {rest : List Segment}
    (hq : c.queued = q :: rest) : c.profile (some v) =
      Channel.take { c.running v with queued := rest, inUnderrun := false } v (c.afterCycle && !v.started) q := by
  rw [c.profile_run run, ← Channel.enterRun_running run (.inr fun g n => by simp [hc])]
  unfold Channel.consume
  dsimp only
  rw [Channel.enterRun_keeps.1, Channel.enterRun_keeps.2.1, Channel.enterRun_keeps.2.2, hc, hq]

end

/-! ### RAMP and DWELL (03 R43, R44) -/

theorem Channel.advanceRamp_reaches {c : Channel} {g : RampSegment} {r : Nat}
    (h : moveToward c.programValue g.target ((r + g.rate) / 2000) = g.target) :
    c.advanceRamp g r = ⟨c.complete g.tag, moveToward c.programValue g.target ((r + g.rate) / 2000),
      g.final = .holdZone⟩ := if_pos h

theorem Channel.advanceRamp_moves {c : Channel} {g : RampSegment} {r : Nat}
    (h : moveToward c.programValue g.target ((r + g.rate) / 2000) ≠ g.target) :
    c.advanceRamp g r = ⟨{ c with current := some (.ramp g ((r + g.rate) % 2000)) },
      moveToward c.programValue g.target ((r + g.rate) / 2000), false⟩ := if_neg h

theorem Channel.advanceDwell_ends {c : Channel} {g : DwellSegment} {left : Nat} (h : left ≤ 1) :
    c.advanceDwell g left = ⟨c.complete g.tag, c.programValue, g.final = .holdZone⟩ := if_pos h

theorem Channel.advanceDwell_counts {c : Channel} {g : DwellSegment} {left : Nat} (h : 1 < left) :
    c.advanceDwell g left = ⟨{ c with current := some (.dwell g (left - 1)) }, c.programValue, false⟩ :=
  if_neg (Nat.not_le.mpr h)

/-! ### Suspended in HOLD (03 R50) -/

theorem Channel.holdProfile_other {c : Channel} (h : ∀ g n, c.current ≠ some (.cycle g (.cycling n)))
    (v : ZoneView) : c.holdProfile v = ⟨{ c with inUnderrun := false, afterCycle := false },
      c.programValue, false⟩ := by
  unfold Channel.holdProfile
  dsimp only
  split
  · rename_i g n hc; exact absurd hc (h g n)
  · rfl

/-- Settles O27: each command source by its rule; in RUN the current segment's step, underrun, or the next
segment's step. -/
theorem programConsumption : Obligations.ProgramConsumption := by
  intro c v
  dsimp only
  refine ⟨fun run => ⟨fun g r hc => ?_, fun g left hc => ?_, fun hc hq => ?_, fun hc q rest hq => ?_⟩,
    fun hold other => ?_, fun unload => c.profile_unload unload, fun safe => c.profile_safe safe,
    fun kept => c.profile_kept kept, rfl⟩
  · rw [Channel.profile_current run hc (.inr nofun)]
    exact ⟨fun h => Channel.advanceRamp_reaches h, fun h => Channel.advanceRamp_moves h⟩
  · rw [Channel.profile_current run hc (.inr nofun)]
    exact ⟨fun h => Channel.advanceDwell_ends h, fun h => Channel.advanceDwell_counts h⟩
  · rw [Channel.profile_underrun run hc hq]
    rfl
  · refine ⟨fun g hg => ?_, fun g hg => ?_, fun g hg after => ?_⟩
    · rw [Channel.profile_next run hc hq, hg, Channel.profile_current (x := .ramp g 0) run rfl (.inr nofun)]
      rfl
    · rw [Channel.profile_next run hc hq, hg,
        Channel.profile_current (x := .dwell g (2 * g.duration)) run rfl (.inr nofun)]
      rfl
    · have alone : (c.afterCycle && !v.started) = false := by
        rcases after with e | e <;> simp [e]
      rw [Channel.profile_next run hc hq, hg, alone]
      rfl
  · rw [c.profile_hold hold, Channel.holdProfile_other other]

end Sys2Proof.Machine
end

section
/-! CYCLE segments: their amplitude and profile, the steps of a waiting and of a cycling one, and the ramp-out
(03 R45, R46, R49 to R51; 04 R60, R64 to R66). -/

namespace Sys2Proof.Machine
open Host Statements

/-! ### The amplitude and the profile value (04 R64 to R66) -/

theorem roundDiv_natCast (a b : Nat) : roundDiv a b = ((2 * a + b) / (2 * b) : Nat) := by
  rw [roundDiv, if_pos (Int.natCast_nonneg a)]
  push_cast
  rfl

theorem stretchAmp_eq (amplitude k nin : Nat) : stretchAmp amplitude k nin =
    if nin = 0 then amplitude else (2 * (amplitude * min (k + 1) nin) + nin) / (2 * nin) := by
  have product : (amplitude * min (k + 1) nin : Int) = (amplitude * min (k + 1) nin : Nat) := by push_cast; rfl
  rw [stretchAmp, product, roundDiv_natCast, Int.toNat_natCast]

theorem rampedOut_iff (j nout : Nat) : rampedOut j nout = true ↔ 1 ≤ j ∧ nout ≤ j := by
  rw [rampedOut, Bool.and_eq_true, decide_eq_true_eq, decide_eq_true_eq]

theorem rampOutAmp_eq {aHold j nout : Nat} (low : 1 ≤ j) (high : j < nout) :
    rampOutAmp aHold j nout = (2 * (aHold * (nout - j)) + nout) / (2 * nout) := by
  have out : ¬ rampedOut j nout = true := by
    rw [rampedOut_iff]
    omega
  have product : (aHold * (nout - j) : Int) = (aHold * (nout - j) : Nat) := by
    rw [Nat.cast_mul, Nat.cast_sub high.le]
  rw [rampOutAmp, if_neg (by omega), if_neg out, product, roundDiv_natCast, Int.toNat_natCast]

theorem rampOutAmp_out {aHold j nout : Nat} (h : rampedOut j nout = true) : rampOutAmp aHold j nout = 0 := by
  have pos : j ≠ 0 := by
    have := (rampedOut_iff j nout).mp h
    omega
  rw [rampOutAmp, if_neg pos, if_pos h]

theorem sine_mod (k : Nat) : sine (k % 1024) = sine k := by
  unfold sine
  rw [Nat.mod_mod]

/-- The profile value of a cycling member (04 R66); with no clock its mean. -/
theorem Channel.drive_eq (c : Channel) (v : ZoneView) (g : CycleSegment) : c.drive v g =
    v.index.elim g.mean fun n => g.mean + roundDiv (roundDiv (c.aEff * c.gain) 16384 *
      sine ((n * v.inc % 2 ^ 32 / 2 ^ 22 + g.offset) % 1024)) 32767 := by
  unfold Channel.drive ZoneView.phase
  cases v.index with
  | none => rfl
  | some n =>
    rw [Option.elim_some, sine_mod]
    rfl

/-- A cycling member that goes on at its profile value. -/
def Channel.driven (c : Channel) (v : ZoneView) (g : CycleSegment) : Profile2 := ⟨c, c.drive v g, false⟩

/-! ### A CYCLE's step in RUN (03 R45, R46) -/

section
variable {c : Channel} {v : ZoneView} {g : CycleSegment}

theorem Channel.advance_waits (wrap : ¬ v.wrap = true) (hc : c.current = some (.cycle g .waiting)) :
    c.advance v (.cycle g .waiting) = ⟨c, c.programValue, false⟩ := by
  have kept := Channel.setCurrent_self hc
  simp only [Channel.advance, Channel.advanceCycle, if_neg wrap, kept]

theorem Channel.advance_begins (wrap : v.wrap = true) :
    c.advance v (.cycle g .waiting) = Channel.driven { c with
      current := some (.cycle g (.cycling 0)), k := 0, aEff := stretchAmp g.amplitude 0 v.nin } v g :=
  if_pos wrap

theorem Channel.advance_cycles {n : Nat} (wrap : ¬ v.wrap = true) :
    c.advance v (.cycle g (.cycling n)) = c.driven v g := if_neg wrap

theorem Channel.advance_completes {n : Nat} (wrap : v.wrap = true) (limited : g.count ≠ 0)
    (reached : g.count ≤ min (n + 1) 4294967295) : c.advance v (.cycle g (.cycling n)) =
      ⟨{ c.complete g.tag with k := min (c.k + 1) 255, afterCycle := g.final = .next }, g.mean,
        g.final = .holdZone⟩ :=
  (if_pos wrap).trans (if_pos (by simpa [bump] using And.intro limited reached))

theorem Channel.advance_counts {n : Nat} (wrap : v.wrap = true)
    (more : g.count = 0 ∨ min (n + 1) 4294967295 < g.count) : c.advance v (.cycle g (.cycling n)) =
      Channel.driven { c with
        current := some (.cycle g (.cycling (min (n + 1) 4294967295))), k := min (c.k + 1) 255
        aEff := stretchAmp g.amplitude (min (c.k + 1) 255) v.nin } v g := by
  refine (if_pos wrap).trans (if_neg fun ended => ?_)
  have ended : g.count ≠ 0 ∧ g.count ≤ min (n + 1) 4294967295 := by simpa [bump] using ended
  omega

/-- A CYCLE directly after a completed one begins cycling in its predecessor's stretch (03 R45, R49). -/
theorem Channel.take_goesOn : c.take v true (.cycle g) = Channel.driven { c with
    current := some (.cycle g (.cycling 0)), aEff := stretchAmp g.amplitude c.k v.nin } v g := rfl

/-- At the first update after a RESUME a cycling member begins a new stretch (03 R49, R51). -/
theorem Channel.profile_newStretch (run : v.state = .run) (start : v.started = false)
    (res : v.resumed = true) (noWrap : ¬ v.wrap = true) {n : Nat}
    (hc : c.current = some (.cycle g (.cycling n))) : c.profile (some v) = Channel.driven { c with
      inUnderrun := false, afterCycle := false, k := 0, j := 0, aHold := 0
      aEff := stretchAmp g.amplitude 0 v.nin } v g := by
  rw [c.profile_run run, Channel.enterRun_cycling start res hc]
  unfold Channel.consume
  simp only [hc]
  exact Channel.advance_cycles noWrap

/-- The step of RUN at an update that is not the first after a RESUME. -/
theorem Channel.running_plain (h : ¬ (v.index = some 0 ∧ v.started = false)) : c.running v = { c with
    programValue := if v.started then c.prev else c.programValue
    inUnderrun := c.inUnderrun && !v.started, afterCycle := false } := by
  unfold Channel.running
  cases start : v.started with
  | true => simp
  | false =>
    have index : ¬ v.index = some 0 := fun k => h ⟨k, start⟩
    simp [index]

theorem Channel.running_resumed (index : v.index = some 0) : c.running v = { c with
    programValue := if v.started then c.prev else c.programValue
    inUnderrun := false, afterCycle := false } := by
  simp [Channel.running, index]

/-! ### The ramp-out (03 R50, 04 R65) -/

section
variable {n j : Nat} (hc : c.current = some (.cycle g (.cycling n))) (hj : j = if v.wrap then c.j + 1 else c.j)
include hc hj

/-- A cycling member in HOLD that has not ramped out, with its ramp-out count after the update. -/
theorem Channel.holdProfile_ramping (ramping : ¬ rampedOut j v.nout = true) : c.holdProfile v =
    Channel.driven { c with
      inUnderrun := false, afterCycle := false, j, aEff := rampOutAmp c.aHold j v.nout } v g := by
  subst hj
  unfold Channel.holdProfile Channel.driven
  simp only [hc, if_neg ramping]

theorem Channel.holdProfile_rampedOut (out : rampedOut j v.nout = true) : c.holdProfile v =
    ⟨{ c with inUnderrun := false, afterCycle := false, j, aEff := 0 }, g.mean, false⟩ := by
  subst hj
  unfold Channel.holdProfile
  simp only [hc, if_pos out, rampOutAmp_out out]

end

end

/-- Settles O28: a waiting and a cycling segment at a wrap and between wraps, a stretch that goes on or that a
RESUME begins anew, and the ramp-out. -/
theorem cycleSegments : Obligations.CycleSegments := by
  intro c v wrap resumed amplitude driven e
  have hwrap : v.wrap = true ↔ wrap := v.wrap_iff
  have hamp : ∀ k full, stretchAmp full k v.nin = amplitude k full := fun k full => stretchAmp_eq full k v.nin
  have hdriven : ∀ (d : Channel) (g : CycleSegment), d.driven v g = ⟨d, driven d g, false⟩ := fun d g =>
    congrArg (Profile2.mk d · false) (d.drive_eq v g)
  refine ⟨fun run plain => ?_, fun run hc after start g rest hq => ?_, fun run ⟨index, start⟩ => ?_,
    fun hold g n hc j up same => ?_⟩
  · have notResumed : ¬ v.resumed = true := mt (ZoneView.resumed_iff run).mp plain
    have entered : c.running v = e := Channel.running_plain plain
    refine ⟨fun g hc => ?_, fun g n hc => ?_⟩ <;>
      rw [Channel.profile_current run hc (.inl notResumed), entered]
    · refine ⟨fun no => Channel.advance_waits (mt hwrap.mp no) hc, fun yes => ?_⟩
      rw [Channel.advance_begins (hwrap.mpr yes), hamp]
      exact hdriven _ g
    · refine ⟨fun no => ?_, fun yes => Channel.advance_completes (hwrap.mpr yes), fun yes more => ?_⟩
      · exact (Channel.advance_cycles (mt hwrap.mp no)).trans (hdriven e g)
      · rw [Channel.advance_counts (hwrap.mpr yes) more, hamp]
        exact hdriven _ g
  · have goesOn : (c.afterCycle && !v.started) = true := by simp [after, start]
    rw [Channel.profile_next run hc hq, goesOn, Channel.take_goesOn, hamp]
    exact hdriven _ g
  · have noWrap : ¬ v.wrap = true := ZoneView.not_wrap_of_zero index
    have value : c.programValue = e.programValue := (if_neg (by simp [start])).symm
    refine ⟨fun g hc => ?_, fun g n hc => ?_⟩
    · have entered : c.running v = { e with inUnderrun := false } := Channel.running_resumed index
      rw [Channel.profile_current run hc (.inr nofun), entered, value]
      exact Channel.advance_waits noWrap hc
    · have res : v.resumed = true := (ZoneView.resumed_iff run).mpr ⟨index, start⟩
      rw [Channel.profile_newStretch run start res noWrap hc, hamp, value]
      exact hdriven _ g
  · have count : j = if v.wrap then c.j + 1 else c.j := by
      by_cases w : wrap
      · rw [if_pos (hwrap.mpr w), up w]
      · rw [if_neg (mt hwrap.mp w), same w]
    rw [c.profile_hold hold]
    intro out d
    have hout : rampedOut j v.nout = true ↔ out := rampedOut_iff j v.nout
    refine ⟨fun zero => ?_, fun low more => ?_, fun ended => ?_⟩
    · have ramping : ¬ out := fun k => by omega
      have kept : rampOutAmp c.aHold j v.nout = c.aHold := if_pos zero
      rw [Channel.holdProfile_ramping hc count (mt hout.mp ramping), kept]
      exact hdriven _ g
    · have high : j < v.nout := by omega
      rw [Channel.holdProfile_ramping hc count (mt hout.mp more), rampOutAmp_eq low high]
      exact hdriven _ g
    · exact Channel.holdProfile_rampedOut hc count (hout.mpr ended)

end Sys2Proof.Machine
end

section
/-! The clamps and the servo of an update, and the phase increment of a cycle rate (04 R59, R66 to R71). -/

namespace Sys2Proof.Machine
open Host Statements

/-! ### The clamps and the servo (04 R66 to R71) -/

/-- A saturating count that rises when the clamp has changed the value. -/
theorem bump_ite_not (p : Prop) [Decidable p] (n : Nat) :
    (if decide (¬ p) = true then bump Config.max32 n else n) = if p then n else min (n + 1) 4294967295 := by
  by_cases h : p <;> simp [h, bump]

theorem Channel.clamps_eq (c : Channel) (p : Int) :
    let p0 := min (max p (-3000000)) 3000000
    let p1 := min (max p0 (c.prev - c.cfg.rateStep)) (c.prev + c.cfg.rateStep)
    let cmd := min (max p1 c.cfg.fMin) c.cfg.fMax
    c.clamps p = ({ c with
      p0, p1
      rateFlag := c.rateFlag || p1 ≠ p0
      rateClamps := if p1 = p0 then c.rateClamps else min (c.rateClamps + 1) 4294967295
      limitFlag := c.limitFlag || p0 ≠ p || cmd ≠ p1
      limitClamps := if p0 = p ∧ cmd = p1 then c.limitClamps
        else min (c.limitClamps + 1) 4294967295 }, cmd) := by
  intro p0 p1 cmd
  have limited : (decide (p0 ≠ p) || decide (cmd ≠ p1)) = decide (¬ (p0 = p ∧ cmd = p1)) := by
    rw [← Bool.decide_or, decide_eq_decide]
    exact not_and_or.symm
  have rate := bump_ite_not (p1 = p0) c.rateClamps
  have limit := bump_ite_not (p0 = p ∧ cmd = p1) c.limitClamps
  rw [← limited] at limit
  rw [← rate, ← limit, Bool.or_assoc]
  rfl

/-- The output is out of the drive's range on the side of the error (04 R71). -/
def WindsUp (sum e : Int) : Prop := (32767 < sum ∧ 0 < e) ∨ (sum < -32767 ∧ e < 0)

theorem windsUp_iff (sum e : Int) :
    ((decide (clamp (-Config.valveMax) Config.valveMax sum < sum) && decide (0 < e)) ||
      (decide (sum < clamp (-Config.valveMax) Config.valveMax sum) && decide (e < 0))) = true ↔
    WindsUp sum e := by
  have above : clamp (-Config.valveMax) Config.valveMax sum < sum ↔ 32767 < sum := by
    simp only [clamp, Config.valveMax]; omega
  have below : sum < clamp (-Config.valveMax) Config.valveMax sum ↔ sum < -32767 := by
    simp only [clamp, Config.valveMax]; omega
  simp only [above, below, WindsUp, Bool.or_eq_true, Bool.and_eq_true, decide_eq_true_eq]

/-- Conditional integration (04 R71). -/
theorem Channel.servo_integrator (c : Channel) (e : Int) :
    let bound : Int := c.cfg.iLimit * 4096
    let cand := clamp (-bound) bound (c.integrator + c.cfg.ki * e)
    let sum := roundDiv (c.cfg.kp * e) 4096 + roundDiv cand 4096
    (WindsUp sum e → (c.servo e).integrator = clamp (-bound) bound c.integrator) ∧
    (¬ WindsUp sum e → (c.servo e).integrator = cand) := by
  intro bound cand sum
  exact ⟨fun h => if_pos ((windsUp_iff sum e).mpr h), fun h => if_neg (mt (windsUp_iff sum e).mp h)⟩

/-! ### The phase increment (04 R59) -/

theorem phaseInc_eq (f : Nat) : phaseInc f = (f * 2 ^ 32 + 1000000) / 2000000 := by
  have product : (f * 2 ^ 32 : Int) = (f * 2 ^ 32 : Nat) := by push_cast; rfl
  have divisor : (2000000 : Int) = (2000000 : Nat) := rfl
  rw [phaseInc, product, divisor, roundDiv_natCast, Int.toNat_natCast]
  omega

/-- Settles O25: the clamps and the servo by their definitions, conditional integration by the side on which the
output is clamped, and the increment by its rounding. -/
theorem clampsServoAndPhase : Obligations.ClampsServoAndPhase := by
  refine ⟨Channel.clamps_eq, fun c e => ?_, fun f low high => ⟨phaseInc_eq f, ?_⟩⟩
  · obtain ⟨kept, taken⟩ := c.servo_integrator e
    exact ⟨rfl, rfl, rfl, rfl, rfl, kept, taken⟩
  · rw [phaseInc_eq]
    omega

end Sys2Proof.Machine
end

section
/-! One update of a channel: the wrap work before its profile value and the mark after it, the checks of its
feedback, and its two ends (04 R57, R69, R72 to R74; 05 R82 to R86, R91). -/

namespace Sys2Proof.Machine
open Host Statements

/-! ### The wrap work and the cycle-aligned mark (04 R73, R74) -/

section
variable {c : Channel} {v : ZoneView}

/-- Peak compensation is left out in a stretch's first cycle, with no amplitude, no adaptation, no record. -/
theorem Channel.compensate_skips (h : c.wasCycling = false ∨ c.aligned = false ∨ c.aEff = 0 ∨
    c.cfg.adapt = 0 ∨ c.track = none) : c.compensate = c := by
  unfold Channel.compensate
  cases track : c.track with
  | none => rfl
  | some t =>
    refine if_pos ?_
    rcases h with h | h | h | h | h
    · simp [h]
    · simp [h]
    · simp [h]
    · simp [h]
    · rw [track] at h
      cases h

theorem Channel.compensate_gain (cycling : c.wasCycling = true) (aligned : c.aligned = true)
    (driven : c.aEff ≠ 0) (adapts : c.cfg.adapt ≠ 0) {hi lo : Int} (track : c.track = some (hi, lo)) :
    let g := c.gain + roundDiv (c.cfg.adapt * (2 * c.aEff - (hi - lo)) * 16384) (2 * c.aEff * 256)
    let gain := min (max g 8192) 32768
    c.compensate = { c with gain, gainFlag := c.gainFlag || gain ≠ g } := by
  unfold Channel.compensate
  simp only [track]
  exact if_neg (by simp [cycling, aligned, driven, adapts])

theorem Channel.compensate_wasCycling (c : Channel) : c.compensate.wasCycling = c.wasCycling := by
  unfold Channel.compensate
  split
  · rfl
  · dsimp only
    split <;> rfl

theorem Channel.profile_wasCycling (c : Channel) (view : Option ZoneView) :
    (c.profile view).chan.wasCycling = c.wasCycling := by
  rw [c.profile_program view]

theorem Channel.profile_aligned (c : Channel) (view : Option ZoneView) :
    (c.profile view).chan.aligned = c.aligned := by
  rw [c.profile_program view]

/-- A stage 2 whose channel has its cycle-aligned mark set to `b` (04 R73). -/
def Profile2.mark (r : Profile2) (b : Bool) : Profile2 := { r with chan := { r.chan with aligned := b } }

/-- Stages 1 and 2 at a wrap: the channel `w` that its wrap work leaves, its profile value, then the mark. -/
theorem Channel.program_wrap (wrap : v.wrap = true) {w : Channel} {b : Bool}
    (work : { c.compensate with track := none } = w)
    (mark : (c.wasCycling || (w.profile (some v)).chan.isCycling) = b) :
    c.program (some v) = (w.profile (some v)).mark b := by
  have worked : c.wrapWork v = w := (if_pos wrap).trans work
  have cycled : (w.profile (some v)).chan.wasCycling = c.wasCycling := by
    rw [Channel.profile_wasCycling, ← work]
    exact c.compensate_wasCycling
  rw [Channel.program, worked, Channel.alignMark, if_pos wrap, ← mark, ← cycled]
  rfl

/-- Stages 1 and 2 between wraps: the mark is the one that the work before the profile value leaves. -/
theorem Channel.program_noWrap (noWrap : ¬ v.wrap = true) {w : Channel} (work : c.wrapWork v = w) :
    c.program (some v) = (w.profile (some v)).mark w.aligned := by
  rw [Channel.program, work, Channel.alignMark, if_neg noWrap, ← w.profile_aligned (some v)]
  rfl

theorem Channel.wrapWork_plain (noWrap : ¬ v.wrap = true) (h : ¬ v.resumed = true) : c.wrapWork v = c :=
  (if_neg noWrap).trans (if_neg h)

theorem Channel.wrapWork_resumed (noWrap : ¬ v.wrap = true) (h : v.resumed = true) :
    c.wrapWork v = { c with track := none, aligned := c.isCycling } :=
  (if_neg noWrap).trans (if_pos h)

end

/-! ### What the update reads of its zone's state, and its stages 1 to 4 (03 R41; 04 R57; 05 R79) -/

/-- The zone that the update reads is in a state of the list. -/
def viewIn (view : Option ZoneView) (l : List ZoneState) : Bool := view.any fun v => l.contains v.state

theorem Channel.activate_eq (c : Channel) (view : Option ZoneView) : c.activate view =
    { c with state := if viewIn view [.run, .hold, .unload, .safe] then .active else c.state } := by
  cases view with
  | none => rfl
  | some v => cases h : v.state <;> simp [Channel.activate, viewIn, h]

theorem Channel.keepProgramValue_eq (c : Channel) (view : Option ZoneView) : c.keepProgramValue view =
    { c with programValue := if viewIn view [.run, .hold] then c.p0 else c.programValue } := by
  cases view with
  | none => rfl
  | some v => cases h : v.state <;> simp [Channel.keepProgramValue, viewIn, h]

theorem Channel.program_elim (c : Channel) (view : Option ZoneView) :
    c.program view = view.elim (c.profile none) fun v => c.program (some v) := by
  cases view <;> rfl

theorem Channel.staged_eq (c : Channel) (view : Option ZoneView) :
    let d : Channel :=
      { c with state := if viewIn view [.run, .hold, .unload, .safe] then .active else c.state }
    let r := view.elim (d.profile none) fun v => d.program (some v)
    c.staged view = r.chan.clamps r.p0 := by
  rw [Channel.staged, Channel.activate_eq, Channel.program_elim]

/-! ### The checks of the feedback (05 R82 to R84) -/

theorem Channel.judgeFresh_eq (c : Channel) :
    let stale : Bool := !c.dryRun && !c.fresh
    c.judgeFresh = { c with
      fresh := false
      staleRun := if stale then min (c.staleRun + 1) 4 else 0
      staleCount := if stale then min (c.staleCount + 1) 4294967295 else c.staleCount } := by
  unfold Channel.judgeFresh
  cases dry : c.dryRun with
  | true => simp
  | false => cases fresh : c.fresh <;> simp [bump]

theorem Channel.judgeTracking_eq (c : Channel) (e : Int) : c.judgeTracking e = { c with
    trackRun := if c.dryRun = true ∨ c.cfg.tolerance = 0 ∨ e.natAbs ≤ c.cfg.tolerance then 0
      else min (c.trackRun + 1) 2001 } := by
  have test : (c.dryRun || decide (c.cfg.tolerance = 0) || decide (e.natAbs ≤ c.cfg.tolerance)) = true ↔
      c.dryRun = true ∨ c.cfg.tolerance = 0 ∨ e.natAbs ≤ c.cfg.tolerance := by
    simp only [Bool.or_eq_true, decide_eq_true_eq, or_assoc]
  unfold Channel.judgeTracking
  by_cases h : c.dryRun = true ∨ c.cfg.tolerance = 0 ∨ e.natAbs ≤ c.cfg.tolerance
  · rw [if_pos (test.mpr h), if_pos h]
  · rw [if_neg (mt test.mp h), if_neg h]
    rfl

theorem FaultCauses.any_iff (q : FaultCauses) : q.any = true ↔ q ≠ ⟨false, false, false, false⟩ := by
  obtain ⟨tracking, stroke, feedback, hydraulic⟩ := q
  simp only [FaultCauses.any, ne_eq, FaultCauses.mk.injEq, Bool.or_eq_true, or_assoc, not_and_or,
    Bool.not_eq_false]

/-! ### The update's two ends (04 R72, 05 R86) -/

theorem Channel.update_live {c : Channel} (h : c.state = .standby ∨ c.state = .active)
    (view : Option ZoneView) (hall : Nat) : c.update view hall = c.updateOn view hall := by
  rcases h with h | h <;> simp only [Channel.update, h]

theorem Channel.update_off {c : Channel} (h : c.state = .off ∨ c.state = .fault) (view : Option ZoneView)
    (hall : Nat) : c.update view hall = (c, ⟨false, false, false, false⟩) := by
  rcases h with h | h <;> simp only [Channel.update, h] <;> rfl

theorem Channel.updateOn_fault {c : Channel} {view : Option ZoneView}
    (h : (c.judged view).findCauses ≠ ⟨false, false, false, false⟩) (hall : Nat) : c.updateOn view hall =
    ({ Channel.fail { c.judged view with prev := (c.staged view).2, err := c.stagedError view }
        (c.judged view).findCauses hall (view.map ZoneView.zone) with wasCycling := false },
      ⟨true, ((c.activate view).program view).holdZone, false, false⟩) :=
  if_pos ((FaultCauses.any_iff _).mpr h)

theorem Channel.updateOn_close {c : Channel} {view : Option ZoneView}
    (h : (c.judged view).findCauses = ⟨false, false, false, false⟩) (hall : Nat) : c.updateOn view hall =
    ({ c.closed view with wasCycling := (c.closed view).isCycling },
      ⟨false, ((c.activate view).program view).holdZone,
        viewIn view [.unload] && decide ((c.staged view).2 = (c.closed view).target),
        view.any fun v => v.wrap && decide (v.state = .hold) && (c.closed view).isCycling &&
          rampedOut (c.closed view).j v.nout⟩) := by
  have unloading : viewIn view [.unload] = match view with
      | some v => decide (v.state = .unload)
      | none => false := by
    cases view with
    | none => rfl
    | some v => cases k : v.state <;> simp [viewIn, k]
  rw [unloading]
  refine (if_neg (mt (FaultCauses.any_iff _).mp (not_not.mpr h))).trans ?_
  cases view <;> rfl

theorem Channel.judged_eq {c d : Channel} {cmd : Int} {view : Option ZoneView}
    (staged : c.staged view = (d, cmd)) :
    let stale : Bool := !d.dryRun && !d.fresh
    let err := d.errorOf cmd
    c.judged view = { d with
      fresh := false
      staleRun := if stale then min (d.staleRun + 1) 4 else 0
      staleCount := if stale then min (d.staleCount + 1) 4294967295 else d.staleCount
      trackRun := if d.dryRun = true ∨ d.cfg.tolerance = 0 ∨ err.natAbs ≤ d.cfg.tolerance then 0
        else min (d.trackRun + 1) 2001
      programValue := if viewIn view [.run, .hold] then d.p0 else d.programValue } := by
  rw [Channel.judged, Channel.stagedError, staged, Channel.keepProgramValue_eq, Channel.judgeTracking_eq,
    Channel.judgeFresh_eq]

theorem Channel.trackForce_eq (c : Channel) (f : Int) : c.trackForce f =
    { c with track := some (c.track.elim (f, f) fun t => (max t.1 f, min t.2 f)) } := by
  unfold Channel.trackForce
  cases c.track <;> rfl

theorem Channel.close_eq (c : Channel) (cmd : Int) : c.close cmd = { c with
    prev := cmd
    valve := if c.dryRun then 0 else c.v
    measured := { c.measured with force := if c.dryRun then cmd else c.measured.force } } := by
  unfold Channel.close
  by_cases dry : c.dryRun = true
  · simp only [if_pos dry]
  · simp only [if_neg dry]

/-- Settles O29: the wrap work and the mark at a wrap, at a RESUME and between; the channel that the checks
leave, and from there the close or the entry into FAULT. -/
theorem channelUpdateRule : Obligations.ChannelUpdateRule := by
  refine ⟨fun c v => ?_, fun c view hall h => c.update_off h view hall, fun c view hall live => ?_⟩
  · intro wrap resumed program
    have hwrap : v.wrap = true ↔ wrap := v.wrap_iff
    have hresumed : v.resumed = true ↔ resumed := by
      simp [ZoneView.resumed, resumed, and_assoc]
    refine ⟨fun noWrap plain => ?_, fun ⟨run, index, start⟩ => ?_, fun w skips => ?_,
      fun w cycling aligned driven adapts hi lo track => ?_⟩
    · exact Channel.program_noWrap (mt hwrap.mp noWrap)
        (Channel.wrapWork_plain (mt hwrap.mp noWrap) (mt hresumed.mp plain))
    · have noWrap := ZoneView.not_wrap_of_zero index
      exact Channel.program_noWrap noWrap
        (Channel.wrapWork_resumed noWrap (hresumed.mpr ⟨run, index, start⟩))
    · exact Channel.program_wrap (hwrap.mpr w) (by rw [Channel.compensate_skips skips]) rfl
    · exact Channel.program_wrap (hwrap.mpr w)
        (by rw [Channel.compensate_gain cycling aligned driven adapts track]) (by rw [cycling]; rfl)
  · intro inState c₁ r d cmd f err stale judged causes
    have staged : c.staged view = (d, cmd) := c.staged_eq view
    have error : c.stagedError view = err := by rw [Channel.stagedError, staged]; rfl
    have checked : c.judged view = judged := Channel.judged_eq staged
    have found : (c.judged view).findCauses = causes := by rw [checked]; rfl
    have holdZone : ((c.activate view).program view).holdZone = r.holdZone := by
      rw [Channel.activate_eq, Channel.program_elim]; rfl
    rw [Channel.update_live live]
    refine ⟨fun quiet => ?_, fun fault => ?_⟩
    · rw [Channel.updateOn_close (found.trans quiet), holdZone, Channel.closed, Channel.close_eq,
        Channel.trackForce_eq, checked, error, staged]
      rfl
    · rw [Channel.updateOn_fault (found ▸ fault), holdZone, found, Channel.fail, Channel.drop_eq, checked, error,
        staged]
      rfl

end Sys2Proof.Machine
end

section
/-! What a strobe makes of the channels: commands within the limits in force, and OFF and FAULT left alone (04 R56,
R68; 05 R80). -/

namespace Sys2Proof.Machine
open Host Statements

/-! ### One channel -/

/-- `d` is what a strobe makes of `c`: an OFF or FAULT channel keeps its outputs, any other has its command within
the limits in force. -/
structure Channel.Commanded (c d : Channel) : Prop where
  still : c.state = .off ∨ c.state = .fault → d.state = c.state ∧ d.prev = c.prev ∧ d.valve = c.valve ∧
    d.integrator = c.integrator ∧ d.gain = c.gain
  within : c.state = .standby ∨ c.state = .active → c.cfg.fMin ≤ d.prev ∧ d.prev ≤ c.cfg.fMax

/-- An entry into HOLD moves no command. -/
theorem Channel.Commanded.hold {c d e : Channel} (h : c.Commanded d) (k : d.SameButHold e) : c.Commanded e := by
  rw [k]
  exact ⟨h.still, h.within⟩

theorem Channel.fail_prev (c : Channel) (q : FaultCauses) (hall : Nat) (z : Option ZoneId) :
    (c.fail q hall z).prev = c.prev := by
  rw [Channel.fail, Channel.drop_eq]

/-- The command of an update is its limit clamp's, whether the update closes or faults (04 R68, R72). -/
theorem Channel.updateOn_prev (c : Channel) (view : Option ZoneView) (hall : Nat) :
    (c.updateOn view hall).1.prev = (c.staged view).2 := by
  rw [Channel.updateOn_fst]
  split
  · exact Channel.fail_prev _ _ _ _
  · rfl

theorem Channel.staged_within {c : Channel} (limits : c.cfg.fMin ≤ c.cfg.fMax) (view : Option ZoneView) :
    c.cfg.fMin ≤ (c.staged view).2 ∧ (c.staged view).2 ≤ c.cfg.fMax := by
  have cfg : ((c.activate view).program view).chan.cfg = c.cfg :=
    ((c.activate_sameSetup view).trans (Channel.program_sameSetup _ view)).cfg
  unfold Channel.staged Channel.clamps
  dsimp only
  rw [cfg]
  exact clamp_mem limits _

theorem Channel.update_commanded {c : Channel} (limits : c.cfg.fMin ≤ c.cfg.fMax) (view : Option ZoneView)
    (hall : Nat) : c.Commanded (c.update view hall).1 := by
  refine ⟨fun off => ?_, fun live => ?_⟩
  · rw [Channel.update_off off]
    exact ⟨rfl, rfl, rfl, rfl, rfl⟩
  · rw [Channel.update_live live, Channel.updateOn_prev]
    exact Channel.staged_within limits view

/-! ### The commands that can issue a strobe -/

/-- From `s` to `t` either a strobe has been issued, and has commanded every channel, or none has, and the channels
stand. -/
def IssuesOrStands (s t : State) : Prop :=
  (t.tb.lastStrobeAt = s.tb.lastStrobeAt ∧ t.ac = s.ac) ∨
  (t.tb.lastStrobeAt ≠ s.tb.lastStrobeAt ∧ ∀ a, (s.chan a).Commanded (t.chan a))

theorem strobe_commanded {s : State} (limits : ∀ a, (s.chan a).cfg.fMin ≤ (s.chan a).cfg.fMax)
    (src : StrobeSource) (lost : Bool) (a : ActId) : (s.chan a).Commanded ((s.strobe src lost).chan a) := by
  have decided : (s.tbStrobe src).decideStarts.chan a = s.chan a := by
    rw [State.chan, (decideStarts_spec (s.tbStrobe src)).1.ac]
    rfl
  unfold State.strobe
  refine Channel.Commanded.hold ?_ ((strobeWork_inner _ _ _ _).ac a)
  rw [strobeUpdated_chan, State.updateOf, decided]
  exact Channel.update_commanded (limits a) _ _

section
variable {s : State} (limits : ∀ a, (s.chan a).cfg.fMin ≤ (s.chan a).cfg.fMax)
include limits

/-- A strobe at another moment than the latest one, from a part with the same channels. -/
theorem strobe_issues {u : State} (ac : u.ac = s.ac) (moment : u.osc ≠ s.tb.lastStrobeAt) (src : StrobeSource)
    (lost : Bool) : IssuesOrStands s (arbitrate (u.strobe src lost)) := by
  have chans : ∀ a, u.chan a = s.chan a := fun a => by rw [State.chan, ac]; rfl
  refine .inr ⟨?_, fun a => ?_⟩
  · rw [arbitrate_tb, (strobe_time u src lost).1]
    exact moment
  · rw [arbitrate_chan, ← chans a]
    exact strobe_commanded (fun b => by rw [chans b]; exact limits b) src lost a

/-- A strobe of a timer is issued at its due moment, which is later than the latest strobe (02 R27, R28). -/
theorem expiry_issues {f : State → State} {src : StrobeSource} {lost : State → Bool}
    (counted : ∀ t : State, (f t).ac = t.ac ∧ (f t).osc = t.osc) :
    IssuesOrStands s (s.atExpiry .strobe fun t => arbitrate ((f t).strobe src (lost t))) := by
  cases h : s.expire .strobe with
  | none =>
    rw [atExpiry_none s _ _ h]
    exact .inl ⟨rfl, rfl⟩
  | some t =>
    obtain ⟨d, due, -, rfl⟩ := expire_eq s t _ h
    have later : s.tb.lastStrobeAt < d := by
      simp only [State.deadline, Config.strobePeriod, Config.edgeDeadline, Option.some.injEq] at due
      split at due <;> omega
    obtain ⟨ac, osc⟩ := counted { s with osc := max s.osc d }
    rw [atExpiry_some s _ _ _ h]
    refine strobe_issues limits ac ?_ src _
    rw [osc]
    exact (later.trans_le (le_max_right _ _)).ne'

theorem oscillatorStrobe_issues {t : State} (h : exec .oscillatorStrobe s = .next t) : IssuesOrStands s t := by
  simp only [exec, execOscillatorStrobe] at h
  split at h
  · obtain rfl := Outcome.next.inj h
    exact expiry_issues limits (f := fun u => u) (lost := fun _ => false) fun _ => ⟨rfl, rfl⟩
  · obtain rfl := Outcome.next.inj h
    exact .inl ⟨rfl, rfl⟩

theorem substituteStrobe_issues {t : State} (h : exec .substituteStrobe s = .next t) : IssuesOrStands s t := by
  simp only [exec, execSubstituteStrobe] at h
  split at h
  · obtain rfl := Outcome.next.inj h
    exact .inl ⟨rfl, rfl⟩
  · obtain rfl := Outcome.next.inj h
    exact expiry_issues limits (f := fun u => { u with tb := u.tb.substitute }) fun _ => ⟨rfl, rfl⟩

/-- The edge that regains sync is a strobe, unless the oscillator strobe of the same moment has been (02 R30). -/
theorem regain_issues : IssuesOrStands s (arbitrate s.regain) := by
  unfold State.regain
  dsimp only
  rw [dropSyncReasons_eq]
  split
  · exact .inl ⟨by rw [arbitrate_tb], by rw [arbitrate_ac]⟩
  · rename_i moment
    refine strobe_issues limits ?_ ?_ _ _
    · rfl
    · exact moment

theorem lostEdge_issues : IssuesOrStands s (arbitrate s.lostEdge) := by
  unfold State.lostEdge
  split
  · exact .inl ⟨by rw [arbitrate_tb], by rw [arbitrate_ac]⟩
  split
  · exact .inl ⟨by rw [arbitrate_tb]; rfl, by rw [arbitrate_ac]⟩
  split
  · exact regain_issues limits
  · exact .inl ⟨by rw [arbitrate_tb], by rw [arbitrate_ac]⟩

theorem syncEdge_issues {t : State} (h : exec .syncEdge s = .next t) : IssuesOrStands s t := by
  simp only [exec, execSyncEdge] at h
  split at h
  · obtain rfl := Outcome.next.inj h
    exact .inl ⟨rfl, rfl⟩
  · obtain rfl := Outcome.next.inj h
    exact .inl ⟨rfl, rfl⟩
  split at h
  · obtain rfl := Outcome.next.inj h
    exact lostEdge_issues limits
  split at h <;> obtain rfl := Outcome.next.inj h
  · exact .inl ⟨rfl, rfl⟩
  · rename_i late
    simp only [Config.edgeMin] at late
    exact strobe_issues limits (u := { s with tb := { s.tb with subRun := 0 } }) rfl
      (show s.osc ≠ s.tb.lastStrobeAt by omega) _ _

end

/-- Settles O30: each of the three commands issues a strobe, whose updates command the channels, or leaves the
moment and the channels alone. -/
theorem strobesCommandWithinTheLimits : Obligations.StrobesCommandWithinTheLimits := by
  intro s t limits i hi h
  have issues : IssuesOrStands s t := by
    simp only [List.mem_cons, List.not_mem_nil, or_false] at hi
    rcases hi with rfl | rfl | rfl
    · exact oscillatorStrobe_issues limits h
    · exact substituteStrobe_issues limits h
    · exact syncEdge_issues limits h
  rcases issues with ⟨same, ac⟩ | ⟨moved, commanded⟩
  · exact ⟨fun _ => ac, fun moved => absurd same moved⟩
  · exact ⟨fun same => absurd same moved, fun _ a => ⟨(commanded a).still, (commanded a).within⟩⟩

end Sys2Proof.Machine
end

section
/-! The sine table (04 R58): its first quarter against the powers of one rational turn by π/512, whose rounding
error the `k`-th power multiplies by no more than `k`; the other three quarters by the sine's symmetries. -/

namespace Sys2Proof.Machine
open Host Statements

/-! ### The entries and the rational turn -/

/-- The turn by one entry, π/512, in units of 10⁻¹². -/
def entryTurn : GaussianInt := ⟨999981175223, 6135884649⟩

/-- The entries lie, one after the other, within 0.499 of 32,767 times the height of `p / d`, which turns by one
entry at each step. -/
def fitsTurns (p : GaussianInt) (d : Nat) : List Int → Bool
  | [] => true
  | x :: l => decide (1000 * (32767 * p.im - x * d).natAbs ≤ 499 * d) &&
      fitsTurns (p * entryTurn) (d * 1000000000000) l

theorem sineQuarter_fitsTurns : fitsTurns 1 1 sineQuarter = true := by decide +kernel

theorem fitsTurns_getD (l : List Int) : ∀ (p : GaussianInt) (d : Nat), fitsTurns p d l = true →
    ∀ k < l.length,
      1000 * (32767 * (p * entryTurn ^ k).im - l.getD k 0 * (d * 1000000000000 ^ k : Nat)).natAbs ≤
        499 * (d * 1000000000000 ^ k) := by
  induction l with
  | nil => exact fun _ _ _ k hk => absurd hk k.not_lt_zero
  | cons x l ih =>
    intro p d fits k hk
    obtain ⟨first, rest⟩ := Bool.and_eq_true_iff.mp fits
    cases k with
    | zero => simpa using first
    | succ k =>
      have next := ih _ _ rest k (Nat.lt_of_succ_lt_succ hk)
      rw [mul_assoc, ← pow_succ', mul_assoc, ← pow_succ'] at next
      simpa using next

/-- The rational turn as a complex number. -/
noncomputable def turn : ℂ := entryTurn.toComplex / (1000000000000 : ℝ)

theorem turn_re : turn.re = 999981175223 / 1000000000000 := by
  rw [turn, Complex.div_ofReal_re, ← GaussianInt.intCast_re]
  norm_num [entryTurn]

theorem turn_im : turn.im = 6135884649 / 1000000000000 := by
  rw [turn, Complex.div_ofReal_im, ← GaussianInt.intCast_im]
  norm_num [entryTurn]

theorem turn_pow_im (k : Nat) : (turn ^ k).im = (entryTurn ^ k).im / 1000000000000 ^ k := by
  rw [turn, div_pow, ← map_pow, ← Complex.ofReal_pow, Complex.div_ofReal_im, ← GaussianInt.intCast_im]

theorem sineQuarter_length : sineQuarter.length = 257 := by decide +kernel

/-- An entry of the first quarter is near 32,767 times the height of the turn's power. -/
theorem sineQuarter_turn {k : Nat} (h : k ≤ 256) :
    |(sineQuarter.getD k 0 : ℝ) - 32767 * (turn ^ k).im| ≤ 499 / 1000 := by
  have fits := fitsTurns_getD _ 1 1 sineQuarter_fitsTurns k (by rw [sineQuarter_length]; omega)
  rw [one_mul, one_mul] at fits
  generalize sineQuarter.getD k 0 = x at fits ⊢
  have scale : (0 : ℝ) < 1000000000000 ^ k := by positivity
  have scaled : 1000 * |(32767 * (entryTurn ^ k).im - x * 1000000000000 ^ k : ℝ)| ≤ 499 * 1000000000000 ^ k := by
    have cast : ((1000 * (32767 * (entryTurn ^ k).im - x * (1000000000000 ^ k : Nat)).natAbs : Nat) : ℝ) ≤
        (499 * 1000000000000 ^ k : Nat) := Nat.cast_le.mpr fits
    push_cast [Nat.cast_natAbs] at cast
    exact cast
  have quotient : (x : ℝ) - 32767 * (turn ^ k).im =
      -((32767 * (entryTurn ^ k).im - x * 1000000000000 ^ k) / 1000000000000 ^ k) := by
    rw [turn_pow_im]
    field_simp
    ring
  rw [quotient, abs_neg, abs_div, abs_of_pos scale, div_le_iff₀ scale]
  linarith

/-! ### The rational turn and the turn by π/512 -/

theorem norm_pow_sub_pow_le {z w : ℂ} (hz : ‖z‖ ≤ 1) (hw : ‖w‖ ≤ 1) (k : Nat) :
    ‖z ^ k - w ^ k‖ ≤ k * ‖z - w‖ := by
  induction k with
  | zero => simp
  | succ k ih =>
    have step : z ^ (k + 1) - w ^ (k + 1) = z ^ k * (z - w) + (z ^ k - w ^ k) * w := by ring
    have power : ‖z ^ k‖ ≤ 1 := by
      rw [norm_pow]
      exact pow_le_one₀ (norm_nonneg z) hz
    calc ‖z ^ (k + 1) - w ^ (k + 1)‖ ≤ ‖z ^ k‖ * ‖z - w‖ + ‖z ^ k - w ^ k‖ * ‖w‖ := by
          rw [step, ← norm_mul, ← norm_mul]
          exact norm_add_le _ _
      _ ≤ 1 * ‖z - w‖ + k * ‖z - w‖ * 1 := by gcongr
      _ = (k + 1 : Nat) * ‖z - w‖ := by push_cast; ring

theorem norm_turn_le : ‖turn‖ ≤ 1 := by
  rw [← sq_le_one_iff₀ (norm_nonneg _), Complex.sq_norm, Complex.normSq_apply, turn_re, turn_im]
  norm_num

/-- The angle of one entry. -/
noncomputable def entryAngle : ℝ := Real.pi / 512

theorem entryAngle_bounds : 0.00613592315154 < entryAngle ∧ entryAngle < 0.00613592315155 := by
  have low := Real.pi_gt_d20
  have high := Real.pi_lt_d20
  unfold entryAngle
  constructor <;> linarith

theorem entryAngle_abs : |entryAngle| ≤ 0.0062 := by
  obtain ⟨low, high⟩ := entryAngle_bounds
  rw [abs_le]
  constructor <;> linarith

theorem turn_re_near : |turn.re - Real.cos entryAngle| ≤ 8 / 10 ^ 11 := by
  obtain ⟨low, high⟩ := entryAngle_bounds
  have taylor := abs_le.mp (Real.cos_bound (entryAngle_abs.trans (by norm_num)))
  have fourth : |entryAngle| ^ 4 ≤ 0.0061359231516 ^ 4 := by
    gcongr
    exact abs_le.mpr ⟨by linarith, by linarith⟩
  have above : entryAngle ^ 2 ≤ 0.00613592315155 ^ 2 := by gcongr
  have below : 0.00613592315154 ^ 2 ≤ entryAngle ^ 2 := by gcongr
  rw [turn_re, abs_le]
  constructor <;> linarith

theorem turn_im_near : |turn.im - Real.sin entryAngle| ≤ 1 / 10 ^ 11 := by
  obtain ⟨low, high⟩ := entryAngle_bounds
  have taylor := abs_le.mp (Real.sin_bound (entryAngle_abs.trans (by norm_num)))
  have fifth : |entryAngle| ^ 5 ≤ 0.0061359231516 ^ 5 := by
    gcongr
    exact abs_le.mpr ⟨by linarith, by linarith⟩
  have above : entryAngle ^ 3 ≤ 0.00613592315155 ^ 3 := by gcongr
  have below : 0.00613592315154 ^ 3 ≤ entryAngle ^ 3 := by gcongr
  rw [turn_im, abs_le]
  constructor <;> linarith

/-- The turn by one entry's angle. -/
theorem turn_near : ‖turn - Complex.exp (entryAngle * Complex.I)‖ ≤ 9 / 10 ^ 11 := by
  calc ‖turn - Complex.exp (entryAngle * Complex.I)‖
      ≤ |turn.re - Real.cos entryAngle| + |turn.im - Real.sin entryAngle| := by
        simpa [Complex.exp_ofReal_mul_I_re, Complex.exp_ofReal_mul_I_im] using
          Complex.norm_le_abs_re_add_abs_im (turn - Complex.exp (entryAngle * Complex.I))
    _ ≤ 8 / 10 ^ 11 + 1 / 10 ^ 11 := add_le_add turn_re_near turn_im_near
    _ = 9 / 10 ^ 11 := by norm_num

theorem turn_pow_near (k : Nat) : |(turn ^ k).im - Real.sin (k * entryAngle)| ≤ k * (9 / 10 ^ 11) := by
  have power : Complex.exp (entryAngle * Complex.I) ^ k = Complex.exp ((k * entryAngle : ℝ) * Complex.I) := by
    rw [← Complex.exp_nat_mul]
    push_cast
    rw [mul_assoc]
  have unit : ‖Complex.exp (entryAngle * Complex.I)‖ ≤ 1 := (Complex.norm_exp_ofReal_mul_I _).le
  rw [← Complex.exp_ofReal_mul_I_im, ← power, ← Complex.sub_im]
  calc |(turn ^ k - Complex.exp (entryAngle * Complex.I) ^ k).im|
      ≤ ‖turn ^ k - Complex.exp (entryAngle * Complex.I) ^ k‖ := Complex.abs_im_le_norm _
    _ ≤ k * ‖turn - Complex.exp (entryAngle * Complex.I)‖ := norm_pow_sub_pow_le norm_turn_le unit k
    _ ≤ k * (9 / 10 ^ 11) := by gcongr; exact turn_near

/-- The first quarter is the rounded sine. -/
theorem sineQuarter_rounded {k : Nat} (h : k ≤ 256) :
    |(sineQuarter.getD k 0 : ℝ) - 32767 * Real.sin (k * entryAngle)| ≤ 1 / 2 := by
  have entry := abs_le.mp (sineQuarter_turn h)
  have power := abs_le.mp (turn_pow_near k)
  have count : (k : ℝ) ≤ 256 := by exact_mod_cast h
  rw [abs_le]
  constructor <;> linarith

/-! ### The four quarters -/

theorem sineQuarter_zero : sineQuarter.getD 0 0 = 0 := rfl

theorem sine_first {k : Nat} (h : k ≤ 256) : sine k = sineQuarter.getD k 0 := by
  have small : k % 1024 = k := Nat.mod_eq_of_lt (by omega)
  simp only [sine, small, if_pos h]

theorem sine_second {k : Nat} (low : 256 ≤ k) (high : k ≤ 512) : sine k = sineQuarter.getD (512 - k) 0 := by
  have small : k % 1024 = k := Nat.mod_eq_of_lt (by omega)
  rcases low.eq_or_lt with rfl | low
  · exact sine_first le_rfl
  · simp only [sine, small, if_neg (Nat.not_le.mpr low), if_pos high]

theorem sine_third {k : Nat} (low : 512 ≤ k) (high : k ≤ 768) : sine k = -sineQuarter.getD (k - 512) 0 := by
  have small : k % 1024 = k := Nat.mod_eq_of_lt (by omega)
  rcases low.eq_or_lt with rfl | low
  · rw [sine_second (by decide) le_rfl, Nat.sub_self, sineQuarter_zero, neg_zero]
  · simp only [sine, small, if_neg (show ¬ k ≤ 256 by omega), if_neg (Nat.not_le.mpr low), if_pos high]

theorem sine_fourth {k : Nat} (low : 768 ≤ k) (high : k ≤ 1024) : sine k = -sineQuarter.getD (1024 - k) 0 := by
  rcases low.eq_or_lt with rfl | low
  · exact sine_third (by decide) le_rfl
  rcases high.eq_or_lt with rfl | high
  · rw [← sine_mod, Nat.mod_self, sine_first (by decide), Nat.sub_self, sineQuarter_zero, neg_zero]
  · have small : k % 1024 = k := Nat.mod_eq_of_lt high
    simp only [sine, small, if_neg (show ¬ k ≤ 256 by omega), if_neg (show ¬ k ≤ 512 by omega),
      if_neg (Nat.not_le.mpr low)]

theorem sine_half_sub {k : Nat} (h : k ≤ 512) : sine (512 - k) = sine k := by
  rcases le_total k 256 with first | second
  · rw [sine_second (by omega) (by omega), sine_first first, Nat.sub_sub_self h]
  · rw [sine_first (by omega), sine_second second h]

theorem sine_turn_sub {k : Nat} (h : k ≤ 1024) : sine (1024 - k) = -sine k := by
  have half : ∀ j : Nat, j ≤ 512 → sine (1024 - j) = -sine j := by
    intro j hj
    rcases le_total j 256 with first | second
    · rw [sine_fourth (by omega) (by omega), sine_first first, Nat.sub_sub_self (by omega)]
    · rw [sine_third (by omega) (by omega), sine_second second hj]
      rw [show 1024 - j - 512 = 512 - j by omega]
  rcases le_total k 512 with low | high
  · exact half k low
  · have other := half (1024 - k) (by omega)
    rw [Nat.sub_sub_self h] at other
    rw [other, neg_neg]

/-- Every entry, by its quarter and the sine's own symmetries. -/
theorem sine_rounded {k : Nat} (h : k ≤ 1024) :
    |(sine k : ℝ) - 32767 * Real.sin (k * entryAngle)| ≤ 1 / 2 := by
  have half : ∀ j : Nat, j ≤ 512 → |(sine j : ℝ) - 32767 * Real.sin (j * entryAngle)| ≤ 1 / 2 := by
    intro j hj
    rcases le_total j 256 with first | second
    · rw [sine_first first]
      exact sineQuarter_rounded first
    · have mirrored : Real.sin (j * entryAngle) = Real.sin ((512 - j : Nat) * entryAngle) := by
        rw [← Real.sin_pi_sub, Nat.cast_sub hj, entryAngle]
        congr 1
        push_cast
        ring
      rw [sine_second second hj, mirrored]
      exact sineQuarter_rounded (by omega)
  rcases le_total k 512 with low | high
  · exact half k low
  · have mirrored : Real.sin (k * entryAngle) = -Real.sin ((1024 - k : Nat) * entryAngle) := by
      rw [← Real.sin_two_pi_sub, Nat.cast_sub h, entryAngle]
      congr 1
      push_cast
      ring
    have opposite : sine k = -sine (1024 - k) := by rw [sine_turn_sub h, neg_neg]
    rw [opposite, mirrored]
    have near := half (1024 - k) (by omega)
    rw [← abs_neg] at near
    convert near using 2
    push_cast
    ring

/-- Settles O26: each entry by its quarter, the symmetries from the quarters, and the listed values. -/
theorem sineTableIsTheRoundedSine : Obligations.SineTableIsTheRoundedSine := by
  refine ⟨fun k h => ?_, fun k h => sine_half_sub h, fun k h => sine_turn_sub h, by decide +kernel⟩
  have angle : 2 * Real.pi * (k : ℝ) / 1024 = k * entryAngle := by
    rw [entryAngle]
    ring
  rw [angle]
  exact sine_rounded h.le

end Sys2Proof.Machine
end

section
/-! CONFIGURE ACTUATOR, and the requests that move one channel: ENABLE ACTUATOR, DISABLE ACTUATOR, SET DRY RUN
and CLEAR FAULT, with their tests in order (05 R87 to R94). -/

namespace Sys2Proof.Machine
open Host Statements

/-! ### The channel that a request names, and its zone -/

/-- A request whose payload is the number of channel `a`. -/
theorem onChannel_of_number {r : Request} {a : ActId} (hl : r.payload.length = 1)
    (ha : field r.payload 0 1 = a.val) (f : ActId → Answer) : onChannel r f = f a := by
  have named : index? 8 (field r.payload 0 1) = some a := index?_eq_some.mpr ha
  simp only [onChannel, hl, named, ne_eq, not_true, if_false]

theorem inZone_busy_iff {s : State} {a : ActId} :
    s.inZone a ZoneState.busy = true ↔ ∃ z, s.zoneOf a = some z ∧ Busy s z := by
  simp only [inZone_iff, busy_iff, Busy]

theorem inZone_notIdle_iff {s : State} {a : ActId} :
    s.inZone a (· ≠ .idle) = true ↔ ∃ z, s.zoneOf a = some z ∧ (s.zone z).state ≠ .idle := by
  simp only [inZone_iff, decide_eq_true_eq]

/-! ### CONFIGURE ACTUATOR (05 R92 to R94) -/

theorem inStroke_iff (x : Int) : inStroke x = true ↔ -100000 ≤ x ∧ x ≤ 100000 := by
  rw [inStroke, Bool.and_eq_true, decide_eq_true_eq, decide_eq_true_eq]
  rfl

/-- The range tests (05 R92). -/
theorem ChannelConfig.inRange_iff (c : ChannelConfig) (safe : Int) : c.inRange safe = true ↔
    (-3000000 ≤ c.fMin ∧ c.fMin ≤ 3000000) ∧ (-3000000 ≤ c.fMax ∧ c.fMax ≤ 3000000) ∧ c.fMin ≤ c.fMax ∧
    1 ≤ c.rateStep ∧ c.rateStep ≤ 100000 ∧ c.iLimit ≤ 32767 ∧ c.tolerance ≤ 3000000 ∧ 1 ≤ c.trackCount ∧
    c.trackCount ≤ 2000 ∧ (-100000 ≤ c.strokeMin ∧ c.strokeMin ≤ 100000) ∧
    (-100000 ≤ c.strokeMax ∧ c.strokeMax ≤ 100000) ∧ c.strokeMin ≤ c.strokeMax ∧
    (-3000000 ≤ safe ∧ safe ≤ 3000000) := by
  rw [ChannelConfig.inRange]
  simp only [Bool.and_eq_true, decide_eq_true_eq, inForce_iff, inStroke_iff, and_assoc]

/-- What the protection keeps of a configuration (05 R94). -/
theorem ChannelConfig.widens_iff (old new : ChannelConfig) : old.widens new = true ↔
    new.fMin < old.fMin ∨ old.fMax < new.fMax ∨ new.strokeMin < old.strokeMin ∨
      old.strokeMax < new.strokeMax ∨ new.safeLoad ≠ old.safeLoad := by
  simp only [ChannelConfig.widens, Bool.or_eq_true, decide_eq_true_eq, or_assoc]

/-- The test for PROTECT over the channels of a mask. -/
theorem anyWidens_iff {s : State} {m : Byte} {cfg : ChannelConfig} :
    ((maskActs m).any fun a => s.inZone a ZoneState.busy && (s.chan a).cfg.widens cfg) = true ↔
      ∃ a : ActId, m.getLsbD a = true ∧ (∃ z, s.zoneOf a = some z ∧ Busy s z) ∧
        (cfg.fMin < (s.chan a).cfg.fMin ∨ (s.chan a).cfg.fMax < cfg.fMax ∨
          cfg.strokeMin < (s.chan a).cfg.strokeMin ∨ (s.chan a).cfg.strokeMax < cfg.strokeMax ∨
          cfg.safeLoad ≠ (s.chan a).cfg.safeLoad) := by
  simp only [maskActs_any, Bool.and_eq_true, inZone_busy_iff, ChannelConfig.widens_iff]

section
variable {r : Request} {s : State} (hl : r.payload.length = 38)
include hl

theorem answerConfigureActuator_range (h : byteAt r.payload 0 = 0 ∨
    ¬ (readConfig r.payload).inRange (fieldI r.payload 33 4) = true) :
    answerConfigureActuator r s = .no .range := by
  unfold answerConfigureActuator
  dsimp only
  rw [if_neg (not_not.mpr hl), if_pos]
  rwa [Bool.or_eq_true, decide_eq_true_eq, Bool.not_eq_true', ← Bool.not_eq_true]

/-- The test behind the ranges. -/
theorem answerConfigureActuator_ranged (hm : byteAt r.payload 0 ≠ 0)
    (h : (readConfig r.payload).inRange (fieldI r.payload 33 4) = true) : answerConfigureActuator r s =
      if (maskActs (byteAt r.payload 0)).any fun a =>
          s.inZone a ZoneState.busy && (s.chan a).cfg.widens (readConfig r.payload) then .no .protect
      else .accepted (s.onMask (byteAt r.payload 0) fun c => { c with cfg := readConfig r.payload })
        (encList ((maskActs (byteAt r.payload 0)).map fun _ => encI 4 (readConfig r.payload).safeLoad ++
          encFlag ((readConfig r.payload).safeLoad ≠ fieldI r.payload 33 4))) := by
  unfold answerConfigureActuator
  dsimp only
  rw [if_neg (not_not.mpr hl), if_neg]
  simpa [h] using hm

end

/-- Settles O19: the range, then the protection of the selected channels, then the configuration of all of
them. -/
theorem configureActuatorRule : Obligations.ConfigureActuatorRule := by
  intro s r hr hl p m safe cfg force stroke inRange protects
  have ranged : (readConfig p).inRange safe = true ↔ inRange := (readConfig p).inRange_iff safe
  refine ⟨fun out => ?_, fun hm h guarded => ?_, fun hm h free => ?_⟩
  · exact exec_refused rfl hr (answerConfigureActuator_range hl (out.imp_right (mt ranged.mp)))
  · have read := answerConfigureActuator_ranged (s := s.dequeued) hl hm (ranged.mpr h)
    exact exec_refused rfl hr (read.trans (if_pos (anyWidens_iff.mpr guarded)))
  · have read := answerConfigureActuator_ranged (s := s.dequeued) hl hm (ranged.mpr h)
    have unguarded : ¬ ∃ a : ActId, m.getLsbD a = true ∧ protects a := fun ⟨a, ha, guard⟩ => free a ha guard
    exact ⟨_, _, exec_accepted rfl hr (read.trans (if_neg (mt anyWidens_iff.mp unguarded))),
      onMask_chan s.dequeued m _, rfl, rfl⟩

/-! ### ENABLE ACTUATOR, DISABLE ACTUATOR and CLEAR FAULT (05 R87 to R89) -/

section
variable {r : Request} {a : ActId} (hl : r.payload.length = 1) (ha : field r.payload 0 1 = a.val) (s : State)
include hl ha

theorem answerEnableActuator_named : answerEnableActuator r s =
    if (s.chan a).state ≠ .off ∨ (s.chan a).seen = false then .no .state
    else .accepted (s.setChan a (standby (s.chan a))) (encI 4 (s.chan a).measured.force) := by
  rw [answerEnableActuator, onChannel_of_number hl ha]
  simp only [Bool.or_eq_true, decide_eq_true_eq, Bool.not_eq_true']
  rfl

theorem answerClearFault_named : answerClearFault r s =
    if (s.chan a).state ≠ .fault ∨ s.inZone a ZoneState.busy = true then .no .state
    else .accepted (s.setChan a (standby (s.chan a))) [] := by
  rw [answerClearFault, onChannel_of_number hl ha]
  simp only [Bool.or_eq_true, decide_eq_true_eq]
  rfl

theorem answerDisableActuator_named : answerDisableActuator r s =
    if s.inZone a (· ≠ .idle) = true then .no .state
    else .accepted (s.setChan a (s.chan a).disable)
      (encN 1 (s.chan a).state.code ++ encN 1 (s.chan a).queueLen) := by
  rw [answerDisableActuator, onChannel_of_number hl ha]

end

/-- ENABLE ACTUATOR is refused with STATE outside OFF and before feedback has been seen (05 R87). -/
theorem exec_enableActuator_refused {s : State} {r : Request} {a : ActId} (hr : AtHead s 0x21 r)
    (hl : r.payload.length = 1) (ha : field r.payload 0 1 = a.val)
    (h : (s.chan a).state ≠ .off ∨ (s.chan a).seen = false) :
    exec .enableActuator s = refused s r .state :=
  exec_refused rfl hr ((answerEnableActuator_named hl ha s.dequeued).trans (if_pos h))

/-- Settles O20: each request's test, and what it sets. -/
theorem channelStateRequests : Obligations.ChannelStateRequests := by
  intro s r a hl ha c
  refine ⟨fun hr => ⟨fun off seen => ?_, exec_enableActuator_refused hr hl ha⟩,
    fun hr => ⟨fun fault still => ?_, fun h => ?_⟩, fun hr => ⟨fun idle => ?_, fun h => ?_⟩⟩
  · have ready : ¬ (c.state ≠ .off ∨ c.seen = false) := by simp [off, seen]
    exact exec_accepted rfl hr ((answerEnableActuator_named hl ha s.dequeued).trans (if_neg ready))
  · have free : ¬ (c.state ≠ .fault ∨ s.inZone a ZoneState.busy = true) :=
      not_or.mpr ⟨not_not.mpr fault, mt inZone_busy_iff.mp fun ⟨z, hz, busy⟩ => still z hz busy⟩
    exact exec_accepted rfl hr ((answerClearFault_named hl ha s.dequeued).trans (if_neg free))
  · have held := h.imp_right inZone_busy_iff.mpr
    exact exec_refused rfl hr ((answerClearFault_named hl ha s.dequeued).trans (if_pos held))
  · have free : ¬ s.inZone a (· ≠ .idle) = true :=
      mt inZone_notIdle_iff.mp fun ⟨z, hz, moving⟩ => moving (idle z hz)
    exact exec_accepted rfl hr ((answerDisableActuator_named hl ha s.dequeued).trans (if_neg free))
  · have moving := inZone_notIdle_iff.mpr h
    exact exec_refused rfl hr ((answerDisableActuator_named hl ha s.dequeued).trans (if_pos moving))

/-! ### SET DRY RUN (05 R90) -/

theorem answerSetDryRun_range {r : Request} (hl : r.payload.length = 2)
    (h : 7 < field r.payload 0 1 ∨ 1 < field r.payload 1 1) (s : State) :
    answerSetDryRun r s = .no .range := by
  simp only [answerSetDryRun, hl, ne_eq, not_true, if_false]
  rcases h with number | setting
  · rw [index?_eq_none.mpr number]
  · rw [flag?_eq_none.mpr setting]
    cases index? 8 (field r.payload 0 1) <;> rfl

theorem answerSetDryRun_named {r : Request} {a : ActId} {on : Bool} (hl : r.payload.length = 2)
    (ha : field r.payload 0 1 = a.val) (hon : field r.payload 1 1 = on.toNat) (s : State) :
    answerSetDryRun r s =
      if (s.chan a).state ≠ .off then .no .state
      else .accepted (s.setChan a ((s.chan a).setDryRun on)) (encFlag (s.chan a).dryRun) := by
  simp only [answerSetDryRun, hl, ne_eq, not_true, if_false]
  rw [index?_eq_some.mpr ha, flag?_of_eq on hon]

/-- From on to off the measured record takes the port record. -/
theorem Channel.setDryRun_off {c : Channel} (h : c.dryRun = true) :
    c.setDryRun false = { c with dryRun := false, measured := c.port } := by
  simp [Channel.setDryRun, h]

theorem Channel.setDryRun_on (c : Channel) : c.setDryRun true = { c with dryRun := true } := by
  simp [Channel.setDryRun]

/-- The setting that stands changes nothing. -/
theorem Channel.setDryRun_same (c : Channel) : c.setDryRun c.dryRun = c := by
  simp [Channel.setDryRun]

/-- Settles O21: the two ranges, the state, then the channel by its previous and its new setting. -/
theorem setDryRunRule : Obligations.SetDryRunRule := by
  refine fun s r => ⟨fun hr hl => ⟨fun out => ?_, fun a on ha hon => ?_⟩, fun a hr hl ha _ unseen => ?_⟩
  · exact exec_refused rfl hr (answerSetDryRun_range hl out s.dequeued)
  · intro c ok
    have read := answerSetDryRun_named hl ha hon s.dequeued
    have set (off : c.state = .off) : exec .setDryRun s = ok (c.setDryRun on) :=
      exec_accepted rfl hr (read.trans (if_neg (not_not.mpr off)))
    refine ⟨fun running => ?_, fun off _ now => ?_, fun off was now => ?_, fun off same => ?_⟩
    · exact exec_refused rfl hr (read.trans (if_pos running))
    · rw [set off, now, Channel.setDryRun_on]
    · rw [set off, now, Channel.setDryRun_off was]
    · rw [set off, ← same, Channel.setDryRun_same]
  · exact exec_enableActuator_refused hr hl ha (.inr unseen)

end Sys2Proof.Machine
end

section
/-! READ ACTUATOR: the channel items, the program items and the pipeline items, and the flags that it clears
(03 R54, 04 R77, 05 R95). -/

namespace Sys2Proof.Machine
open Host Statements

theorem encZone?_eq_elim (z : Option ZoneId) : encZone? z = encN 1 (z.elim 255 Fin.val) := by
  cases z <;> rfl

theorem driveCode_eq_ite (x : DriveStatus) : driveCode x = if x = .normal then 0 else 1 := by
  cases x <;> rfl

/-- A measured or port record. -/
theorem feedback_enc (f : Feedback) : f.enc =
    encI 4 f.force ++ encI 4 f.stroke ++ encN 1 (if f.status = .normal then 0 else 1) := by
  rw [Feedback.enc, driveCode_eq_ite]

theorem lastFault_enc (f : LastFault) : f.enc = encN 1 f.causes.code ++ encN 8 f.hall ++
    encN 1 (f.zone.elim 255 Fin.val) ++ encI 4 f.prev ++ encI 4 f.force := by
  rw [LastFault.enc, encZone?_eq_elim]

/-- What READ ACTUATOR shows of a channel's current segment: its kind and tag behind their presence byte, and
its progress (03 R54). -/
def Channel.currentItems (c : Channel) (held : Bool) : Wire :=
  let shown (kind : Nat) (t : Option Nat) (progress : Wire) : Wire :=
    encN 1 1 ++ encN 1 kind ++ encOpt 2 (t.map (encN 2)) ++ progress
  let cycle (n state : Nat) : Wire := encN 1 state ++ encN 4 n ++ encN 1 c.k ++
    (if held then encN 1 c.j ++ encN 4 c.aHold else [])
  match c.current with
  | none => encN 1 0 ++ List.replicate 4 none
  | some (.ramp x _) => shown 1 x.tag (encI 4 c.programValue)
  | some (.dwell x left) => shown 2 x.tag (encN 4 left)
  | some (.cycle x .waiting) => shown 3 x.tag (cycle 0 0)
  | some (.cycle x (.cycling n)) => shown 3 x.tag (cycle n 1)

theorem Channel.encCurrent_eq (c : Channel) (held : Bool) :
    encOpt 4 (c.current.map fun x => encN 1 x.kind ++ encTag c.currentTag) ++ c.encProgress held =
      c.currentItems held := by
  unfold Channel.encProgress Channel.currentItems Channel.currentTag
  cases c.current with
  | none => simp [encOpt]
  | some x =>
    cases x with
    | ramp x left => simp [encOpt, encTag, Current.kind]
    | dwell x left => simp [encOpt, encTag, Current.kind]
    | cycle x p => cases p <;> simp [encOpt, encTag, Current.kind]

theorem Channel.encProgram_eq (c : Channel) (held : Bool) : c.encProgram held =
    encN 1 c.queueLen ++ c.currentItems held ++ encI 4 c.programValue ++ encN 4 c.completed ++
      encTag c.lastTag ++ encN 4 c.underruns ++ encN 4 c.dropped ++ encFlag c.underrunFlag := by
  rw [← Channel.encCurrent_eq, ← List.append_assoc]
  rfl

theorem inZone_eq_any (s : State) (a : ActId) (p : ZoneState → Bool) :
    s.inZone a p = (s.zoneOf a).any fun z => p (s.zone z).state := by
  unfold State.inZone
  cases s.zoneOf a <;> rfl

theorem answerReadActuator_named {r : Request} {a : ActId} (hl : r.payload.length = 1)
    (ha : field r.payload 0 1 = a.val) (s : State) : answerReadActuator r s =
      .accepted (s.setChan a (s.chan a).clearFlags) ((s.chan a).encItems (s.zoneOf a) ++
        (s.chan a).encProgram (s.inZone a (· = .hold)) ++ (s.chan a).encPipeline) :=
  onChannel_of_number hl ha _

/-- Settles O24: accepted in every state, and its results are the items of the layout. -/
theorem readActuatorClearsTheStickyFlags : Obligations.ReadActuatorClearsTheStickyFlags := by
  intro s r a hr hl ha c g zone port tag held channel current cycle program pipeline
  have channelItems : c.encItems (s.zoneOf a) = channel := by
    simp only [Channel.encItems, encZone?_eq_elim, feedback_enc, funext lastFault_enc]
    rfl
  have programItems : c.encProgram (s.inZone a (· = .hold)) = program := by
    rw [Channel.encProgram_eq, inZone_eq_any]
    rfl
  rw [← channelItems, ← programItems]
  exact exec_accepted rfl hr (answerReadActuator_named hl ha s.dequeued)

end Sys2Proof.Machine
end

section
/-! FEEDBACK_ARRIVAL: the record that it stores, and the loss of pressure with its raise (05 R81, R85, R86; 06
R115, R118, R120). -/

namespace Sys2Proof.Machine
open Host Statements

/-! ### The channel -/

theorem Channel.losesPressure_iff (c : Channel) (status : DriveStatus) : c.losesPressure status = true ↔
    status = .pressureLow ∧ c.dryRun = false ∧ (c.state = .standby ∨ c.state = .active) := by
  simp only [Channel.losesPressure, Bool.and_eq_true, Bool.or_eq_true, decide_eq_true_eq,
    Bool.not_eq_true', and_assoc]

/-- The channel as an arrival with PRESSURE LOW leaves it in FAULT. -/
def Channel.hydraulicFault (c : Channel) (f : Feedback) (hall : Nat) (zone : Option ZoneId) : Channel :=
  (c.arrive f).fail { FaultCauses.empty with hydraulic := true } hall zone

theorem Channel.hydraulicFault_eq {c : Channel} (on : c.dryRun = false) (f : Feedback) (hall : Nat)
    (zone : Option ZoneId) : c.hydraulicFault f hall zone = { c with
      port := f, measured := f, seen := true, fresh := true, arrivals := min (c.arrivals + 1) 4294967295
      state := .fault, causes := ⟨false, false, false, true⟩
      lastFault := some ⟨⟨false, false, false, true⟩, hall, zone, c.prev, f.force⟩
      faultCount := min (c.faultCount + 1) 4294967295, valve := 0, current := none
      dropped := if c.current.isSome then min (c.dropped + 1) 4294967295 else c.dropped
      afterCycle := if c.current.isSome then false else c.afterCycle } := by
  have measured : (c.arrive f).measured = f := if_neg (by simp [on])
  have cycle : (c.afterCycle && !c.current.isSome) = if c.current.isSome then false else c.afterCycle := by
    cases c.current <;> simp
  rw [Channel.hydraulicFault, Channel.fail, measured, Channel.drop_eq, ← cycle]
  simp only [Channel.arrive, on]
  rfl

/-! ### The raise between strobes -/

/-- A raise between strobes is stamped by the channels' latest updates (06 R117, R118). -/
theorem raiseNow_stamps (s : State) (source : AlarmSource) (z : ZoneId) (v : Severity) :
    Stamps s z (s.raiseNow source z v).cycle := by
  have cycling : s.cyclingIn z = true ↔ Cycling s z := Zone.any_member (s.zone z) _
  exact ⟨fun h => if_pos (cycling.mpr h), fun h => if_neg (mt cycling.mp h)⟩

/-- The stamp is the same for parts whose zones agree and whose channels agree in their latest updates. -/
theorem stamps_of_same {s t : State} {z : ZoneId} {cycle : Option Nat} (h : Stamps t z cycle)
    (zone : t.zone z = s.zone z) (was : ∀ a, (t.chan a).wasCycling = (s.chan a).wasCycling) :
    Stamps s z cycle := by
  simpa only [Stamps, Cycling, zone, was] using h

/-- A channel written with its mark of a latest cycling update kept leaves every such mark. -/
theorem setChan_wasCycling {s : State} {a : ActId} {c : Channel}
    (h : c.wasCycling = (s.chan a).wasCycling) (b : ActId) :
    ((s.setChan a c).chan b).wasCycling = (s.chan b).wasCycling := by
  rw [State.chan_setChan]
  split
  · rename_i e; rw [e, h]
  · rfl

/-- A MAJOR raise does not touch the channels (06 R120). -/
theorem raise_major_chan {s : State} {r : Raise} (major : r.severity = .major) (a : ActId) :
    (s.raise r).chan a = s.chan a := by
  have enlisted : (s.enlist r).ac = s.ac := by
    unfold State.enlist
    dsimp only
    split <;> rfl
  have triggered (t : State) (time : Nat) (x : AlarmTrigger) : (t.alarmTrigger time x).ac = t.ac := by
    unfold State.alarmTrigger State.trigger
    split
    · split
      · dsimp only; split <;> rfl
      · split <;> rfl
    · rfl
  rw [State.chan, State.raise, triggered, major, State.severityAction, unloadZone_ac, enlisted]
  rfl

/-- A zone that is not in READY, RUN or HOLD. -/
def ZoneState.Retired (x : ZoneState) : Prop := x ≠ .ready ∧ x ≠ .run ∧ x ≠ .hold

/-- After a MAJOR raise its zone is in none of READY, RUN and HOLD (06 R114, R120). -/
theorem raise_major_retired {s : State} {r : Raise} (major : r.severity = .major) :
    ((s.raise r).zone r.zone).state.Retired := by
  by_cases was : (s.zone r.zone).state = .ready ∨ (s.zone r.zone).state = .run ∨
      (s.zone r.zone).state = .hold
  · rcases raise_major major was with e | e <;> rw [e] <;> exact ⟨nofun, nofun, nofun⟩
  · have enlisted : (s.enlist r).zone r.zone = s.zone r.zone := enlist_zone s r r.zone
    rw [raise_zone, major, State.severityAction, unloadZone_of_other (by rwa [enlisted]), enlisted]
    exact ⟨fun e => was (.inl e), fun e => was (.inr (.inl e)), fun e => was (.inr (.inr e))⟩

/-! ### The zone with no member outside FAULT (06 R115) -/

/-- The zone is in UNLOAD with no member outside FAULT. -/
def LostMembers (s : State) (z : ZoneId) : Prop :=
  (s.zone z).state = .unload ∧ ∀ b : ActId, (s.zone z).members.getLsbD b = true → (s.chan b).state = .fault

theorem lostMembers_iff {s : State} {z : ZoneId} :
    ((s.zone z).state = .unload && s.allFaulted z) = true ↔ LostMembers s z := by
  simp only [Bool.and_eq_true, decide_eq_true_eq, State.allFaulted, Zone.all_member, LostMembers]

theorem safeIfAllFaulted_of_lost {s : State} {z : ZoneId} (h : LostMembers s z) :
    s.safeIfAllFaulted z = alarmed (s.setZone z { s.zone z with state := .safe }) :=
  if_pos (lostMembers_iff.mpr h)

theorem safeIfAllFaulted_of_not_lost {s : State} {z : ZoneId} (h : ¬ LostMembers s z) :
    s.safeIfAllFaulted z = s := if_neg (mt lostMembers_iff.mp h)

theorem safeIfAllFaulted_chan (s : State) (z : ZoneId) (a : ActId) :
    (s.safeIfAllFaulted z).chan a = s.chan a := by
  by_cases h : LostMembers s z
  · rw [safeIfAllFaulted_of_lost h]; rfl
  · rw [safeIfAllFaulted_of_not_lost h]

theorem safeIfAllFaulted_retired {s : State} {z : ZoneId} (h : (s.zone z).state.Retired) :
    ((s.safeIfAllFaulted z).zone z).state.Retired := by
  by_cases k : LostMembers s z
  · have safe : (s.safeIfAllFaulted z).zone z = { s.zone z with state := .safe } := by
      rw [safeIfAllFaulted_of_lost k]
      exact (State.zone_setZone ..).trans (if_pos rfl)
    rw [safe]
    exact ⟨nofun, nofun, nofun⟩
  · rwa [safeIfAllFaulted_of_not_lost k]

/-! ### A member's fault (05 R86) -/

theorem memberFault_none {s : State} {a : ActId} (h : s.zoneOf a = none) : s.memberFault a = s := by
  simp only [State.memberFault, h]

theorem memberFault_some {s : State} {a : ActId} {z : ZoneId} (h : s.zoneOf a = some z) :
    s.memberFault a = (s.raise
      ⟨.actuator a, z, .major, (s.raiseNow (.actuator a) z .major).cycle⟩).safeIfAllFaulted z := by
  simp only [State.memberFault, h]
  rfl

theorem memberFault_chan (s : State) (a b : ActId) : (s.memberFault a).chan b = s.chan b := by
  cases h : s.zoneOf a with
  | none => rw [memberFault_none h]
  | some z => rw [memberFault_some h, safeIfAllFaulted_chan, raise_major_chan rfl]

theorem memberFault_retired {s : State} {a : ActId} {z : ZoneId} (h : s.zoneOf a = some z) :
    ((s.memberFault a).zone z).state.Retired := by
  rw [memberFault_some h]
  exact safeIfAllFaulted_retired
    (raise_major_retired (r := ⟨.actuator a, z, .major, (s.raiseNow (.actuator a) z .major).cycle⟩) rfl)

/-! ### The command -/

/-- An arrival under which the channel keeps its pressure only stores the record. -/
theorem exec_feedbackArrival_stored {s : State} {a : ActId} {force stroke : Int} {status : DriveStatus}
    (h : ¬ (s.chan a).losesPressure status = true) :
    exec (.feedbackArrival a force stroke status) s =
      .next (s.setChan a ((s.chan a).arrive (Feedback.ofArrival force stroke status))) := if_neg h

theorem exec_feedbackArrival_lost {s : State} {a : ActId} {force stroke : Int} {status : DriveStatus}
    (h : (s.chan a).losesPressure status = true) :
    exec (.feedbackArrival a force stroke status) s =
      .next (arbitrate ((s.setChan a ((s.chan a).hydraulicFault (Feedback.ofArrival force stroke status) s.hall
        (s.zoneOf a))).memberFault a)) := if_pos h

/-- Settles O18: whether the channel loses its pressure; if so, the member's fault and what its zone comes
to. -/
theorem feedbackArrivalRule : Obligations.FeedbackArrivalRule := by
  refine ⟨fun s a force stroke status => ?_, fun s a force stroke => ?_⟩
  · intro c f keeps
    have pressure : ¬ c.losesPressure status = true := by
      rw [Channel.losesPressure_iff]
      rintro ⟨low, on, standby | active⟩
      · simp [low, on, standby] at keeps
      · simp [low, on, active] at keeps
    exact exec_feedbackArrival_stored pressure
  · intro c f on moving d
    have fault : (s.chan a).hydraulicFault (Feedback.ofArrival force stroke .pressureLow) s.hall (s.zoneOf a) =
        d := Channel.hydraulicFault_eq on f _ _
    have was : d.wasCycling = c.wasCycling := rfl
    have ran := exec_feedbackArrival_lost (force := force) (stroke := stroke)
      ((c.losesPressure_iff .pressureLow).mpr ⟨rfl, on, moving⟩)
    rw [fault] at ran
    have chan (b : ActId) : (arbitrate ((s.setChan a d).memberFault a)).chan b =
        if b = a then d else s.chan b := by
      rw [arbitrate_chan, memberFault_chan, State.chan_setChan]
    refine ⟨_, ran, (chan a).trans (if_pos rfl), fun b other => (chan b).trans (if_neg other),
      fun alone => ?_, fun z member => ?_⟩
    · rw [memberFault_none (s := s.setChan a d) alone]
    · have member' : (s.setChan a d).zoneOf a = some z := member
      have stamped := stamps_of_same (s := s) (raiseNow_stamps (s.setChan a d) (.actuator a) z .major) rfl
        (setChan_wasCycling was)
      obtain ⟨ready, run, hold⟩ := memberFault_retired member'
      rw [← arbitrate_zone] at ready run hold
      refine ⟨ready, run, hold, _, stamped, fun kept => ?_, fun lost => ?_⟩
      · rw [memberFault_some member', safeIfAllFaulted_of_not_lost kept]
      · rw [memberFault_some member', safeIfAllFaulted_of_lost lost]

end Sys2Proof.Machine
end

section
/-! What the work of the part may make of its zones and of its alarm list, said once for the invariants of the
Zone Supervisor (06 R98, R99, R113, R117 to R120). -/

namespace Sys2Proof.Machine
open Host Statements

/-! ### How a raise is taken by the list (06 R118, R119) -/

section
variable {q : ZoneSupervisor} {r : Raise} (time : Nat)

theorem take_again {e : AlarmEntry} (he : e ∈ q.alarms) (source : e.source = r.source) : q.take r time =
    ({ q with alarms := q.alarms.map fun e => if e.source = r.source then e.again r else e }, .occurrence) :=
  if_pos (List.any_eq_true.mpr ⟨e, he, decide_eq_true source⟩)

variable (fresh : ∀ e ∈ q.alarms, e.source ≠ r.source)
include fresh

theorem take_fresh : q.take r time =
    if q.alarms.length < 16 then ({ q with alarms := q.alarms ++ [r.entry time] }, .newEntry)
    else match dropOldestInfo q.alarms with
      | some l => ({ q with alarms := l ++ [r.entry time] }, .newEntry)
      | none => ({ q with overflow := true }, .notStored) := by
  unfold ZoneSupervisor.take
  rw [if_neg (by simpa using fresh)]
  rfl

theorem take_room (room : q.alarms.length < 16) : q.take r time =
    ({ q with alarms := q.alarms ++ [r.entry time] }, .newEntry) :=
  (take_fresh time fresh).trans (if_pos room)

theorem take_evicts (full : 16 ≤ q.alarms.length) {l : List AlarmEntry}
    (info : dropOldestInfo q.alarms = some l) : q.take r time =
    ({ q with alarms := l ++ [r.entry time] }, .newEntry) := by
  rw [take_fresh time fresh, if_neg (Nat.not_lt.mpr full), info]

theorem take_overflows (full : 16 ≤ q.alarms.length) (info : dropOldestInfo q.alarms = none) :
    q.take r time = ({ q with overflow := true }, .notStored) := by
  rw [take_fresh time fresh, if_neg (Nat.not_lt.mpr full), info]

end

theorem dropOldestInfo_eq_some {l m : List AlarmEntry} : dropOldestInfo l = some m ↔
    ∃ l₁ e l₂, l = l₁ ++ e :: l₂ ∧ e.severity = .info ∧ (∀ f ∈ l₁, f.severity ≠ .info) ∧ m = l₁ ++ l₂ := by
  induction l generalizing m with
  | nil => simp [dropOldestInfo]
  | cons x xs ih =>
    unfold dropOldestInfo
    split
    · rename_i info
      refine ⟨fun h => ⟨[], x, xs, rfl, info, by simp, (Option.some.inj h).symm⟩, ?_⟩
      rintro ⟨_ | ⟨y, ys⟩, e, l₂, hl, -, before, rfl⟩
      · exact congrArg some (List.cons.inj hl).2
      · rw [(List.cons.inj hl).1] at info
        exact absurd info (before y List.mem_cons_self)
    · rename_i info
      rw [Option.map_eq_some_iff]
      constructor
      · rintro ⟨m, hm, rfl⟩
        obtain ⟨l₁, e, l₂, rfl, he, before, rfl⟩ := ih.mp hm
        exact ⟨x :: l₁, e, l₂, rfl, he, List.forall_mem_cons.mpr ⟨info, before⟩, rfl⟩
      · rintro ⟨_ | ⟨y, ys⟩, e, l₂, hl, he, before, rfl⟩
        · rw [(List.cons.inj hl).1] at info
          exact absurd he info
        · obtain ⟨rfl, rfl⟩ := List.cons.inj hl
          exact ⟨_, ih.mpr ⟨ys, e, l₂, rfl, he, fun f hf => before f (List.mem_cons_of_mem _ hf), rfl⟩, rfl⟩

theorem dropOldestInfo_eq_none {l : List AlarmEntry} :
    dropOldestInfo l = none ↔ ∀ e ∈ l, e.severity ≠ .info := by
  induction l with
  | nil => simp [dropOldestInfo]
  | cons x xs ih =>
    unfold dropOldestInfo
    split
    · rename_i info; simp [info]
    · rename_i info; simp [info, ih]

/-- Whether a raise finds its source in the list. -/
theorem source_stands_or (q : ZoneSupervisor) (r : Raise) :
    (∃ e ∈ q.alarms, e.source = r.source) ∨ ∀ e ∈ q.alarms, e.source ≠ r.source := by
  by_cases h : ∃ e ∈ q.alarms, e.source = r.source
  · exact .inl h
  · exact .inr fun e he hs => h ⟨e, he, hs⟩

/-- The list after a raise: the raise's source stands again, or a new entry stands behind a part of the list,
which has room for it, or the list stands. -/
theorem take_alarms_cases (q : ZoneSupervisor) (r : Raise) (time : Nat) :
    (q.take r time).1.alarms = (q.alarms.map fun e => if e.source = r.source then e.again r else e) ∨
    ((∀ e ∈ q.alarms, e.source ≠ r.source) ∧ ∃ l : List AlarmEntry, l.Sublist q.alarms ∧
      (q.alarms.length ≤ 16 → l.length < 16) ∧ (q.take r time).1.alarms = l ++ [r.entry time]) ∨
    (q.take r time).1.alarms = q.alarms := by
  rcases source_stands_or q r with ⟨e, he, source⟩ | fresh
  · exact .inl (by rw [take_again time he source])
  by_cases room : q.alarms.length < 16
  · exact .inr (.inl ⟨fresh, _, .refl _, fun _ => room, by rw [take_room time fresh room]⟩)
  have full := Nat.not_lt.mp room
  cases info : dropOldestInfo q.alarms with
  | none => exact .inr (.inr (by rw [take_overflows time fresh full info]))
  | some l =>
    refine .inr (.inl ⟨fresh, l, ?_, fun most => ?_, by rw [take_evicts time fresh full info]⟩)
    all_goals obtain ⟨l₁, e, l₂, hl, -, -, rfl⟩ := dropOldestInfo_eq_some.mp info
    · rw [hl]
      exact (List.Sublist.refl l₁).append (List.sublist_cons_self e l₂)
    · rw [hl, List.length_append, List.length_cons] at most
      rw [List.length_append]
      omega

/-- An entry of the list after a raise stood before, or is of the raise's zone and severity. -/
theorem mem_take {q : ZoneSupervisor} {r : Raise} {time : Nat} {e : AlarmEntry}
    (h : e ∈ (q.take r time).1.alarms) : e ∈ q.alarms ∨ e.zone = r.zone ∧ e.severity = r.severity := by
  rcases take_alarms_cases q r time with again | ⟨-, l, sub, -, new⟩ | same
  · rw [again, List.mem_map] at h
    obtain ⟨f, hf, rfl⟩ := h
    split
    · exact .inr ⟨rfl, rfl⟩
    · exact .inl hf
  · rw [new, List.mem_append, List.mem_singleton] at h
    rcases h with h | rfl
    · exact .inl (sub.subset h)
    · exact .inr ⟨rfl, rfl⟩
  · exact .inl (same ▸ h)

/-! ### How a zone may move -/

/-- What every work but DEFINE ZONE and a reset makes of a zone: its members stay; it comes to RUN only where
that is `free` to it; and reasons that are empty outside HOLD stay so. -/
structure Zone.Moves (free : Prop) (x y : Zone) : Prop where
  members : y.members = x.members
  run : y.state = .run → x.state = .run ∨ free
  reasons : (x.state ≠ .hold → x.reasons = HoldReasons.empty) → y.state ≠ .hold → y.reasons = HoldReasons.empty

theorem Zone.Moves.of_same {free : Prop} {x y : Zone} (members : y.members = x.members)
    (state : y.state = x.state) (reasons : y.reasons = x.reasons) : x.Moves free y :=
  ⟨members, fun h => .inl (state ▸ h), fun h k => reasons.trans (h (state ▸ k))⟩

theorem Zone.Moves.refl {free : Prop} (x : Zone) : x.Moves free x := .of_same rfl rfl rfl

theorem Zone.Moves.trans {free : Prop} {x y z : Zone} (h : x.Moves free y) (k : y.Moves free z) :
    x.Moves free z :=
  ⟨k.members.trans h.members, fun run => (k.run run).elim h.run .inr, fun e => k.reasons (h.reasons e)⟩

theorem Zone.Moves.weaken {free more : Prop} {x y : Zone} (h : x.Moves free y) (w : free → more) :
    x.Moves more y := ⟨h.members, fun run => (h.run run).imp_right w, h.reasons⟩

/-- A zone written with empty reasons, in another state than RUN. -/
theorem Zone.Moves.of_empty {free : Prop} {x y : Zone} (members : y.members = x.members)
    (run : y.state ≠ .run) (reasons : y.reasons = HoldReasons.empty) : x.Moves free y :=
  ⟨members, fun h => absurd h run, fun _ _ => reasons⟩

/-- A zone written in HOLD. -/
theorem Zone.Moves.of_hold {free : Prop} {x y : Zone} (members : y.members = x.members)
    (hold : y.state = .hold) : x.Moves free y :=
  ⟨members, fun h => absurd (hold.symm.trans h) (by decide), fun _ k => absurd hold k⟩

/-- Every zone moves, none of them newly to RUN. -/
def Supervised (s t : State) : Prop := ∀ z, (s.zone z).Moves False (t.zone z)

theorem Supervised.refl (s : State) : Supervised s s := fun _ => .refl _

theorem Supervised.trans {s t u : State} (h : Supervised s t) (k : Supervised t u) : Supervised s u :=
  fun z => (h z).trans (k z)

theorem Supervised.of_zones {s t : State} (zones : t.zs.zones = s.zs.zones) : Supervised s t := fun z => by
  rw [State.zone, State.zone, zones]
  exact .refl _

theorem setZone_supervised {s : State} {z : ZoneId} {x : Zone} (h : (s.zone z).Moves False x) :
    Supervised s (s.setZone z x) := fun y => by
  rw [State.zone_setZone]
  split
  · rename_i e; rw [e]; exact h
  · exact .refl _

theorem enterUnload_moves (x : Zone) (b : Bool) : x.Moves False (x.enterUnload b) := .of_empty rfl nofun rfl

/-- ALARM-pending is not the zones'. -/
theorem Supervised.alarm {s t : State} (h : Supervised s t) : Supervised s t.alarm := h

theorem enterSafe_moves {x : Zone} (unload : x.state = .unload) (first : Bool) :
    x.Moves False { x with state := .safe, unloadFirst := first } :=
  ⟨rfl, (by cases ·), fun empty _ => empty (by rw [unload]; decide)⟩

/-- A cause of HOLD (06 R111). -/
theorem holdZone_supervised (s : State) (z : ZoneId) (r : HoldReason) : Supervised s (s.holdZone z r) := by
  intro y
  by_cases run : (s.zone z).state = .run
  · rw [holdZone_of_run r run, held_zone]
    split
    · rename_i e; rw [e]; exact .of_hold rfl rfl
    · exact .refl _
  by_cases hold : (s.zone z).state = .hold
  · rw [holdZone_of_hold r hold, addReason_zone]
    split
    · rename_i e; rw [e]; exact .of_hold rfl hold
    · exact .refl _
  · rw [holdZone_of_other r run hold]
    exact .refl _

/-- A zone that no member outside FAULT is left in leaves UNLOAD for SAFE (06 R115). -/
theorem safeIfAllFaulted_supervised (s : State) (z : ZoneId) : Supervised s (s.safeIfAllFaulted z) := by
  by_cases lost : LostMembers s z
  · rw [safeIfAllFaulted_of_lost lost]
    exact (setZone_supervised (enterSafe_moves lost.1 (s.zone z).unloadFirst)).alarm
  · rw [safeIfAllFaulted_of_not_lost lost]
    exact .refl s

/-- A cause of UNLOAD (06 R114). -/
theorem unloadZone_supervised (s : State) (z : ZoneId) (b : Bool) : Supervised s (s.unloadZone z b) := by
  have entered : Supervised s (s.setZone z ((s.zone z).enterUnload b)).alarm :=
    (setZone_supervised (enterUnload_moves _ b)).alarm
  unfold State.unloadZone
  split
  · exact entered.trans (safeIfAllFaulted_supervised _ z)
  · exact entered.trans (safeIfAllFaulted_supervised _ z)
  · exact entered.trans (safeIfAllFaulted_supervised _ z)
  all_goals exact .refl s

/-- A raise: its severity acts on its zone (06 R120). -/
theorem raise_supervised (s : State) (r : Raise) : Supervised s (s.raise r) := by
  intro z
  rw [raise_zone, ← enlist_zone s r z]
  cases r.severity with
  | info => exact .refl _
  | minor => exact holdZone_supervised _ _ _ z
  | major => exact unloadZone_supervised _ _ _ z

/-- After a MINOR or MAJOR raise its zone is not in RUN (06 R120). -/
theorem raise_leaves_run {s : State} {r : Raise} (h : r.severity ≠ .info) :
    ((s.raise r).zone r.zone).state ≠ .run := by
  cases e : r.severity with
  | info => exact absurd e h
  | major => exact (raise_major_retired e).2.1
  | minor =>
    by_cases moving : (s.zone r.zone).state = .run ∨ (s.zone r.zone).state = .hold
    · rw [(raise_minor e moving).1]
      decide
    · obtain ⟨run, hold⟩ := not_or.mp moving
      rw [← enlist_zone s r r.zone] at run hold
      rw [raise_zone, e, State.severityAction, holdZone_of_other _ run hold]
      exact run

/-- A zone's own move at a strobe (06 R111, R112, R115). -/
theorem zoneMoves_supervised (s : State) (outs : Vector Outcomes 8) (z : ZoneId) :
    Supervised s (s.zoneMoves outs z) := by
  unfold State.zoneMoves
  dsimp only
  split
  · exact Supervised.alarm (setZone_supervised (by exact .of_same rfl rfl rfl))
  split
  · rename_i safe
    exact (setZone_supervised (enterSafe_moves (atSafe_unload safe) false)).alarm
  split
  · exact holdZone_supervised s z .segment
  split
  · exact setZone_supervised (.of_same rfl rfl rfl)
  · exact .refl s

theorem zoneMoves_sameList (s : State) (outs : Vector Outcomes 8) (z : ZoneId) :
    SameList s (s.zoneMoves outs z) := by
  unfold State.zoneMoves
  dsimp only
  split
  · exact ⟨rfl, rfl⟩
  split
  · exact ⟨rfl, rfl⟩
  split
  · exact holdZone_sameList s z .segment
  split <;> exact ⟨rfl, rfl⟩

theorem safeIfAllFaulted_sameList (s : State) (z : ZoneId) : SameList s (s.safeIfAllFaulted z) := by
  unfold State.safeIfAllFaulted
  split <;> exact ⟨rfl, rfl⟩

end Sys2Proof.Machine
end

section
/-! What each request to the zones can make of the part (06 R99 to R101, R106 to R114, R122). -/

namespace Sys2Proof.Machine
open Host Statements

/-! ### The requests that name a zone -/

theorem onZone_leads_named {P : State → Prop} {len : Nat} {r : Request} {f : ZoneId → Answer}
    (h : ∀ z : ZoneId, field r.payload 0 1 = z.val → (f z).Leads P) : (onZone len r f).Leads P := by
  unfold onZone
  split; · trivial
  split
  · exact h _ (index?_eq_some.mp ‹_›)
  · trivial

/-- What an accepted request makes of the part, by its command; `z` is the zone that it names. -/
inductive ZoneAct (s : State) (z : ZoneId) : Instr → State → Prop
  | defineZone (c : ZoneConfig) (apart : s.takenElsewhere z c.members = false) :
      ZoneAct s z .defineZone (s.setZone z ((s.zone z).define c))
  | setCycleRate (rate inc : Nat) : ZoneAct s z .setCycleRate (s.setZone z { s.zone z with rate, inc })
  | resetCycleCount : ZoneAct s z .resetCycleCount (s.setZone z { s.zone z with cycleCount := 0, missed := 0 })
  | prepare : ZoneAct s z .prepare (s.prepareZone z)
  | start (T : Nat) :
      ZoneAct s z .start (s.setZone z { s.zone z with pendingStart := some T, lastStart := .none })
  | hold : ZoneAct s z .hold (s.holdZone z .request)
  | resume (next : Nat) (clear : s.standing z = false) :
      ZoneAct s z .resume (s.setZone z ((s.zone z).resume next)).alarm
  | unload : ZoneAct s z .unload (s.unloadZone z false)
  | release (was : (s.zone z).state = .ready ∨ (s.zone z).state = .safe) :
      ZoneAct s z .release (s.releaseZone z)

/-- A command's request acts on the zone that it names. -/
def ActsOn (i : Instr) (r : Request) (s t : State) : Prop :=
  ∃ z : ZoneId, field r.payload 0 1 = z.val ∧ ZoneAct s z i t

theorem answerDefineZone_acts (r : Request) (s : State) :
    (answerDefineZone r s).Leads (ActsOn .defineZone r s) := by
  refine onZone_leads_named fun z hz => ?_
  split; · trivial
  split
  · trivial
  · rename_i c _ free
    have apart : s.takenElsewhere z c.members = false := by
      rw [Bool.or_eq_true, not_or, Bool.not_eq_true] at free
      exact Bool.eq_false_iff.mpr free.2
    exact ⟨z, hz, .defineZone c apart⟩

theorem answerSetCycleRate_acts (r : Request) (s : State) :
    (answerSetCycleRate r s).Leads (ActsOn .setCycleRate r s) := by
  refine onZone_leads_named fun z hz => ?_
  dsimp only
  split; · trivial
  split; · trivial
  exact ⟨z, hz, .setCycleRate _ _⟩

theorem answerResetCycleCount_acts (r : Request) (s : State) :
    (answerResetCycleCount r s).Leads (ActsOn .resetCycleCount r s) := by
  refine onZone_leads_named fun z hz => ?_
  split; · trivial
  exact ⟨z, hz, .resetCycleCount⟩

theorem answerPrepare_acts (r : Request) (s : State) : (answerPrepare r s).Leads (ActsOn .prepare r s) := by
  refine onZone_leads_named fun z hz => ?_
  dsimp only
  split; · trivial
  split; · trivial
  exact ⟨z, hz, .prepare⟩

theorem answerStart_acts (r : Request) (s : State) : (answerStart r s).Leads (ActsOn .start r s) := by
  refine onZone_leads_named fun z hz => ?_
  split; · trivial
  dsimp only
  split; · trivial
  split; · trivial
  split; · trivial
  split; · trivial
  exact ⟨z, hz, .start _⟩

theorem answerHold_acts (r : Request) (s : State) : (answerHold r s).Leads (ActsOn .hold r s) := by
  refine onZone_leads_named fun z hz => ?_
  split
  · exact ⟨z, hz, .hold⟩
  · trivial

theorem answerResume_acts (r : Request) (s : State) : (answerResume r s).Leads (ActsOn .resume r s) := by
  refine onZone_leads_named fun z hz => ?_
  dsimp only
  split; · trivial
  split; · trivial
  rename_i clear
  simp only [Bool.or_eq_true, not_or, Bool.not_eq_true] at clear
  exact ⟨z, hz, .resume _ clear.1.2⟩

theorem answerUnload_acts (r : Request) (s : State) : (answerUnload r s).Leads (ActsOn .unload r s) := by
  refine onZone_leads_named fun z hz => ?_
  dsimp only
  split
  · exact ⟨z, hz, .unload⟩
  · trivial

theorem answerRelease_acts (r : Request) (s : State) : (answerRelease r s).Leads (ActsOn .release r s) := by
  refine onZone_leads_named fun z hz => ?_
  dsimp only
  split
  · rename_i was
    exact ⟨z, hz, .release (by simpa using was)⟩
  · trivial

/-- The commands whose request writes the zone that it names. -/
def zoneWrites : List Instr :=
  [.defineZone, .setCycleRate, .resetCycleCount, .prepare, .start, .hold, .resume, .unload, .release]

/-- What those requests lead to. -/
theorem zoneWrites_acts {i : Instr} (hi : i ∈ zoneWrites) {p : Byte → Bool} {act : Request → State → Answer}
    (ha : requestArm i = some (p, act)) (r : Request) (s : State) : (act r s).Leads (ActsOn i r s) := by
  simp only [zoneWrites, List.mem_cons, List.not_mem_nil, or_false] at hi
  rcases hi with rfl | rfl | rfl | rfl | rfl | rfl | rfl | rfl | rfl <;> cases ha
  · exact answerDefineZone_acts r s
  · exact answerSetCycleRate_acts r s
  · exact answerResetCycleCount_acts r s
  · exact answerPrepare_acts r s
  · exact answerStart_acts r s
  · exact answerHold_acts r s
  · exact answerResume_acts r s
  · exact answerUnload_acts r s
  · exact answerRelease_acts r s

/-- READ ZONE and READ ALARMS change nothing (06 R123). -/
theorem answerReadZone_leads {P : State → Prop} (r : Request) {s : State} (h : P s) :
    (answerReadZone r s).Leads P := onZone_leads_named fun _ _ => h

theorem answerReadAlarms_leads {P : State → Prop} (r : Request) {s : State} (h : P s) :
    (answerReadAlarms r s).Leads P := by
  unfold answerReadAlarms
  split
  · trivial
  · exact h

/-! ### ACK ALARM (06 R122, 09 R172) -/

theorem clearLatchOf_only (s : State) (x : AlarmSource) :
    s.clearLatchOf x = { s with lw := (s.clearLatchOf x).lw } := by
  cases x <;> rfl

/-- The latches of a list of sources cleared: the Limit Watch alone changes. -/
theorem clearLatches_only (l : List AlarmEntry) (s : State) :
    l.foldl (fun t e => t.clearLatchOf e.source) s =
      { s with lw := (l.foldl (fun t e => t.clearLatchOf e.source) s).lw } :=
  foldl_keeps (fun t => t = { s with lw := t.lw }) _
    (fun t e h => by rw [clearLatchOf_only t e.source, h]) l s rfl

theorem ackSource_eq (s : State) (x : AlarmSource) : s.ackSource x = { s with
    zs := { s.zs with alarms := s.zs.alarms.filter fun e => !decide (e.source = x) }
    lw := (s.ackSource x).lw } := clearLatchOf_only _ x

theorem ackZone_eq (s : State) (z : ZoneId) : s.ackZone z = { s with
    zs := { s.zs with alarms := s.zs.alarms.filter fun e => !decide (e.zone = z) }
    lw := (s.ackZone z).lw } := clearLatches_only _ _

theorem ackOverflow_eq (s : State) : s.ackOverflow = { s with
    zs := { s.zs with overflow := false }
    lp := { s.lp with alarmPending := s.lp.alarmPending || s.zs.overflow } } := by
  unfold State.ackOverflow
  dsimp only
  split
  · rename_i h; simp [State.alarm, h]
  · rename_i h; simp [h]

/-- What ACK ALARM may change: entries leave the list, the overflow flag, the latches, ALARM-pending. -/
structure Acked (s t : State) : Prop where
  only : t = { s with
    zs := { s.zs with alarms := t.zs.alarms, overflow := t.zs.overflow }, lw := t.lw
    lp := { s.lp with alarmPending := t.lp.alarmPending } }
  alarms : t.zs.alarms.Sublist s.zs.alarms

theorem ackSource_acked (s : State) (x : AlarmSource) : Acked s (s.ackSource x) := by
  rw [ackSource_eq]
  exact ⟨rfl, List.filter_sublist⟩

theorem ackZone_acked (s : State) (z : ZoneId) : Acked s (s.ackZone z) := by
  rw [ackZone_eq]
  exact ⟨rfl, List.filter_sublist⟩

theorem ackOverflow_acked (s : State) : Acked s s.ackOverflow := by
  rw [ackOverflow_eq]
  exact ⟨rfl, .refl _⟩

theorem answerAckAlarm_leads (r : Request) (s : State) : (answerAckAlarm r s).Leads (Acked s) := by
  unfold answerAckAlarm
  dsimp only
  split; · trivial
  split
  · split
    · exact ackSource_acked s _
    · trivial
  · split
    · exact ackZone_acked s _
    · trivial
  · exact ackOverflow_acked s
  · trivial

end Sys2Proof.Machine
end

section
/-! Every step keeps what the moves of the zones and of the alarm list keep: the closure conditions, and the
step once for all of them. -/

namespace Sys2Proof.Machine
open Host Statements

/-! ### The closure conditions -/

/-- An entry without its reported flag, which the ALARM report sets (01 R15). -/
def AlarmEntry.plain (e : AlarmEntry) : AlarmEntry := { e with reported := false }

/-- The list of `t` is a part of that of `s`, in its order, the reported flags aside. -/
def ListWithin (s t : State) : Prop :=
  (t.zs.alarms.map AlarmEntry.plain).Sublist (s.zs.alarms.map AlarmEntry.plain)

theorem ListWithin.of_eq {s t : State} (h : t.zs.alarms = s.zs.alarms) : ListWithin s t := by
  rw [ListWithin, h]

theorem ListWithin.of_sublist {s t : State} (h : t.zs.alarms.Sublist s.zs.alarms) : ListWithin s t := h.map _

/-- A property of the zones and of the alarm list that every work of the part keeps: the zones' moves with
entries that leave, a raise, DEFINE ZONE, and a reset. -/
structure ZonesClosed (P : State → Prop) : Prop where
  moved : ∀ {s t : State}, P s → ListWithin s t →
    (∀ z, (s.zone z).Moves (s.standing z = false) (t.zone z)) → P t
  raised : ∀ {s t : State} (r : Raise) (time : Nat), P s → t.zs.alarms = (s.zs.take r time).1.alarms →
    Supervised s t → (r.severity ≠ .info → (t.zone r.zone).state ≠ .run) → P t
  defined : ∀ {s : State} (z : ZoneId) (c : ZoneConfig), P s → s.takenElsewhere z c.members = false →
    P (s.setZone z ((s.zone z).define c))
  reset : ∀ {t : State}, t.zs = ZoneSupervisor.reset → P t

/-! ### What leaves the Zone Supervisor alone -/

theorem scanAnswer_zs (s : State) (b : BankId) (v : Option (List Int)) : (s.scanAnswer b v).zs = s.zs := by
  unfold State.scanAnswer
  split <;> rfl

theorem dropWaitingScan_zs (s : State) (b : BankId) : (s.dropWaitingScan b).zs = s.zs := by
  unfold State.dropWaitingScan
  dsimp only
  split
  · rfl
  · exact scanAnswer_zs _ b none

theorem frameEnd_zs (s : State) : s.frameEnd.zs = s.zs := by
  unfold State.frameEnd
  split
  · rfl
  · dsimp only
    split <;> rfl

/-- The Link Port's requests. -/
theorem linkAnswers_zs : ∀ act ∈ [answerSetGroup, answerSetReporting, answerReadLinkCounts, answerRestart],
    ∀ (r : Request) (s : State), (act r s).Leads fun t => t.zs = s.zs := by
  simp only [List.forall_mem_cons, List.not_mem_nil, false_implies, implies_true, and_true]
  and_intros
  all_goals
    intro r s
    simp only [answerSetGroup, answerSetReporting, answerReadLinkCounts, answerRestart]
    repeat' split
    all_goals first
      | exact Answer.leads_refused ..
      | rfl

section
variable {P : State → Prop} (closed : ZonesClosed P)
include closed

/-! ### The Zone Supervisor's own work -/

theorem ZonesClosed.supervised {s t : State} (h : P s) (list : ListWithin s t) (zones : Supervised s t) : P t :=
  closed.moved h list fun z => (zones z).weaken False.elim

theorem ZonesClosed.same {s t : State} (h : P s) (zs : t.zs = s.zs) : P t :=
  closed.supervised h (.of_eq (by rw [zs])) (.of_zones (by rw [zs]))

/-- A reply and the arbiter, whose ALARM report marks its entries (01 R15). -/
theorem ZonesClosed.framed {s t : State} (h : P s) (f : RequestFrame s t) : P t :=
  closed.supervised h (by rw [ListWithin, show t.zs.alarms.map AlarmEntry.plain = _ from f.alarms.2]; rfl)
    (.of_zones f.zones)

theorem ZonesClosed.arbitrate {s : State} (h : P s) : P (arbitrate s) :=
  closed.framed h (arbitrate_requestFrame (.refl s))

theorem ZonesClosed.holdZone {s : State} (h : P s) (z : ZoneId) (r : HoldReason) : P (s.holdZone z r) :=
  closed.supervised h (.of_eq (holdZone_sameList s z r).1) (holdZone_supervised s z r)

theorem ZonesClosed.unloadZone {s : State} (h : P s) (z : ZoneId) (b : Bool) : P (s.unloadZone z b) :=
  closed.supervised h (.of_eq (unloadZone_sameList s z b).1) (unloadZone_supervised s z b)

theorem ZonesClosed.setZone {s : State} (h : P s) {z : ZoneId} {x : Zone}
    (moves : (s.zone z).Moves (s.standing z = false) x) : P (s.setZone z x) := by
  refine closed.moved h (.of_eq rfl) fun y => ?_
  rw [State.zone_setZone]
  split
  · rename_i e; rw [e]; exact moves
  · exact .refl _

theorem ZonesClosed.raise {s : State} (h : P s) (r : Raise) : P (s.raise r) :=
  closed.raised r s.hall h (raise_list s r).1 (raise_supervised s r) raise_leaves_run

theorem ZonesClosed.raiseAll {s : State} (h : P s) (l : List Raise) : P (s.raiseAll l) :=
  foldl_keeps P State.raise (fun _ r ht => closed.raise ht r) _ _ (closed.same h rfl)

theorem ZonesClosed.memberFault {s : State} (h : P s) (a : ActId) : P (s.memberFault a) := by
  cases e : s.zoneOf a with
  | none => rw [memberFault_none e]; exact h
  | some z =>
    rw [memberFault_some e]
    exact closed.supervised (closed.raise h _) (.of_eq (safeIfAllFaulted_sameList _ z).1)
      (safeIfAllFaulted_supervised _ z)

/-! ### Scans -/

theorem ZonesClosed.deferredReply {s : State} (h : P s) (tag : Option Byte) (kind : Byte) (w : Wire) :
    P (s.deferredReply tag kind w) := by
  unfold State.deferredReply
  split
  · exact h
  · exact closed.same h rfl

theorem ZonesClosed.finishScan {s : State} (h : P s) (x : Scan) : P (s.finishScan x) := by
  unfold State.finishScan State.zeroScan State.convertScan
  dsimp only
  split
  · split
    · refine closed.deferredReply ?_ _ _ _
      exact closed.same h rfl
    · exact closed.same h rfl
  · split
    · exact closed.same h rfl
    · refine closed.raiseAll ?_ _
      exact closed.same h rfl

theorem ZonesClosed.consult {s : State} (h : P s) : P s.consult := by
  have run (n : Nat) : ∀ {t : State}, P t → P (t.runScans n) := by
    induction n with
    | zero => exact id
    | succ n ih =>
      intro t ht
      unfold State.runScans
      split
      · split
        · exact ih (closed.finishScan ht _)
        · exact ht
      · split
        · exact ih (closed.same ht rfl)
        · exact ht
  exact run 14 h

theorem ZonesClosed.phaseRequest {s : State} (h : P s) (p : PhaseRequest) : P (s.phaseRequest p) := by
  have slotted : P { s with se := { s.se with slots := s.se.slots.set p.zone (some p) } } :=
    closed.same h rfl
  unfold State.phaseRequest
  dsimp only
  refine closed.consult ?_
  split
  · exact closed.setZone slotted (.of_same rfl rfl rfl)
  · exact slotted

theorem ZonesClosed.testEnd {s : State} (h : P s) (b : BankId) (v : Option Int) : P (s.testEnd b v) := by
  unfold State.testEnd
  split
  · exact h
  · refine closed.deferredReply ?_ _ _ _
    exact closed.same h rfl

theorem ZonesClosed.conversionEnd {s : State} (h : P s) (b : BankId) (c : Conversion)
    (v : Option (List Int)) : P (s.conversionEnd b c v) := by
  have sent : ∀ t : State, P t → P (t.setBank b (t.se.banks[b].sendWaiting t.osc)).consult := by
    intro t ht
    refine closed.consult ?_
    exact closed.same ht rfl
  unfold State.conversionEnd
  cases c with
  | scan gs => exact sent _ (closed.same h (scanAnswer_zs s b v))
  | test g => exact sent _ (closed.testEnd h b _)

/-! ### The strobe -/

theorem ZonesClosed.strobeEvent {s : State} (h : P s) (q : Seen) (e : StrobeTask) : P (s.strobeEvent q e) := by
  cases e with
  | raise src z v => exact closed.raise h _
  | loss z =>
    show P (s.syncLoss _)
    unfold State.syncLoss
    split
    · exact closed.holdZone (closed.raise h _) _ _
    · exact h
  | scans l => exact foldl_keeps P _ (fun _ p ht => closed.phaseRequest ht p) l s h
  | frame b =>
    obtain ⟨-, zs, -⟩ := takeFrame_same s q.chans b
    exact closed.same h zs

theorem ZonesClosed.bumpFree {s : State} (h : P s) : P s.bumpFree := closed.same h rfl

theorem ZonesClosed.zoneMoves {s : State} (h : P s) (outs : Vector Outcomes 8) (l : List ZoneId) :
    P (l.foldl (fun u z => u.zoneMoves outs z) s) :=
  foldl_keeps P _ (fun t z ht => closed.supervised ht (.of_eq (zoneMoves_sameList t outs z).1)
    (zoneMoves_supervised t outs z)) l s h

/-- The clocks' work of a strobe (06 R103 to R105). -/
theorem ZonesClosed.clocksWork {s t : State} {started : ZoneId → Bool} (h : P s)
    (alarms : t.zs.alarms = s.zs.alarms) (zones : ∀ z, t.zone z = (s.workOf started z).zone) : P t := by
  refine closed.supervised h (.of_eq alarms) fun z => ?_
  have work := workOf_same s started z
  rw [zones]
  exact .of_same work.members work.state work.reasons

theorem ZonesClosed.strobeWork {s : State} (h : P s) (started : ZoneId → Bool) (lost timeSet : Bool) :
    P (s.strobeWork started lost timeSet) := by
  unfold State.strobeWork
  dsimp only
  refine strobeEvents_keeps P _ _ (fun t q e _ ht => closed.strobeEvent ht q e.task) _ _ _ ?_
  refine closed.bumpFree ?_
  refine closed.zoneMoves ?_ _ _
  refine closed.clocksWork (started := started) h rfl fun z => ?_
  exact (tabMap_get ..).trans (congrArg ZoneWork.zone (tabMap_get ..))

theorem ZonesClosed.decideStarts {s : State} (h : P s) : P s.decideStarts := by
  obtain ⟨frame, zone⟩ := decideStarts_spec s
  refine closed.moved h (.of_eq frame.alarms) fun z => ?_
  rw [zone]
  by_cases starts : s.starts z = true
  · rw [startOf_starts starts]
    have free : s.standing z = false := by
      simp only [State.starts, Bool.and_eq_true, Bool.not_eq_true', Bool.or_eq_false_iff] at starts
      exact starts.2.1
    exact ⟨rfl, fun _ => .inr free, fun _ _ => rfl⟩
  · unfold State.startOf
    dsimp only
    split
    · rename_i due
      split
      · exact .of_same rfl rfl rfl
      split
      · exact .of_same rfl rfl rfl
      · rename_i zero blocked
        exact absurd (by simp [State.starts, due, zero, blocked]) starts
    · exact .refl _

theorem ZonesClosed.strobe {s : State} (h : P s) (src : StrobeSource) (lost : Bool) :
    P (s.strobe src lost) := by
  unfold State.strobe
  exact closed.strobeWork (closed.decideStarts (closed.same (t := s.tbStrobe src) h rfl)) _ _ _

/-- Sync regained: SYNC leaves the reasons of every zone (06 R116). -/
theorem ZonesClosed.regain {s : State} (h : P s) : P s.regain := by
  have dropped : P ((List.finRange 4).foldl State.dropSyncReason
      { s with tb := { s.tb with syncLost := false, regainRun := 0, subRun := 0 } }) := by
    rw [dropSyncReasons_eq]
    refine closed.supervised h (.of_eq rfl) fun z => ?_
    have zone : (s.zs.zones.map fun x => { x with reasons := { x.reasons with sync := false } })[z] =
        { s.zone z with reasons := { (s.zone z).reasons with sync := false } } :=
      Vector.getElem_map ..
    refine Eq.mpr (congrArg _ zone) ⟨rfl, .inl, fun empty still => ?_⟩
    rw [empty still]
    rfl
  unfold State.regain
  dsimp only
  split
  · exact dropped
  · exact closed.strobe dropped _ _

theorem ZonesClosed.lostEdge {s : State} (h : P s) : P s.lostEdge := by
  unfold State.lostEdge
  split
  · exact closed.same h rfl
  split
  · exact closed.same h rfl
  split
  · exact closed.regain h
  · exact closed.same h rfl

theorem ZonesClosed.syncEdge {s t : State} (h : P s) (hs : exec .syncEdge s = .next t) : P t := by
  simp only [exec, execSyncEdge] at hs
  split at hs
  · cases hs; exact h
  · cases hs; exact h
  split at hs
  · cases hs; exact closed.arbitrate (closed.lostEdge h)
  split at hs
  · cases hs; exact closed.same h rfl
  · obtain rfl := Outcome.next.inj hs
    exact closed.arbitrate
      (closed.strobe (closed.same (t := { s with tb := { s.tb with subRun := 0 } }) h rfl) _ _)

/-! ### The requests -/

theorem ZonesClosed.zoneAct {s t : State} {z : ZoneId} {i : Instr} (h : P s) (act : ZoneAct s z i t) : P t := by
  cases act with
  | defineZone c apart => exact closed.defined z c h apart
  | setCycleRate | resetCycleCount | start => exact closed.setZone h (.of_same rfl rfl rfl)
  | hold => exact closed.holdZone h z _
  | unload => exact closed.unloadZone h z _
  | prepare =>
    have prepared : P (s.setZone z (s.zone z).prepare) := closed.setZone h (.of_empty rfl nofun rfl)
    exact closed.same prepared rfl
  | resume next clear =>
    have resumed : P (s.setZone z ((s.zone z).resume next)) :=
      closed.setZone h ⟨rfl, fun _ => .inr clear, fun _ _ => rfl⟩
    exact closed.same resumed rfl
  | release was =>
    have moves : ∀ x : Zone, x.members = (s.zone z).members → x.state = .idle →
        x.reasons = (s.zone z).reasons → (s.zone z).Moves (s.standing z = false) x := by
      refine fun x members idle reasons => ⟨members, fun run => ?_, fun empty _ => reasons.trans (empty ?_)⟩
      · exact absurd (idle.symm.trans run) (by decide)
      · rcases was with e | e <;> rw [e] <;> decide
    unfold State.releaseZone
    dsimp only
    split
    · exact closed.same (closed.setZone h (moves { s.zone z with
        state := .idle, pendingStart := none, lastStart := .none } rfl rfl rfl)) rfl
    · exact closed.same (closed.setZone h (moves { s.zone z with state := .idle } rfl rfl rfl)) rfl

theorem ZonesClosed.acked {s t : State} (h : P s) (acked : Acked s t) : P t :=
  closed.supervised h (.of_sublist acked.alarms) (.of_zones (by rw [acked.only]))

theorem ZonesClosed.answerZeroGauges {s : State} (h : P s) (r : Request) : (answerZeroGauges r s).Leads P := by
  have reserved : P (s.reserve r) := closed.same h (by rw [reserve_only])
  unfold Machine.answerZeroGauges
  split; · trivial
  split; · trivial
  split; · trivial
  exact closed.consult (closed.same reserved rfl)

theorem ZonesClosed.request {i : Instr} {p : Byte → Bool} {act : Request → State → Answer}
    (ha : requestArm i = some (p, act)) {s t : State} (h : P s) (hs : exec i s = .next t) : P t := by
  have taken : P s.dequeued := closed.same h rfl
  have effect : (∀ r, (act r s.dequeued).Leads P) → P t := by
    intro hact
    obtain ⟨u, hu, f⟩ := request_effect ha hs P h taken fun r _ _ => hact r
    exact closed.framed hu f
  have aside : (∀ r, (act r s.dequeued).Leads fun u => u.zs = s.dequeued.zs) → P t := fun hact =>
    effect fun r => (hact r).mono fun _ zs => closed.same taken zs
  have acts : i ∈ [Instr.configureActuator, .enableActuator, .disableActuator, .setDryRun, .loadSegments,
      .flushProgram, .clearFault, .readActuator] → P t := by
    intro hi
    cases hq : s.lp.requests with
    | nil =>
      rcases request_cases ha hs with rfl | ⟨r, rest, hr, -⟩
      · exact closed.arbitrate h
      · exact absurd (hq.symm.trans hr) nofun
    | cons r rest =>
      obtain ⟨u, hu, f⟩ := actuator_requested hi hq hs
      exact closed.framed (closed.same h hu.beside.zs) f
  have block : i ∈ [Instr.setScanList, .setScanInterval, .bankReset, .writeTemplate, .setDefaultProfile,
      .validateTemplates, .readGauges, .setLimitRule, .configureLoop, .configureAe, .readCrackStatus,
      .configureCapture, .trigger, .readCapture, .releaseBlock, .captureStatus] → P t := by
    intro hi
    obtain ⟨u, hu, f⟩ := block_requested hi hs
    exact closed.framed (closed.same h hu.zs) f
  have time : i ∈ [Instr.setTime, .readTime, .setSyncRole] → P t := by
    intro hi
    obtain ⟨u, hu, f⟩ := time_requested hi hs
    exact closed.framed (closed.same h hu.beside.zs) f
  have zone : i ∈ zoneWrites → P t := fun hi => effect fun r =>
    (zoneWrites_acts hi ha r _).mono fun _ ⟨_, _, hu⟩ => closed.zoneAct taken hu
  cases i <;> cases ha
  case unknownKindRequest => exact effect fun _ => trivial
  case identify | status => exact effect fun r => answerRead_leads taken _ r
  case setGroup | setReporting | readLinkCounts | restart => exact aside fun r => linkAnswers_zs _ (by simp) r _
  case setTime | readTime | setSyncRole => exact time (by decide)
  case configureActuator | enableActuator | disableActuator | setDryRun | loadSegments | flushProgram |
      clearFault | readActuator => exact acts (by decide)
  case defineZone | setCycleRate | prepare | start | hold | resume | unload | release | resetCycleCount =>
    exact zone (by decide)
  case readZone => exact effect fun r => answerReadZone_leads r taken
  case readAlarms => exact effect fun r => answerReadAlarms_leads r taken
  case ackAlarm => exact effect fun r => (answerAckAlarm_leads r _).mono fun _ hu => closed.acked taken hu
  case zeroGauges => exact effect fun r => closed.answerZeroGauges taken r
  all_goals exact block (by decide)

/-! ### The events and the step -/

theorem ZonesClosed.atExpiry {s : State} (h : P s) (x : Timer) {f : State → State}
    (hf : ∀ t, P t → P (f t)) : P (s.atExpiry x f) :=
  atExpiry_keeps P s x f h (fun _ => closed.same h rfl) hf

theorem ZonesClosed.bankAnswer {s t : State} (h : P s) {b : BankId} {values : List Int}
    (hs : exec (.bankAnswer b values) s = .next t) : P t := by
  have set : ∀ x : Bank, P (s.setBank b x) := fun _ => closed.same h rfl
  simp only [exec, execBankAnswer] at hs
  split at hs
  · cases hs; exact closed.arbitrate (set _)
  split at hs
  · cases hs; exact closed.arbitrate (set _)
  split at hs
  · cases hs; exact closed.arbitrate (closed.conversionEnd (set _) _ _ _)
  · cases hs; exact closed.arbitrate (set _)

theorem ZonesClosed.aeHit {s t : State} (h : P s) {n : AeId} (hs : exec (.aeHit n) s = .next t) : P t := by
  simp only [exec, execAeHit] at hs
  split at hs
  · cases hs; exact h
  split at hs
  · cases hs; exact closed.same h rfl
  split at hs <;> (cases hs; exact closed.same h rfl)

theorem ZonesClosed.event {i : Instr} (ha : requestArm i = none) {s t : State} (h : P s)
    (hs : exec i s = .next t) : P t := by
  have line : LineEvent i → P t := fun hi => closed.same h (by rw [(lineEvent_effect hi hs).1])
  cases i <;> cases ha
  case byteReceived b stop => exact line (.byte b stop)
  case gap => exact line .gap
  case lineBreak => exact line .brk
  case lineReturnsToMark => exact line .toMark
  case uplinkFrameEnd =>
    cases hs
    exact closed.atExpiry h _ fun t ht => closed.arbitrate (closed.same ht (frameEnd_zs t))
  case restartEffect => cases hs; exact closed.atExpiry h _ fun t _ => closed.reset rfl
  case reset addr => cases hs; exact closed.reset rfl
  case oscillatorStrobe =>
    simp only [exec, execOscillatorStrobe] at hs
    split at hs
    · cases hs; exact closed.atExpiry h _ fun t ht => closed.arbitrate (closed.strobe ht _ _)
    · cases hs; exact h
  case substituteStrobe =>
    simp only [exec, execSubstituteStrobe] at hs
    split at hs
    · cases hs; exact h
    · cases hs
      refine closed.atExpiry h _ fun t ht => ?_
      exact closed.arbitrate (closed.strobe (closed.same (t := { t with tb := t.tb.substitute }) ht rfl) _ _)
  case syncPulseEnd => cases hs; exact closed.atExpiry h _ fun _ ht => closed.same ht rfl
  case regainRunTimeout => cases hs; exact closed.atExpiry h _ fun _ ht => closed.same ht rfl
  case syncEdge => exact closed.syncEdge h hs
  case feedbackArrival =>
    simp only [exec, execFeedbackArrival] at hs
    split at hs
    · cases hs
      refine closed.arbitrate (closed.memberFault ?_ _)
      exact closed.same h rfl
    · cases hs; exact closed.same h rfl
  case freeScanExpiry =>
    cases hs
    refine closed.atExpiry h _ fun t ht => ?_
    dsimp only
    split
    · exact closed.same ht rfl
    · exact closed.arbitrate (closed.consult (closed.same ht rfl))
  case bankAnswer => exact closed.bankAnswer h hs
  case bankTimeout b =>
    cases hs
    refine closed.atExpiry h _ fun t ht => ?_
    split
    · exact ht
    · refine closed.arbitrate (closed.conversionEnd ?_ _ _ _)
      exact closed.same ht (dropWaitingScan_zs _ b)
  case bankSettlingEnd => cases hs; exact closed.atExpiry h _ fun _ ht => closed.same ht rfl
  case reportDelayRunOut =>
    cases hs; exact closed.atExpiry h _ fun _ ht => closed.arbitrate (closed.same ht rfl)
  case loopSample =>
    cases hs
    refine closed.atExpiry h _ fun t ht => ?_
    dsimp only
    split
    · exact closed.same ht rfl
    · refine closed.arbitrate (closed.raiseAll ?_ _)
      exact closed.same ht rfl
  case aeHit => exact closed.aeHit h hs

/-- Every step keeps a closed property: time passes, or the command at the front is taken. -/
theorem ZonesClosed.step {s t : State} (h : P s) (hs : step s = .next t) : P t := by
  unfold Machine.step at hs
  split at hs
  · cases hs
    unfold State.tick
    split
    · exact closed.same h rfl
    · exact h
  · rename_i c rest _
    have queued : P { s with pending := rest } := closed.same h rfl
    cases ha : requestArm c with
    | some a => exact closed.request ha queued hs
    | none => exact closed.event ha queued hs

end

/-! ### The invariants -/

theorem ListWithin.mem {s t : State} (h : ListWithin s t) {e : AlarmEntry} (he : e ∈ t.zs.alarms) :
    ∃ f ∈ s.zs.alarms, f.plain = e.plain :=
  List.mem_map.mp (h.subset (List.mem_map_of_mem he))

/-- The sources of the entries, in the order of the list. -/
def State.sources (s : State) : List AlarmSource := s.zs.alarms.map AlarmEntry.source

theorem ListWithin.sources {s t : State} (h : ListWithin s t) : t.sources.Sublist s.sources := by
  have plain (l : List AlarmEntry) : (l.map AlarmEntry.plain).map AlarmEntry.source = l.map AlarmEntry.source :=
    List.map_map ..
  have := h.map AlarmEntry.source
  rwa [plain, plain] at this

theorem alarmListOk_iff (s : State) : AlarmListOk s ↔ s.sources.length ≤ 16 ∧ s.sources.Nodup := by
  rw [State.sources, List.length_map]
  exact Iff.rfl

/-- A raise keeps at most 16 entries of different sources (06 R117 to R119). -/
theorem raised_alarmListOk {s t : State} {r : Raise} {time : Nat} (h : AlarmListOk s)
    (list : t.zs.alarms = (s.zs.take r time).1.alarms) : AlarmListOk t := by
  rw [alarmListOk_iff] at h ⊢
  obtain ⟨most, distinct⟩ := h
  rcases take_alarms_cases s.zs r time with again | ⟨fresh, l, sub, room, new⟩ | same
  · have sources : t.sources = s.sources := by
      rw [State.sources, list, again, List.map_map]
      refine List.map_congr_left fun e _ => ?_
      dsimp only [Function.comp_apply]
      split <;> rfl
    rw [sources]
    exact ⟨most, distinct⟩
  · have sources : t.sources = l.map AlarmEntry.source ++ [r.source] := by
      rw [State.sources, list, new, List.map_append]
      rfl
    rw [State.sources, List.length_map] at most
    have few := room most
    rw [sources]
    refine ⟨by rw [List.length_append, List.length_map, List.length_singleton]; omega, ?_⟩
    rw [← List.concat_eq_append]
    refine ((sub.map _).nodup distinct).concat fun mem => ?_
    obtain ⟨e, he, source⟩ := List.mem_map.mp mem
    exact fresh e (sub.subset he) source
  · rw [show t.sources = s.sources from congrArg (List.map AlarmEntry.source) (list.trans same)]
    exact ⟨most, distinct⟩

theorem alarmListOk_closed : ZonesClosed AlarmListOk where
  moved h list _ := by
    rw [alarmListOk_iff] at h ⊢
    exact ⟨list.sources.length_le.trans h.1, list.sources.nodup h.2⟩
  raised _ _ h list _ _ := raised_alarmListOk h list
  defined _ _ h _ := h
  reset zs := by
    rw [AlarmListOk, zs]
    exact ⟨Nat.zero_le _, List.nodup_nil⟩

theorem standing_iff (s : State) (z : ZoneId) :
    s.standing z = true ↔ ∃ e ∈ s.zs.alarms, e.zone = z ∧ e.severity ≠ .info := by
  simp [State.standing]

/-- An alarm that stands after entries have left stood before. -/
theorem ListWithin.standing {s t : State} (h : ListWithin s t) {z : ZoneId} (clear : s.standing z = false) :
    t.standing z = false := by
  rw [Bool.eq_false_iff, Ne, standing_iff] at clear ⊢
  rintro ⟨e, he, zone, severity⟩
  obtain ⟨f, hf, plain⟩ := h.mem he
  exact clear ⟨f, hf, (congrArg AlarmEntry.zone plain).trans zone,
    fun info => severity ((congrArg AlarmEntry.severity plain).symm.trans info)⟩

theorem noRunUnderAlarm_closed : ZonesClosed NoRunUnderAlarm where
  moved h list zones z run := list.standing (((zones z).run run).elim (h z) id)
  raised {s t} r time h list zones left z run := by
    have clear := h z (((zones z).run run).resolve_right id)
    rw [Bool.eq_false_iff, Ne, standing_iff] at clear ⊢
    rintro ⟨e, he, zone, severity⟩
    rcases mem_take (list ▸ he) with stood | ⟨own, same⟩
    · exact clear ⟨e, stood, zone, severity⟩
    · rw [← own, zone, ← same] at left
      exact left severity run
  defined {s} z c h _ y run := by
    refine h y ?_
    rw [State.zone_setZone] at run
    split at run
    · rename_i e; rw [e]; exact run
    · exact run
  reset zs z _ := by
    rw [State.standing, zs]
    rfl

theorem zone_of_reset {t : State} (zs : t.zs = ZoneSupervisor.reset) (z : ZoneId) : t.zone z = Zone.reset := by
  rw [← State.reset_zone z, State.zone, zs]
  rfl

theorem reasonsOnlyInHold_closed : ZonesClosed ReasonsOnlyInHold where
  moved h _ zones z := (zones z).reasons (h z)
  raised _ _ h _ zones _ z := (zones z).reasons (h z)
  defined {s} z c h _ y := by
    rw [State.zone_setZone]
    split
    · exact h z
    · exact h y
  reset zs z _ := by rw [zone_of_reset zs]; rfl

theorem takenElsewhere_iff (s : State) (z : ZoneId) (m : Byte) :
    s.takenElsewhere z m = false ↔ ∀ y, y ≠ z → (s.zone y).members &&& m = 0 := by
  simp [State.takenElsewhere]

theorem oneZoneEach_closed : ZonesClosed OneZoneEach where
  moved h _ zones := h.of_members fun z => (zones z).members
  raised _ _ h _ zones _ := h.of_members fun z => (zones z).members
  defined {s} z c h apart x y ne := by
    rw [takenElsewhere_iff] at apart
    rw [State.zone_setZone, State.zone_setZone]
    by_cases hx : x = z
    · rw [if_pos hx, if_neg fun hy => ne (hx.trans hy.symm), BitVec.and_comm]
      exact apart y fun hy => ne (hx.trans hy.symm)
    · rw [if_neg hx]
      split
      · exact apart x hx
      · exact h x y ne
  reset zs x y _ := by rw [zone_of_reset zs, zone_of_reset zs]; rfl

/-- Settles O55: raises, the marks of the ALARM report, ACK ALARM and a reset keep the list. -/
theorem everyStepKeepsTheAlarmList : Obligations.EveryStepKeepsTheAlarmList :=
  fun _ _ h hs => alarmListOk_closed.step h hs

/-- Settles O56: the moves of the zones, raises, DEFINE ZONE and a reset keep each of the three. -/
theorem everyStepKeepsTheZones : Obligations.EveryStepKeepsTheZones := fun _ _ hs =>
  ⟨fun h => noRunUnderAlarm_closed.step h hs, fun h => reasonsOnlyInHold_closed.step h hs,
    fun h => oneZoneEach_closed.step h hs⟩

end Sys2Proof.Machine
end
section
/-! The rules of the requests to one zone (06 R99 to R101, R106 to R114, R123). -/

namespace Sys2Proof.Machine
open Host Statements

/-! ### A request that names a zone -/

theorem onZone_named {n : Nat} {r : Request} {z : ZoneId} (length : r.payload.length = n)
    (named : field r.payload 0 1 = z.val) (f : ZoneId → Answer) : onZone n r f = f z := by
  rw [onZone, if_neg (not_not.mpr length), index?_eq_some.mpr named]

/-- The zone's state stands first in the reply (06 R106). -/
theorem zoneReply_setZone (s : State) (z : ZoneId) {x : Zone} {y : ZoneState} (state : x.state = y) (w : Wire) :
    zoneReply (s.setZone z x) z w = .accepted (s.setZone z x) (encN 1 y.code ++ w) := by
  rw [zoneReply, State.zone_setZone, if_pos rfl, state]

theorem zoneReply_alarmed (s : State) (z : ZoneId) {x : Zone} {y : ZoneState} (state : x.state = y) (w : Wire) :
    zoneReply (s.setZone z x).alarm z w = .accepted (alarmed (s.setZone z x)) (encN 1 y.code ++ w) := by
  rw [zoneReply, State.zone_alarm, State.zone_setZone, if_pos rfl, state]
  rfl

/-! ### RESET CYCLE COUNT (06 R101) -/

/-- Settles O32: the answer's one test is IDLE. -/
theorem resetCycleCountRule : Obligations.ResetCycleCountRule := by
  intro s r z head length named
  refine ⟨fun idle => ?_, fun other => ?_⟩
  · exact exec_accepted (i := .resetCycleCount) rfl head <| (onZone_named length named _).trans <|
      (if_neg (not_not.mpr idle)).trans <| zoneReply_setZone _ z (y := .idle) (by exact idle) _
  · exact exec_refused (i := .resetCycleCount) rfl head <| (onZone_named length named _).trans (if_pos other)

/-! ### DEFINE ZONE (06 R99) -/

/-- The total-force window of DEFINE ZONE is none, or in its range. -/
def WindowOk (p : List Byte) : Prop :=
  field p 8 1 = 0 ∨ (field p 8 1 = 1 ∧ -24000000 ≤ fieldI p 9 4 ∧ fieldI p 9 4 ≤ fieldI p 13 4 ∧
    fieldI p 13 4 ≤ 24000000)

theorem readWindow_of_ok {p : List Byte} (h : WindowOk p) : readWindow p =
    some (if field p 8 1 = 1 then some (fieldI p 9 4, fieldI p 13 4) else none) := by
  rcases h with off | ⟨on, low, order, high⟩
  · have absent : ¬ field p 8 1 = 1 := by omega
    rw [readWindow, flag?_of_eq false off, if_neg absent]
  · have inside : (inTotal (fieldI p 9 4) && inTotal (fieldI p 13 4) &&
        decide (fieldI p 9 4 ≤ fieldI p 13 4)) = true := by
      simp only [inTotal, Bool.and_eq_true, decide_eq_true_eq]; omega
    rw [readWindow, flag?_of_eq true on, if_pos on]
    exact if_pos inside

theorem readWindow_of_not {p : List Byte} (h : ¬ WindowOk p) : readWindow p = none := by
  unfold readWindow
  split
  · rfl
  · rename_i off
    exact absurd (.inl (flag?_eq_some.mp off)) h
  · rename_i on
    refine if_neg fun inside => h (.inr ⟨flag?_eq_some.mp on, ?_⟩)
    simp only [inTotal, Bool.and_eq_true, decide_eq_true_eq] at inside
    omega

theorem PhaseCapture.ofCode_code (c : PhaseCapture) : PhaseCapture.ofCode c.code = some c := by cases c <;> rfl

theorem PhaseCapture.ofCode_eq_none {v : Nat} (h : 3 < v) : PhaseCapture.ofCode v = Option.none := by
  unfold PhaseCapture.ofCode
  split
  case h_5 => rfl
  all_goals omega

theorem PhaseCapture.exists_code {v : Nat} (h : v ≤ 3) : ∃ c : PhaseCapture, c.code = v := by
  rcases (by omega : v = 0 ∨ v = 1 ∨ v = 2 ∨ v = 3) with rfl | rfl | rfl | rfl
  exacts [⟨.none, rfl⟩, ⟨.peak, rfl⟩, ⟨.valley, rfl⟩, ⟨.both, rfl⟩]

/-- The fields of DEFINE ZONE are in their ranges. -/
def ZoneConfigOk (p : List Byte) : Prop :=
  1 ≤ field p 4 4 ∧ field p 4 4 ≤ 1000000 ∧ WindowOk p ∧ field p 17 1 ≤ 3 ∧ 1 ≤ field p 18 2

theorem readZoneConfig_of_ok {p : List Byte} (h : ZoneConfigOk p) {capture : PhaseCapture}
    (code : capture.code = field p 17 1) : readZoneConfig p = some {
      members := byteAt p 1, nin := field p 2 1, nout := field p 3 1, unloadRate := field p 4 4
      window := if field p 8 1 = 1 then some (fieldI p 9 4, fieldI p 13 4) else none
      capture, everyNth := field p 18 2 } := by
  obtain ⟨low, high, window, -, nth⟩ := h
  rw [readZoneConfig, readWindow_of_ok window, ← code, PhaseCapture.ofCode_code]
  exact if_pos (by simp only [Bool.and_eq_true, decide_eq_true_eq]; exact ⟨⟨low, high⟩, nth⟩)

theorem readZoneConfig_of_not {p : List Byte} (h : ¬ ZoneConfigOk p) : readZoneConfig p = none := by
  by_cases window : WindowOk p
  case neg => rw [readZoneConfig, readWindow_of_not window]
  by_cases code : field p 17 1 ≤ 3
  case neg => rw [readZoneConfig, PhaseCapture.ofCode_eq_none (by omega), readWindow_of_ok window]
  obtain ⟨capture, is⟩ := PhaseCapture.exists_code code
  rw [readZoneConfig, readWindow_of_ok window, ← is, PhaseCapture.ofCode_code]
  refine if_neg fun inside => h ?_
  simp only [Bool.and_eq_true, decide_eq_true_eq] at inside
  obtain ⟨⟨low, high⟩, nth⟩ := inside
  exact ⟨low, high, window, code, nth⟩

/-- The zone is IDLE and no other zone has one of the members (06 R99). -/
def ZoneFree (s : State) (z : ZoneId) (members : Byte) : Prop :=
  (s.zone z).state = .idle ∧ ∀ y, y ≠ z → (s.zone y).members &&& members = 0

theorem zoneFree_iff {s : State} {z : ZoneId} {members : Byte} :
    ((s.zone z).state ≠ .idle || s.takenElsewhere z members) = true ↔ ¬ ZoneFree s z members := by
  rw [ZoneFree, ← takenElsewhere_iff, not_and_or, Bool.or_eq_true, decide_eq_true_eq, Bool.not_eq_false]

section DefineZone
variable {s : State} {r : Request} {z : ZoneId} (head : AtHead s 0x30 r) (length : r.payload.length = 20)
  (named : field r.payload 0 1 = z.val)
include head length named

theorem exec_defineZone_range (h : ¬ ZoneConfigOk r.payload) : exec .defineZone s = refused s r .range := by
  refine exec_refused (i := .defineZone) rfl head ((onZone_named length named _).trans ?_)
  rw [readZoneConfig_of_not h]

theorem exec_defineZone_state (h : ZoneConfigOk r.payload) (taken : ¬ ZoneFree s z (byteAt r.payload 1)) :
    exec .defineZone s = refused s r .state := by
  obtain ⟨_, _, _, selection, _⟩ := id h
  obtain ⟨capture, code⟩ := PhaseCapture.exists_code selection
  refine exec_refused (i := .defineZone) rfl head ((onZone_named length named _).trans ?_)
  rw [readZoneConfig_of_ok h code]
  exact if_pos (zoneFree_iff.mpr taken)

theorem exec_defineZone_accepted (h : ZoneConfigOk r.payload) (free : ZoneFree s z (byteAt r.payload 1))
    {capture : PhaseCapture} (code : capture.code = field r.payload 17 1) :
    exec .defineZone s = accepted s r (s.dequeued.setZone z { s.zone z with
        members := byteAt r.payload 1, nin := field r.payload 2 1, nout := field r.payload 3 1
        unloadRate := field r.payload 4 4
        window := if field r.payload 8 1 = 1 then some (fieldI r.payload 9 4, fieldI r.payload 13 4) else none
        capture, everyNth := field r.payload 18 2, counter := 0, guardRun := 0 })
      (encN 1 0 ++ [some (s.zone z).members]) := by
  refine exec_accepted (i := .defineZone) rfl head ((onZone_named length named _).trans ?_)
  rw [readZoneConfig_of_ok h code]
  exact (if_neg (not_not.mpr free ∘ zoneFree_iff.mp)).trans (zoneReply_setZone _ z (y := .idle) (by exact free.1) _)

end DefineZone

/-! ### SET CYCLE RATE and READ ZONE (06 R100, R123) -/

theorem answerSetCycleRate_named {r : Request} {z : ZoneId} (length : r.payload.length = 3)
    (named : field r.payload 0 1 = z.val) (s : State) : answerSetCycleRate r s =
      if field r.payload 1 2 < 10 || 20000 < field r.payload 1 2 then .no .range
      else if (s.zone z).state.busy then .no .state
      else zoneReply (s.setZone z { s.zone z with
          rate := field r.payload 1 2, inc := phaseInc (field r.payload 1 2) }) z
        (encN 2 (s.zone z).rate) := onZone_named length named _

section SetCycleRate
variable {s : State} {r : Request} {z : ZoneId} (head : AtHead s 0x31 r) (length : r.payload.length = 3)
  (named : field r.payload 0 1 = z.val)
include head length named

theorem exec_setCycleRate_range (h : field r.payload 1 2 < 10 ∨ 20000 < field r.payload 1 2) :
    exec .setCycleRate s = refused s r .range :=
  exec_refused (i := .setCycleRate) rfl head <| (answerSetCycleRate_named length named _).trans <|
    if_pos (by simpa using h)

variable (low : 10 ≤ field r.payload 1 2) (high : field r.payload 1 2 ≤ 20000)
include low high

theorem exec_setCycleRate_busy (busy : Busy s z) : exec .setCycleRate s = refused s r .state :=
  exec_refused (i := .setCycleRate) rfl head <| (answerSetCycleRate_named length named _).trans <|
    (if_neg (by simp [low, high])).trans <| if_pos ((busy_iff _).mpr busy)

theorem exec_setCycleRate_accepted (free : ¬ Busy s z) : exec .setCycleRate s = accepted s r
    (s.dequeued.setZone z { s.zone z with
      rate := field r.payload 1 2, inc := (field r.payload 1 2 * 2 ^ 32 + 1000000) / 2000000 })
    (encN 1 (s.zone z).state.code ++ encN 2 (s.zone z).rate) := by
  rw [← phaseInc_eq]
  exact exec_accepted (i := .setCycleRate) rfl head <| (answerSetCycleRate_named length named _).trans <|
    (if_neg (by simp [low, high])).trans <| (if_neg (free ∘ (busy_iff _).mp)).trans <|
      zoneReply_setZone _ z rfl _

end SetCycleRate

/-- Settles O31: the three requests, each by its answer for the zone that it names. -/
theorem zoneConfigurationRequests : Obligations.ZoneConfigurationRequests := by
  refine ⟨fun s r z head length named => ?_, fun s r z named => ⟨fun head length => ?_, fun head length => ?_⟩⟩
  · exact ⟨exec_defineZone_range head length named, exec_defineZone_state head length named,
      fun inRange free capture => exec_defineZone_accepted head length named inRange free⟩
  · exact ⟨exec_setCycleRate_range head length named, fun low high =>
      ⟨exec_setCycleRate_busy head length named low high, exec_setCycleRate_accepted head length named low high⟩⟩
  · exact exec_accepted (i := .readZone) rfl head (onZone_named length named _)

end Sys2Proof.Machine
end
section
/-! The rules of PREPARE, START, HOLD, UNLOAD, RESUME and RELEASE (06 R106 to R108, R110 to R114). -/

namespace Sys2Proof.Machine
open Host Statements

/-! ### A zone and its members written together -/

section Members
variable {s : State} {z : ZoneId} {x : Zone} {f : Channel → Channel}

theorem mapMembers_setZone_chan (members : x.members = (s.zone z).members) (a : ActId) :
    ((s.setZone z x).mapMembers z f).alarm.chan a =
      if (s.zone z).members.getLsbD a then f (s.chan a) else s.chan a := by
  refine (mapMembers_ac_get (s.setZone z x) z f a).trans ?_
  rw [State.zone_setZone, if_pos rfl, Zone.has, members]
  rfl

theorem mapMembers_setZone_zone (y : ZoneId) :
    ((s.setZone z x).mapMembers z f).alarm.zone y = if y = z then x else s.zone y := s.zone_setZone z y x

end Members

/-! ### PREPARE (06 R107) -/

theorem memberList_isEmpty (x : Zone) : x.memberList.isEmpty = true ↔ x.members = 0 := by
  rw [List.isEmpty_iff, List.eq_nil_iff_forall_not_mem]
  constructor
  · intro none
    refine BitVec.eq_of_getLsbD_eq fun i hi => ?_
    rw [BitVec.ofNat_eq_ofNat, BitVec.getLsbD_zero]
    exact Bool.eq_false_iff.mpr fun on => none ⟨i, hi⟩ (mem_maskActs.mpr on)
  · intro none a ha
    have on := mem_maskActs.mp ha
    rw [none, BitVec.ofNat_eq_ofNat, BitVec.getLsbD_zero] at on
    cases on

/-- The zone is IDLE with a member, and each member is out of FAULT and has been seen (06 R107). -/
def Preparable (s : State) (z : ZoneId) : Prop :=
  (s.zone z).state = .idle ∧ (s.zone z).members ≠ 0 ∧
    ∀ a : ActId, (s.zone z).members.getLsbD a = true → (s.chan a).state ≠ .fault ∧ (s.chan a).seen = true

theorem not_preparable_iff {s : State} {z : ZoneId} :
    ((s.zone z).state ≠ .idle || (s.zone z).memberList.isEmpty ||
      (s.zone z).memberList.any fun a => (s.chan a).state = .fault || !(s.chan a).seen) = true ↔
    ¬ Preparable s z := by
  have unready : ((s.zone z).memberList.any fun a => (s.chan a).state = .fault || !(s.chan a).seen) = true ↔
      ¬ ∀ a : ActId, (s.zone z).members.getLsbD a = true →
        (s.chan a).state ≠ .fault ∧ (s.chan a).seen = true := by
    rw [Zone.any_member]
    simp only [Bool.or_eq_true, decide_eq_true_eq, Bool.not_eq_true', not_forall, not_and_or, not_not,
      exists_prop, Bool.not_eq_true]
  rw [Bool.or_eq_true, Bool.or_eq_true, unready, memberList_isEmpty, decide_eq_true_eq, Preparable,
    not_and_or, not_and_or, not_not, or_assoc]

theorem answerPrepare_named {r : Request} {z : ZoneId} (length : r.payload.length = 1)
    (named : field r.payload 0 1 = z.val) (s : State) : answerPrepare r s =
      if (s.zone z).state ≠ .idle || (s.zone z).memberList.isEmpty ||
          (s.zone z).memberList.any (fun a => (s.chan a).state = .fault || !(s.chan a).seen) then .no .state
      else if s.scv.zeroOp.isSome then .no .busy
      else zoneReply (s.prepareZone z) z (encList ((s.zone z).memberList.map fun a =>
        encFlag ((s.chan a).state = .off) ++ encI 4 ((s.prepareZone z).chan a).prev)) :=
  onZone_named length named _

theorem prepareZone_zone (s : State) (z y : ZoneId) :
    (s.prepareZone z).zone y = if y = z then (s.zone z).prepare else s.zone y :=
  mapMembers_setZone_zone (x := (s.zone z).prepare) (f := Channel.prepare) y

theorem prepareZone_chan (s : State) (z : ZoneId) (a : ActId) : (s.prepareZone z).chan a =
    if (s.zone z).members.getLsbD a && (s.chan a).state = .off then standby (s.chan a) else s.chan a := by
  refine (mapMembers_setZone_chan (x := (s.zone z).prepare) (f := Channel.prepare) rfl a).trans ?_
  simp only [Bool.and_eq_true, decide_eq_true_eq, ite_and]
  rfl

/-- The commands that the reply to a PREPARE sends for the members. -/
theorem prepareZone_prev {s : State} {z : ZoneId} {a : ActId} (member : a ∈ (s.zone z).memberList) :
    ((s.prepareZone z).chan a).prev =
      if (s.chan a).state = .off then (s.chan a).measured.force else (s.chan a).prev := by
  rw [prepareZone_chan, mem_maskActs.mp member, Bool.true_and]
  simp only [decide_eq_true_eq]
  split <;> rfl

section Prepare
variable {s : State} {r : Request} {z : ZoneId} (head : AtHead s 0x32 r) (length : r.payload.length = 1)
  (named : field r.payload 0 1 = z.val)
include head length named

theorem exec_prepare_state (unable : ¬ Preparable s z) : exec .prepare s = refused s r .state :=
  exec_refused (i := .prepare) rfl head <| (answerPrepare_named length named _).trans <|
    if_pos (not_preparable_iff.mpr unable)

theorem exec_prepare_busy (able : Preparable s z) (busy : s.scv.zeroOp ≠ none) :
    exec .prepare s = refused s r .busy :=
  exec_refused (i := .prepare) rfl head <| (answerPrepare_named length named _).trans <|
    (if_neg (not_not.mpr able ∘ not_preparable_iff.mp)).trans <| if_pos (Option.isSome_iff_ne_none.mpr busy)

theorem exec_prepare_accepted (able : Preparable s z) (idle : s.scv.zeroOp = none) :
    exec .prepare s = accepted s r (s.dequeued.prepareZone z)
      (encN 1 1 ++ encList ((maskActs (s.zone z).members).map fun a =>
        encFlag ((s.chan a).state = .off) ++
        encI 4 (if (s.chan a).state = .off then (s.chan a).measured.force else (s.chan a).prev))) := by
  refine exec_accepted (i := .prepare) rfl head <| (answerPrepare_named length named _).trans <|
    (if_neg (not_not.mpr able ∘ not_preparable_iff.mp)).trans <| (if_neg ?_).trans ?_
  · rw [show s.dequeued.scv.zeroOp = none from idle]; nofun
  · have ready : ((s.dequeued.prepareZone z).zone z).state = .ready := by rw [prepareZone_zone, if_pos rfl]; rfl
    rw [zoneReply, ready]
    refine congrArg (fun l => Answer.accepted _ (encN 1 1 ++ encList l)) (List.map_congr_left fun a ha => ?_)
    rw [prepareZone_prev ha]
    rfl

end Prepare

/-! ### START (06 R108) -/

/-- What START answers once its flag is read. -/
def startTests (s : State) (z : ZoneId) (timed : Bool) (T : Nat) : Answer :=
  if timed && (T % 500 ≠ 0 || s.hall + 60000000 < T) then .no .range
  else if (s.zone z).state ≠ .ready || s.standing z || s.zs.overflow then .no .state
  else if (s.zone z).pendingStart.isSome || s.scv.zeroOp.isSome || (timed && s.tb.pendingSet.isSome) then
    .no .busy
  else if timed && T ≤ s.hall then .no .late
  else
    zoneReply (s.setZone z { s.zone z with
      pendingStart := some (if timed then T else s.nextHall), lastStart := .none }) z
      (encN 8 (if timed then T else s.nextHall))

theorem answerStart_named {r : Request} {z : ZoneId} (length : r.payload.length = 10)
    (named : field r.payload 0 1 = z.val) {timed : Bool} (flag : field r.payload 1 1 = timed.toNat) (s : State) :
    answerStart r s = startTests s z timed (field r.payload 2 8) := by
  refine (onZone_named length named _).trans ?_
  rw [flag?_of_eq timed flag]
  rfl

section Start
variable {s : State} {z : ZoneId} {timed : Bool} {T : Nat}

/-- The tests of START that refuse its time with RANGE. -/
def StartInRange (s : State) (timed : Bool) (T : Nat) : Prop :=
  timed = true → T % 500 = 0 ∧ T ≤ s.hall + 60000000

/-- The tests of START that refuse it with STATE. -/
def Startable (s : State) (z : ZoneId) : Prop := (s.zone z).state = .ready ∧ ¬ Blocked s z

/-- The tests of START that refuse it with BUSY. -/
def StartBusy (s : State) (z : ZoneId) (timed : Bool) : Prop :=
  (s.zone z).pendingStart ≠ none ∨ s.scv.zeroOp ≠ none ∨ (timed = true ∧ s.tb.pendingSet ≠ none)

theorem startInRange_iff :
    StartInRange s timed T ↔ timed = false ∨ timed = true ∧ T % 500 = 0 ∧ T ≤ s.hall + 60000000 := by
  cases timed <;> simp [StartInRange]

theorem not_startInRange_iff :
    (timed && (T % 500 ≠ 0 || s.hall + 60000000 < T)) = true ↔ ¬ StartInRange s timed T := by
  rw [StartInRange, Classical.not_imp, not_and_or, not_le, Bool.and_eq_true, Bool.or_eq_true,
    decide_eq_true_eq, decide_eq_true_eq]

theorem not_startable_iff :
    ((s.zone z).state ≠ .ready || s.standing z || s.zs.overflow) = true ↔ ¬ Startable s z := by
  rw [Startable, ← blocked_iff, not_and_or, not_not, Bool.or_assoc, Bool.or_eq_true, decide_eq_true_eq]

theorem startBusy_iff :
    ((s.zone z).pendingStart.isSome || s.scv.zeroOp.isSome || (timed && s.tb.pendingSet.isSome)) = true ↔
      StartBusy s z timed := by
  simp only [StartBusy, Bool.or_eq_true, Bool.and_eq_true, Option.isSome_iff_ne_none, or_assoc]

theorem startTests_range (range : ¬ StartInRange s timed T) : startTests s z timed T = .no .range :=
  if_pos (not_startInRange_iff.mpr range)

variable (range : StartInRange s timed T)
include range

theorem startTests_state (unable : ¬ Startable s z) : startTests s z timed T = .no .state :=
  (if_neg (not_not.mpr range ∘ not_startInRange_iff.mp)).trans <| if_pos (not_startable_iff.mpr unable)

variable (able : Startable s z)
include able

theorem startTests_busy (busy : StartBusy s z timed) : startTests s z timed T = .no .busy :=
  (if_neg (not_not.mpr range ∘ not_startInRange_iff.mp)).trans <|
    (if_neg (not_not.mpr able ∘ not_startable_iff.mp)).trans <| if_pos (startBusy_iff.mpr busy)

variable (free : ¬ StartBusy s z timed)
include free

theorem startTests_free : startTests s z timed T = if timed && T ≤ s.hall then .no .late else
    zoneReply (s.setZone z { s.zone z with
      pendingStart := some (if timed then T else s.nextHall), lastStart := .none }) z
      (encN 8 (if timed then T else s.nextHall)) :=
  (if_neg (not_not.mpr range ∘ not_startInRange_iff.mp)).trans <|
    (if_neg (not_not.mpr able ∘ not_startable_iff.mp)).trans <| if_neg (free ∘ startBusy_iff.mp)

theorem startTests_late (on : timed = true) (late : T ≤ s.hall) : startTests s z timed T = .no .late :=
  (startTests_free range able free).trans <|
    if_pos (by rw [Bool.and_eq_true, decide_eq_true_eq]; exact ⟨on, late⟩)

theorem startTests_accepted (early : timed = true → s.hall < T) : startTests s z timed T =
    .accepted (s.setZone z { s.zone z with
      pendingStart := some (if timed then T else s.nextHall), lastStart := .none })
      (encN 1 1 ++ encN 8 (if timed then T else s.nextHall)) := by
  refine (startTests_free range able free).trans <| (if_neg ?_).trans <|
    zoneReply_setZone s z (y := .ready) (by exact able.1) _
  rw [Bool.and_eq_true, decide_eq_true_eq]
  exact fun late => absurd (early late.1) (not_lt.mpr late.2)

end Start

/-- A START whose flag is neither code is refused with RANGE. -/
theorem exec_start_flag {s : State} {r : Request} {z : ZoneId} (head : AtHead s 0x33 r)
    (length : r.payload.length = 10) (named : field r.payload 0 1 = z.val) (flag : 1 < field r.payload 1 1) :
    exec .start s = refused s r .range := by
  refine exec_refused (i := .start) rfl head ((onZone_named length named _).trans ?_)
  rw [flag?_eq_none.mpr flag]

/-- Settles O33: PREPARE by its tests; START by its flag, then by its tests. -/
theorem prepareAndStart : Obligations.PrepareAndStart := by
  refine ⟨fun s r z head length named => ⟨exec_prepare_state head length named,
    exec_prepare_busy head length named, fun able idle => ⟨s.dequeued.prepareZone z, ?_, ?_, fun y other => ?_,
      prepareZone_chan s.dequeued z, rfl⟩⟩, fun s r z head length named => ?_⟩
  · simpa only [decide_eq_true_eq] using exec_prepare_accepted head length named able idle
  · exact (prepareZone_zone s.dequeued z z).trans (if_pos rfl)
  · exact (prepareZone_zone s.dequeued z y).trans (if_neg other)
  by_cases flag : field r.payload 1 1 ≤ 1
  case neg =>
    have refused := exec_start_flag head length named (by omega)
    exact ⟨fun _ => refused, fun range => by omega, fun range => by omega, fun range => by omega,
      fun range => by omega⟩
  obtain ⟨timed, code⟩ : ∃ timed : Bool, field r.payload 1 1 = timed.toNat := by
    rcases (by omega : field r.payload 1 1 = 0 ∨ field r.payload 1 1 = 1) with h | h
    exacts [⟨false, h⟩, ⟨true, h⟩]
  have answer := answerStart_named length named code s.dequeued
  have on : timed.toNat = 1 ↔ timed = true := by cases timed <;> simp
  have off : timed.toNat = 0 ↔ timed = false := by cases timed <;> simp
  dsimp only
  rw [code]
  simp only [on, off]
  have inRange : (timed = false ∨ timed = true ∧ field r.payload 2 8 % 500 = 0 ∧
      field r.payload 2 8 ≤ s.hall + 60000000) ↔ StartInRange s.dequeued timed (field r.payload 2 8) :=
    startInRange_iff.symm
  rw [inRange]
  refine ⟨fun range => ?_, fun range unable => ?_, fun range able busy => ?_,
    fun range able free given late => ?_, fun range able free early => ?_⟩
  · exact exec_refused (i := .start) rfl head (answer.trans (startTests_range range))
  · exact exec_refused (i := .start) rfl head (answer.trans (startTests_state range unable))
  · exact exec_refused (i := .start) rfl head (answer.trans (startTests_busy range able busy))
  · exact exec_refused (i := .start) rfl head (answer.trans (startTests_late range able free given late))
  · exact exec_accepted (i := .start) rfl head (answer.trans (startTests_accepted range able free early))

end Sys2Proof.Machine
end
section
/-! The rules of HOLD, UNLOAD, RESUME and RELEASE (06 R106, R110 to R114). -/

namespace Sys2Proof.Machine
open Host Statements

/-! ### HOLD (06 R111) -/

theorem addReason_of_new {s : State} {z : ZoneId} {r : HoldReason}
    (new : (s.zone z).reasons.add r ≠ (s.zone z).reasons) :
    s.addReason z r = alarmed (s.setZone z { s.zone z with reasons := (s.zone z).reasons.add r }) := if_neg new

theorem addReason_of_old {s : State} {z : ZoneId} {r : HoldReason}
    (old : (s.zone z).reasons.add r = (s.zone z).reasons) : s.addReason z r = s := if_pos old

theorem HoldReasons.add_request_eq {q : HoldReasons} (h : q.request = true) : q.add .request = q := by
  cases q; cases h; rfl

theorem HoldReasons.add_request_ne {q : HoldReasons} (h : q.request = false) : q.add .request ≠ q :=
  fun same => by cases q; cases h; cases same

/-- The code of REQUEST is the lowest bit (12 R204). -/
theorem HoldReasons.code_add_request {q : HoldReasons} (h : q.request = false) :
    (q.add .request).code = q.code + 1 := by
  obtain ⟨request, segment, alarm, sync⟩ := q
  cases h
  cases segment <;> cases alarm <;> cases sync <;> rfl

section Hold
variable {s : State} {r : Request} {z : ZoneId}

theorem answerHold_named (length : r.payload.length = 1) (named : field r.payload 0 1 = z.val) (s : State) :
    answerHold r s =
      if (s.zone z).state = .run || (s.zone z).state = .hold then
        zoneReply (s.holdZone z .request) z (encN 1 ((s.holdZone z .request).zone z).reasons.code)
      else .no .state := onZone_named length named _

variable (head : AtHead s 0x34 r) (length : r.payload.length = 1) (named : field r.payload 0 1 = z.val)
include head length named

/-- HOLD accepted, by what the cause makes of the zone. -/
theorem exec_hold_accepted (live : (s.zone z).state = .run ∨ (s.zone z).state = .hold) {t : State} {x : Zone}
    (effect : s.dequeued.holdZone z .request = t) (zone : t.zone z = x) (state : x.state = .hold) :
    exec .hold s = accepted s r t (encN 1 3 ++ encN 1 x.reasons.code) := by
  refine exec_accepted (i := .hold) rfl head <| (answerHold_named length named _).trans <| (if_pos ?_).trans ?_
  · rwa [Bool.or_eq_true, decide_eq_true_eq, decide_eq_true_eq]
  · rw [effect, zoneReply, zone, state]; rfl

theorem exec_hold_run (run : (s.zone z).state = .run) : exec .hold s =
    accepted s r (held s.dequeued z ⟨true, false, false, false⟩) (encN 1 3 ++ encN 1 1) :=
  exec_hold_accepted head length named (.inl run)
    (x := heldZone (s.zone z) (ramps s.dequeued z) ⟨true, false, false, false⟩)
    (holdZone_of_run (s := s.dequeued) .request run) ((held_zone s.dequeued z _ z).trans (if_pos rfl)) rfl

theorem exec_hold_again (hold : (s.zone z).state = .hold) (old : (s.zone z).reasons.request = true) :
    exec .hold s = accepted s r s.dequeued (encN 1 3 ++ encN 1 (s.zone z).reasons.code) :=
  exec_hold_accepted head length named (.inr hold)
    ((holdZone_of_hold (s := s.dequeued) .request hold).trans (addReason_of_old (HoldReasons.add_request_eq old))) rfl hold

theorem exec_hold_adds (hold : (s.zone z).state = .hold) (new : (s.zone z).reasons.request = false) :
    exec .hold s = accepted s r (alarmed (s.dequeued.setZone z { s.zone z with
      reasons := { (s.zone z).reasons with request := true } }))
      (encN 1 3 ++ encN 1 ((s.zone z).reasons.code + 1)) := by
  rw [← HoldReasons.code_add_request new]
  exact exec_hold_accepted head length named (.inr hold) (x := { s.zone z with
      reasons := (s.zone z).reasons.add .request })
    ((holdZone_of_hold (s := s.dequeued) .request hold).trans (addReason_of_new (HoldReasons.add_request_ne new)))
    ((State.zone_setZone ..).trans (if_pos rfl)) hold

theorem exec_hold_state (run : (s.zone z).state ≠ .run) (hold : (s.zone z).state ≠ .hold) :
    exec .hold s = refused s r .state := by
  refine exec_refused (i := .hold) rfl head <| (answerHold_named length named _).trans <| if_neg ?_
  rw [Bool.or_eq_true, decide_eq_true_eq, decide_eq_true_eq]
  exact not_or.mpr ⟨run, hold⟩

end Hold

/-! ### UNLOAD (06 R114, R115) -/

/-- The states that a cause of UNLOAD leaves. -/
def ZoneState.Unloadable (x : ZoneState) : Prop := x = .ready ∨ x = .run ∨ x = .hold

section Unload
variable {s : State} {z : ZoneId} {b : Bool}

theorem unloadZone_entered (was : (s.zone z).state.Unloadable) :
    s.unloadZone z b = (alarmed (s.setZone z ((s.zone z).enterUnload b))).safeIfAllFaulted z := by
  unfold State.unloadZone
  rcases was with h | h | h <;> simp only [h] <;> rfl

theorem entered_zone (s : State) (z : ZoneId) (x : Zone) : (alarmed (s.setZone z x)).zone z = x :=
  (State.zone_setZone ..).trans (if_pos rfl)

theorem alarmed_setZone_again (s : State) (z : ZoneId) (x y : Zone) :
    alarmed ((alarmed (s.setZone z x)).setZone z y) = alarmed (s.setZone z y) :=
  congrArg (fun l => alarmed { s with zs := { s.zs with zones := l } }) (Vector.set_set ..)

/-- A member stands outside FAULT: the zone is in UNLOAD. -/
theorem unloadZone_of_standing (was : (s.zone z).state.Unloadable)
    (standing : ∃ a : ActId, (s.zone z).members.getLsbD a = true ∧ (s.chan a).state ≠ .fault) :
    s.unloadZone z b = alarmed (s.setZone z ((s.zone z).enterUnload b)) := by
  rw [unloadZone_entered was]
  refine safeIfAllFaulted_of_not_lost fun lost => ?_
  obtain ⟨a, member, well⟩ := standing
  rw [LostMembers, entered_zone] at lost
  exact well (lost.2 a member)

/-- Every member is in FAULT: the zone is in SAFE at once. -/
theorem unloadZone_of_faulted (was : (s.zone z).state.Unloadable)
    (faulted : ∀ a : ActId, (s.zone z).members.getLsbD a = true → (s.chan a).state = .fault) :
    s.unloadZone z b = alarmed (s.setZone z { (s.zone z).enterUnload b with state := .safe }) := by
  have lost : LostMembers (alarmed (s.setZone z ((s.zone z).enterUnload b))) z := by
    rw [LostMembers, entered_zone]
    exact ⟨rfl, faulted⟩
  rw [unloadZone_entered was, safeIfAllFaulted_of_lost lost, entered_zone]
  exact alarmed_setZone_again s z _ _

variable {r : Request}

theorem answerUnload_named (length : r.payload.length = 1) (named : field r.payload 0 1 = z.val) (s : State) :
    answerUnload r s =
      if (s.zone z).state = .ready || (s.zone z).state = .run || (s.zone z).state = .hold then
        zoneReply (s.unloadZone z false) z (encN 1 (s.zone z).state.code)
      else .no .state := onZone_named length named _

theorem unloadable_iff (x : ZoneState) : (x = .ready || x = .run || x = .hold) = true ↔ x.Unloadable := by
  simp only [ZoneState.Unloadable, Bool.or_eq_true, decide_eq_true_eq, or_assoc]

variable (head : AtHead s 0x36 r) (length : r.payload.length = 1) (named : field r.payload 0 1 = z.val)
include head length named

/-- UNLOAD accepted, by what the cause makes of the zone. -/
theorem exec_unload_accepted (was : (s.zone z).state.Unloadable) {x : Zone} {y : ZoneState}
    (effect : s.dequeued.unloadZone z false = alarmed (s.dequeued.setZone z x)) (state : x.state = y) :
    exec .unload s = accepted s r (alarmed (s.dequeued.setZone z x))
      (encN 1 y.code ++ encN 1 (s.zone z).state.code) := by
  refine exec_accepted (i := .unload) rfl head <| (answerUnload_named length named _).trans <|
    (if_pos ((unloadable_iff _).mpr was)).trans ?_
  rw [effect]
  exact zoneReply_alarmed _ z state _

theorem exec_unload_state (other : ¬ (s.zone z).state.Unloadable) : exec .unload s = refused s r .state :=
  exec_refused (i := .unload) rfl head <| (answerUnload_named length named _).trans <|
    if_neg (other ∘ (unloadable_iff _).mp)

end Unload

/-- Settles O34: HOLD by the zone's state and its reasons, UNLOAD by its state and its members. -/
theorem holdAndUnloadRule : Obligations.HoldAndUnloadRule := by
  refine fun s r z length named => ⟨fun head => ⟨exec_hold_run head length named,
    exec_hold_again head length named, exec_hold_adds head length named, exec_hold_state head length named⟩,
    fun head => ⟨fun was => ⟨fun standing => ?_, fun faulted => ?_⟩, fun other => ?_⟩⟩
  · exact exec_unload_accepted head length named was (y := .unload) (unloadZone_of_standing was standing) rfl
  · exact exec_unload_accepted head length named was (y := .safe) (unloadZone_of_faulted was faulted) rfl
  · refine exec_unload_state head length named ?_
    rcases other with h | h | h <;> rw [h, ZoneState.Unloadable] <;> decide

/-! ### RESUME (06 R113) -/

section Resume
variable {s : State} {r : Request} {z : ZoneId}

theorem answerResume_named (length : r.payload.length = 1) (named : field r.payload 0 1 = z.val) (s : State) :
    answerResume r s =
      if (s.zone z).state ≠ .hold then .no .state
      else if s.remaining z ≠ HoldReasons.empty || s.standing z || s.zs.overflow then
        .refused .state (encN 1 (s.remaining z).code)
      else zoneReply (s.setZone z ((s.zone z).resume s.nextHall)).alarm z [] := onZone_named length named _

/-- What would remain of the reasons at a RESUME, by what becomes of ALARM and of SYNC. -/
theorem remaining_eq {left : HoldReasons} (request : left.request = false) (segment : left.segment = false)
    (alarm : left.alarm = true ↔ (s.zone z).reasons.alarm = true ∧ Blocked s z)
    (sync : left.sync = true ↔ (s.zone z).reasons.sync = true ∧ s.tb.syncLost = true) :
    s.remaining z = left := by
  rw [← blocked_iff, ← Bool.and_eq_true, ← Bool.eq_iff_iff] at alarm
  rw [← Bool.and_eq_true, ← Bool.eq_iff_iff] at sync
  obtain ⟨_, _, _, _⟩ := left
  cases request; cases segment; cases alarm; cases sync
  rfl

theorem stays_iff : (s.remaining z ≠ HoldReasons.empty || s.standing z || s.zs.overflow) = true ↔
    s.remaining z ≠ ⟨false, false, false, false⟩ ∨ Blocked s z := by
  rw [← blocked_iff, Bool.or_assoc, Bool.or_eq_true, decide_eq_true_eq]
  rfl

variable (head : AtHead s 0x35 r) (length : r.payload.length = 1) (named : field r.payload 0 1 = z.val)
include head length named

theorem exec_resume_state (other : (s.zone z).state ≠ .hold) : exec .resume s = refused s r .state :=
  exec_refused (i := .resume) rfl head <| (answerResume_named length named _).trans <| if_pos other

variable (hold : (s.zone z).state = .hold)
include hold

theorem exec_resume_stays (stays : s.remaining z ≠ ⟨false, false, false, false⟩ ∨ Blocked s z) :
    exec .resume s = refusedWith s r .state (encN 1 (s.remaining z).code) := by
  rw [exec_atHead (i := .resume) rfl head, refusedWith]
  exact congrArg (fun a => Outcome.next (arbitrate (s.dequeued.answer r a))) <|
    (answerResume_named length named _).trans <|
    (if_neg (not_not.mpr hold)).trans <| if_pos (stays_iff.mpr stays)

theorem exec_resume_accepted (free : ¬ (s.remaining z ≠ ⟨false, false, false, false⟩ ∨ Blocked s z)) :
    exec .resume s = accepted s r (alarmed (s.dequeued.setZone z ((s.zone z).resume s.nextHall)))
      (encN 1 2) :=
  exec_accepted (i := .resume) rfl head <| (answerResume_named length named _).trans <|
    (if_neg (not_not.mpr hold)).trans <| (if_neg (free ∘ stays_iff.mp)).trans <|
    zoneReply_alarmed _ z (y := .run) rfl []

end Resume

/-! ### RELEASE (06 R110) -/

section Release
variable {s : State} {r : Request} {z : ZoneId}

theorem answerRelease_named (length : r.payload.length = 1) (named : field r.payload 0 1 = z.val) (s : State) :
    answerRelease r s =
      if (s.zone z).state = .ready || (s.zone z).state = .safe then
        zoneReply (s.releaseZone z) z (encN 1 (s.zone z).state.code)
      else .no .state := onZone_named length named _

theorem releaseZone_of_ready (ready : (s.zone z).state = .ready) : s.releaseZone z =
    (s.setZone z { s.zone z with state := .idle, pendingStart := none, lastStart := .none }).alarm := if_pos ready

theorem releaseZone_of_safe (safe : (s.zone z).state = .safe) : s.releaseZone z =
    ((s.setZone z { s.zone z with state := .idle }).mapMembers z Channel.release).alarm :=
  if_neg (safe ▸ nofun)

theorem releaseZone_zone (safe : (s.zone z).state = .safe) (y : ZoneId) :
    (s.releaseZone z).zone y = if y = z then { s.zone z with state := .idle } else s.zone y := by
  rw [releaseZone_of_safe safe]
  exact mapMembers_setZone_zone (x := { s.zone z with state := .idle }) (f := Channel.release) y

theorem releaseZone_chan (safe : (s.zone z).state = .safe) (a : ActId) : (s.releaseZone z).chan a =
    if (s.zone z).members.getLsbD a && (s.chan a).state = .active then { s.chan a with state := .standby }
    else s.chan a := by
  rw [releaseZone_of_safe safe]
  refine (mapMembers_setZone_chan (x := { s.zone z with state := .idle }) (f := Channel.release) rfl a).trans ?_
  simp only [Bool.and_eq_true, decide_eq_true_eq, ite_and]
  rfl

theorem releaseZone_only (safe : (s.zone z).state = .safe) : s.releaseZone z =
    { alarmed s with ac := (s.releaseZone z).ac, zs := { s.zs with zones := (s.releaseZone z).zs.zones } } := by
  rw [releaseZone_of_safe safe]
  rfl

theorem releasable_iff (x : ZoneState) : (x = .ready || x = .safe) = true ↔ x = .ready ∨ x = .safe := by
  rw [Bool.or_eq_true, decide_eq_true_eq, decide_eq_true_eq]

variable (head : AtHead s 0x37 r) (length : r.payload.length = 1) (named : field r.payload 0 1 = z.val)
include head length named

theorem exec_release_ready (ready : (s.zone z).state = .ready) : exec .release s = accepted s r
    (alarmed (s.dequeued.setZone z { s.zone z with
      state := .idle, pendingStart := none, lastStart := .none })) (encN 1 0 ++ encN 1 1) := by
  refine exec_accepted (i := .release) rfl head <| (answerRelease_named length named _).trans <|
    (if_pos ((releasable_iff _).mpr (.inl ready))).trans ?_
  rw [releaseZone_of_ready (s := s.dequeued) ready]
  refine (zoneReply_alarmed s.dequeued z (y := .idle) (by rfl) _).trans ?_
  rw [show (s.dequeued.zone z).state = .ready from ready]
  rfl

theorem exec_release_safe (safe : (s.zone z).state = .safe) :
    exec .release s = accepted s r (s.dequeued.releaseZone z) (encN 1 0 ++ encN 1 5) := by
  refine exec_accepted (i := .release) rfl head <| (answerRelease_named length named _).trans <|
    (if_pos ((releasable_iff _).mpr (.inr safe))).trans ?_
  have zone := (releaseZone_zone (s := s.dequeued) safe z).trans (if_pos rfl)
  rw [zoneReply, zone, show (s.dequeued.zone z).state = .safe from safe]
  rfl

theorem exec_release_state (ready : (s.zone z).state ≠ .ready) (safe : (s.zone z).state ≠ .safe) :
    exec .release s = refused s r .state :=
  exec_refused (i := .release) rfl head <| (answerRelease_named length named _).trans <|
    if_neg (not_or.mpr ⟨ready, safe⟩ ∘ (releasable_iff _).mp)

end Release

/-- Settles O35: RESUME by the reasons that would remain, RELEASE by the zone's state. -/
theorem resumeAndReleaseRule : Obligations.ResumeAndReleaseRule := by
  refine fun s r z length named => ⟨fun head => ⟨exec_resume_state head length named,
    fun hold left request segment alarm sync => ?_⟩, fun head => ⟨exec_release_ready head length named,
    fun safe => ?_, exec_release_state head length named⟩⟩
  · have remains := remaining_eq request segment alarm sync
    subst remains
    exact ⟨exec_resume_stays head length named hold, fun empty free =>
      exec_resume_accepted head length named hold (not_or.mpr ⟨not_not.mpr empty, free⟩)⟩
  · have same : (s.dequeued.zone z).state = .safe := safe
    exact ⟨s.dequeued.releaseZone z, exec_release_safe head length named safe,
      (releaseZone_zone same z).trans (if_pos rfl), fun y other => (releaseZone_zone same y).trans (if_neg other),
      releaseZone_chan same, releaseZone_only same⟩

end Sys2Proof.Machine
end
section
/-! The frame of the zones' requests (06 R99 to R101, R106 to R114, R122, R123). -/

namespace Sys2Proof.Machine
open Host Statements

/-- What the zones' requests leave of a channel. -/
def Channel.Kept (c d : Channel) : Prop :=
  d.cfg = c.cfg ∧ d.queued = c.queued ∧ d.current = c.current ∧ d.measured = c.measured ∧ d.valve = c.valve

theorem Channel.Kept.refl (c : Channel) : c.Kept c := ⟨rfl, rfl, rfl, rfl, rfl⟩

/-- Work on the zones and the channels, with ALARM-pending. -/
def ZonesOnly (s t : State) : Prop :=
  t = { s with
    ac := t.ac, zs := { s.zs with zones := t.zs.zones }
    lp := { s.lp with alarmPending := t.lp.alarmPending } }

/-- Work on the zone `z` and its members. -/
structure WorksOn (z : ZoneId) (s t : State) : Prop where
  only : ZonesOnly s t
  chan : ∀ a, (s.chan a).Kept (t.chan a)
  zone : ∀ y, y ≠ z → t.zone y = s.zone y

theorem WorksOn.of_ac {z : ZoneId} {s t : State} (only : ZonesOnly s t) (ac : t.ac = s.ac)
    (zone : ∀ y, y ≠ z → t.zone y = s.zone y) : WorksOn z s t :=
  ⟨only, fun a => by rw [show t.chan a = s.chan a from congrArg (·[a]) ac]; exact .refl _, zone⟩

theorem setZone_worksOn (s : State) (z : ZoneId) (x : Zone) : WorksOn z s (s.setZone z x) :=
  .of_ac rfl rfl fun y other => by rw [State.zone_setZone, if_neg other]

theorem WorksOn.alarm {z : ZoneId} {s t : State} (h : WorksOn z s t) : WorksOn z s t.alarm := by
  obtain ⟨only, chan, zone⟩ := h
  refine ⟨?_, chan, zone⟩
  rw [ZonesOnly, State.alarm]
  exact congrArg (fun u => { u with lp := { u.lp with alarmPending := true } }) only

theorem prepareZone_worksOn (s : State) (z : ZoneId) : WorksOn z s (s.prepareZone z) := by
  refine ⟨rfl, fun a => ?_, fun y other => (prepareZone_zone s z y).trans (if_neg other)⟩
  rw [prepareZone_chan]
  split
  · exact ⟨rfl, rfl, rfl, rfl, rfl⟩
  · exact .refl _

theorem heldMember_kept (c : Channel) : c.Kept (heldMember c) := by
  unfold heldMember
  split
  · exact ⟨rfl, rfl, rfl, rfl, rfl⟩
  · exact .refl _

theorem holdZone_worksOn (s : State) (z : ZoneId) (r : HoldReason) : WorksOn z s (s.holdZone z r) := by
  by_cases run : (s.zone z).state = .run
  · rw [holdZone_of_run r run]
    refine ⟨rfl, fun a => ?_, fun y other => (held_zone ..).trans (if_neg other)⟩
    rw [held_chan]
    split
    · exact heldMember_kept _
    · exact .refl _
  have same : WorksOn z s s := .of_ac rfl rfl fun _ _ => rfl
  by_cases hold : (s.zone z).state = .hold
  case neg => rwa [holdZone_of_other r run hold]
  rw [holdZone_of_hold r hold]
  by_cases old : (s.zone z).reasons.add r = (s.zone z).reasons
  · rwa [addReason_of_old old]
  · rw [addReason_of_new old]
    exact (setZone_worksOn s z _).alarm

theorem unloadZone_worksOn (s : State) (z : ZoneId) (b : Bool) : WorksOn z s (s.unloadZone z b) := by
  refine .of_ac ?_ (unloadZone_ac s z b) fun y => unloadZone_zone_ne s y z b
  unfold State.unloadZone State.safeIfAllFaulted
  split
  · split <;> rfl
  · split <;> rfl
  · split <;> rfl
  all_goals rfl

theorem releaseZone_worksOn {s : State} {z : ZoneId} (was : (s.zone z).state = .ready ∨ (s.zone z).state = .safe) :
    WorksOn z s (s.releaseZone z) := by
  rcases was with ready | safe
  · rw [releaseZone_of_ready ready]
    exact (setZone_worksOn s z _).alarm
  · refine ⟨by rw [releaseZone_of_safe safe]; rfl, fun a => ?_, fun y other =>
      (releaseZone_zone safe y).trans (if_neg other)⟩
    rw [releaseZone_chan safe]
    split
    · exact ⟨rfl, rfl, rfl, rfl, rfl⟩
    · exact .refl _

theorem ZoneAct.worksOn {s t : State} {z : ZoneId} {i : Instr} (act : ZoneAct s z i t) : WorksOn z s t := by
  cases act with
  | defineZone _ _ => exact setZone_worksOn s z _
  | setCycleRate _ _ => exact setZone_worksOn s z _
  | resetCycleCount => exact setZone_worksOn s z _
  | prepare => exact prepareZone_worksOn s z
  | start _ => exact setZone_worksOn s z _
  | hold => exact holdZone_worksOn s z .request
  | resume _ _ => exact (setZone_worksOn s z _).alarm
  | unload => exact unloadZone_worksOn s z false
  | release was => exact releaseZone_worksOn was

/-- The commands that change the members are PREPARE, HOLD and RELEASE. -/
theorem ZoneAct.ac {s t : State} {z : ZoneId} {i : Instr} (act : ZoneAct s z i t)
    (hi : i ∉ [Instr.prepare, .hold, .release]) : t.ac = s.ac := by
  simp only [List.mem_cons, List.not_mem_nil, or_false, not_or] at hi
  obtain ⟨noPrepare, noHold, noRelease⟩ := hi
  cases act with
  | prepare => exact absurd rfl noPrepare
  | hold => exact absurd rfl noHold
  | release _ => exact absurd rfl noRelease
  | unload => exact unloadZone_ac s z false
  | _ => rfl

/-- The zones' readings and ACK ALARM. -/
def zoneReadings : List Instr := [.readZone, .readAlarms, .ackAlarm]

/-- What a zone request of the command `i` leaves of the part. -/
structure ZoneRequested (i : Instr) (s t : State) : Prop where
  tb : t.tb = s.tb
  se : t.se = s.se
  strain : t.scv = s.scv ∧ t.sq = s.sq
  cm : t.cm = s.cm
  cu : t.cu = s.cu
  osc : t.osc = s.osc
  link : t.lp = { s.lp with requests := t.lp.requests, alarmPending := t.lp.alarmPending }
  list : i ≠ .ackAlarm → t.lw = s.lw ∧ t.zs.overflow = s.zs.overflow ∧ t.zs.alarms = s.zs.alarms
  ac : i ∉ [Instr.prepare, .hold, .release] → t.ac = s.ac
  chan : ∀ a, (s.chan a).Kept (t.chan a)
  zone : ∀ z, (∀ r rest, s.lp.requests = r :: rest → field r.payload 0 1 ≠ z.val) → i ≠ .ackAlarm →
    t.zone z = s.zone z
  zones : i ∈ zoneReadings → t.zs.zones = s.zs.zones

theorem ZoneRequested.refl (i : Instr) (s : State) : ZoneRequested i s s :=
  ⟨rfl, rfl, ⟨rfl, rfl⟩, rfl, rfl, rfl, rfl, fun _ => ⟨rfl, rfl, rfl⟩, fun _ => rfl, fun _ => .refl _,
    fun _ _ _ => rfl, fun _ => rfl⟩

theorem ZoneRequested.of_dequeued {i : Instr} (s : State) : ZoneRequested i s s.dequeued :=
  ⟨rfl, rfl, ⟨rfl, rfl⟩, rfl, rfl, rfl, rfl, fun _ => ⟨rfl, rfl, rfl⟩, fun _ => rfl, fun _ => .refl _,
    fun _ _ _ => rfl, fun _ => rfl⟩

theorem ZoneRequested.of_acts {i : Instr} (hi : i ∈ zoneWrites) {s t : State} {r : Request} {rest : List Request}
    (queue : s.lp.requests = r :: rest) (acts : ActsOn i r s.dequeued t) : ZoneRequested i s t := by
  obtain ⟨z, named, act⟩ := acts
  obtain ⟨only, chan, zone⟩ := act.worksOn
  have reading : i ∉ zoneReadings := fun h => by
    simp only [zoneReadings, List.mem_cons, List.not_mem_nil, or_false] at h
    rcases h with rfl | rfl | rfl <;> simp [zoneWrites] at hi
  rw [ZonesOnly] at only
  refine ⟨?_, ?_, ⟨?_, ?_⟩, ?_, ?_, ?_, ?_, fun _ => ⟨?_, ?_, ?_⟩, act.ac, chan, fun y other _ => ?_,
    fun h => absurd h reading⟩
  case refine_12 => exact zone y fun e => other r rest queue (e ▸ named)
  all_goals rw [only]; rfl

theorem ZoneRequested.of_acked {s t : State} (acked : Acked s.dequeued t) : ZoneRequested .ackAlarm s t := by
  obtain ⟨only, -⟩ := acked
  refine ⟨?_, ?_, ⟨?_, ?_⟩, ?_, ?_, ?_, ?_, fun h => absurd rfl h, fun _ => ?_, fun a => ?_,
    fun _ _ h => absurd rfl h, fun _ => ?_⟩
  case refine_10 => rw [only]; exact .refl _
  all_goals rw [only]; rfl

/-- A request to the zones: what its owner leaves, then a reply and the arbiter. -/
theorem zoneRequest_effect {i : Instr} (hi : i ∈ zoneWrites ∨ i ∈ zoneReadings) {s t : State}
    (hs : exec i s = .next t) : ∃ u, ZoneRequested i s u ∧ RequestFrame u t := by
  have same := ZoneRequested.of_dequeued (i := i) s
  rcases hi with hi | hi
  · obtain ⟨p, act, arm⟩ : ∃ p act, requestArm i = some (p, act) := by
      simp only [zoneWrites, List.mem_cons, List.not_mem_nil, or_false] at hi
      rcases hi with rfl | rfl | rfl | rfl | rfl | rfl | rfl | rfl | rfl <;> exact ⟨_, _, rfl⟩
    exact request_effect arm hs _ (.refl i s) same fun r rest queue =>
      (zoneWrites_acts hi arm r _).mono fun _ => .of_acts hi queue
  · simp only [zoneReadings, List.mem_cons, List.not_mem_nil, or_false] at hi
    rcases hi with rfl | rfl | rfl
    · exact request_effect rfl hs _ (.refl _ s) same fun r _ _ => answerReadZone_leads r same
    · exact request_effect rfl hs _ (.refl _ s) same fun r _ _ => answerReadAlarms_leads r same
    · exact request_effect rfl hs _ (.refl _ s) same fun r _ _ => (answerAckAlarm_leads r _).mono fun _ => .of_acked

/-- Settles O40: what the owner leaves, with the reply and the arbiter after it. -/
theorem zoneRequestsFrame : Obligations.ZoneRequestsFrame := by
  intro s t i hi hs
  have kind : i ∈ zoneWrites ∨ i ∈ zoneReadings := by
    simp only [zoneWrites, zoneReadings, List.mem_cons, List.not_mem_nil, or_false] at hi ⊢
    tauto
  obtain ⟨u, h, f⟩ := zoneRequest_effect kind hs
  obtain ⟨scv, sq, lw⟩ := f.strain
  have link : SameLink s u := by
    rw [SameLink, h.link]; exact ⟨rfl, rfl, rfl, rfl, rfl, rfl, rfl⟩
  have zone (z : ZoneId) : t.zone z = u.zone z := congrArg (·[z]) f.zones
  refine ⟨f.tb.trans h.tb, f.se.trans h.se, scv.trans h.strain.1, sq.trans h.strain.2, f.cm.trans h.cm,
    f.cu.trans h.cu, f.osc.trans h.osc, sameLink_trans link f.link, fun ack => ?_,
    fun own => f.ac.trans (h.ac own), fun a => ?_, fun z other ack => (zone z).trans (h.zone z other ack),
    fun reading => f.zones.trans (h.zones reading)⟩
  · obtain ⟨lwSame, overflow, alarms⟩ := h.list ack
    exact ⟨lw.trans lwSame, f.alarms.1.trans overflow, by rw [f.alarms.2, alarms]⟩
  · have kept := h.chan a
    rwa [show t.chan a = u.chan a from congrArg (·[a]) f.ac]

end Sys2Proof.Machine
end
section
/-! ACK ALARM (06 R122, 09 R172). -/

namespace Sys2Proof.Machine
open Host Statements

/-! ### The LIMIT latches -/

/-- A rule with its latch cleared (09 R172). -/
def LimitRule.unlatched (q : LimitRule) : LimitRule := { q with latched := false }

theorem clearLatchOf_rule (s : State) (x : AlarmSource) (n : RuleId) : (s.clearLatchOf x).lw.rules[n] =
    if x = .limit n then s.lw.rules[n].unlatched else s.lw.rules[n] := by
  cases x with
  | limit m =>
    simp only [State.clearLatchOf, State.clearLatch, State.setRule_lw, Fin.getElem_fin, Vector.getElem_set,
      AlarmSource.limit.injEq, Fin.ext_iff]
    split
    · rename_i same
      simp only [same]
      rfl
    · rfl
  | _ => rfl

theorem LimitRule.unlatched_unlatched (q : LimitRule) : q.unlatched.unlatched = q.unlatched := rfl

theorem clearLatches_rule (l : List AlarmEntry) (s : State) (n : RuleId) :
    (l.foldl (fun t e => t.clearLatchOf e.source) s).lw.rules[n] =
      if ∃ e ∈ l, e.source = .limit n then s.lw.rules[n].unlatched else s.lw.rules[n] := by
  induction l generalizing s with
  | nil => simp
  | cons e l ih =>
    rw [List.foldl_cons, ih, clearLatchOf_rule]
    simp only [List.mem_cons, exists_eq_or_imp]
    by_cases head : e.source = .limit n <;> simp [head, LimitRule.unlatched_unlatched]

/-! ### What ACK ALARM answers -/

/-- The reply when the entries of `gone` leave. -/
theorem ackReply_of_removed {s t : State} {gone : AlarmEntry → Bool} (overflow : t.zs.overflow = s.zs.overflow)
    (alarms : t.zs.alarms = s.zs.alarms.filter fun e => !gone e) :
    ackReply s t = .accepted t (encN 1 (s.zs.alarms.countP gone) ++ encFlag s.zs.overflow) := by
  have count : s.zs.alarms.length - t.zs.alarms.length = s.zs.alarms.countP gone := by
    rw [alarms, ← List.countP_eq_length_filter]
    have both := s.zs.alarms.length_eq_countP_add_countP gone
    simp only [Bool.not_eq_true, Bool.decide_eq_false] at both
    omega
  rw [ackReply, count, overflow]

section Ack
variable {s : State} {r : Request} (head : AtHead s 0x3B r) (length : r.payload.length = 4)
include head length

/-- A source code and number that name no source are out of range. -/
theorem exec_ackAlarm_source_none (form : field r.payload 0 1 = 0)
    (source : AlarmSource.ofCode (field r.payload 1 1) (field r.payload 2 1) = none) :
    exec .ackAlarm s = refused s r .range := by
  refine exec_refused (i := .ackAlarm) rfl head ?_
  rw [answerAckAlarm, if_neg (not_not.mpr length), form, source]
  rfl

theorem exec_ackAlarm_source {x : AlarmSource} (form : field r.payload 0 1 = 0)
    (source : AlarmSource.ofCode (field r.payload 1 1) (field r.payload 2 1) = some x) :
    exec .ackAlarm s = accepted s r (s.dequeued.ackSource x)
      (encN 1 (s.zs.alarms.countP fun e => e.source = x) ++ encFlag s.zs.overflow) := by
  refine exec_accepted (i := .ackAlarm) rfl head ?_
  rw [answerAckAlarm, if_neg (not_not.mpr length), form, source]
  exact ackReply_of_removed (by rw [ackSource_eq]) (by rw [ackSource_eq])

theorem exec_ackAlarm_zone_none (form : field r.payload 0 1 = 1) (zone : 3 < field r.payload 3 1) :
    exec .ackAlarm s = refused s r .range := by
  refine exec_refused (i := .ackAlarm) rfl head ?_
  rw [answerAckAlarm, if_neg (not_not.mpr length), form, index?_eq_none.mpr zone]
  rfl

theorem exec_ackAlarm_zone {z : ZoneId} (form : field r.payload 0 1 = 1) (zone : field r.payload 3 1 = z.val) :
    exec .ackAlarm s = accepted s r (s.dequeued.ackZone z)
      (encN 1 (s.zs.alarms.countP fun e => e.zone = z) ++ encFlag s.zs.overflow) := by
  refine exec_accepted (i := .ackAlarm) rfl head ?_
  rw [answerAckAlarm, if_neg (not_not.mpr length), form, index?_eq_some.mpr zone]
  exact ackReply_of_removed (by rw [ackZone_eq]) (by rw [ackZone_eq])

theorem exec_ackAlarm_overflow (form : field r.payload 0 1 = 2) :
    exec .ackAlarm s = accepted s r s.dequeued.ackOverflow (encN 1 0 ++ encFlag false) := by
  refine exec_accepted (i := .ackAlarm) rfl head ?_
  rw [answerAckAlarm, if_neg (not_not.mpr length), form, ackOverflow_eq]
  exact congrArg (fun n => Answer.accepted _ (encN 1 n ++ encFlag false)) (Nat.sub_self _)

theorem exec_ackAlarm_form (form : 2 < field r.payload 0 1) : exec .ackAlarm s = refused s r .range := by
  refine exec_refused (i := .ackAlarm) rfl head ?_
  rw [answerAckAlarm, if_neg (not_not.mpr length)]
  split
  · omega
  · omega
  · omega
  · rfl

end Ack

/-! ### The rule -/

theorem ackSource_rule (s : State) (x : AlarmSource) (n : RuleId) : (s.ackSource x).lw.rules[n] =
    if x = .limit n then s.lw.rules[n].unlatched else s.lw.rules[n] := clearLatchOf_rule _ x n

theorem ackZone_rule (s : State) (z : ZoneId) (n : RuleId) : (s.ackZone z).lw.rules[n] =
    if ∃ e ∈ s.zs.alarms.filter (fun e : AlarmEntry => decide (e.zone = z)), e.source = .limit n then s.lw.rules[n].unlatched
    else s.lw.rules[n] := clearLatches_rule _ (s.removeAlarms _) n

/-- Settles O36: by the form of the request, the entries that leave and the latches of their rules. -/
theorem ackAlarmRule : Obligations.AckAlarmRule := by
  intro s r head length
  refine ⟨fun form => ⟨exec_ackAlarm_source_none head length form, fun x source =>
      ⟨s.dequeued.ackSource x, ⟨exec_ackAlarm_source head length form source, ackSource_eq _ x⟩,
        ackSource_rule _ x⟩⟩,
    fun form => ⟨exec_ackAlarm_zone_none head length form, fun z zone =>
      ⟨s.dequeued.ackZone z, ⟨exec_ackAlarm_zone head length form zone, ackZone_eq _ z⟩, fun n => ⟨?_, ?_⟩⟩⟩,
    fun form => ?_, exec_ackAlarm_form head length⟩
  · rintro ⟨e, listed, zone, source⟩
    refine (ackZone_rule s.dequeued z n).trans (if_pos ⟨e, List.mem_filter.mpr ⟨listed, ?_⟩, source⟩)
    exact decide_eq_true zone
  · intro others
    refine (ackZone_rule s.dequeued z n).trans (if_neg ?_)
    rintro ⟨e, gone, source⟩
    obtain ⟨listed, zone⟩ := List.mem_filter.mp gone
    exact others e listed (of_decide_eq_true zone) source
  · rw [exec_ackAlarm_overflow head length form, ackOverflow_eq]
    rfl

end Sys2Proof.Machine
end
section
/-! A raise (06 R118 to R121). -/

namespace Sys2Proof.Machine
open Host Statements

/-! ### The list -/

/-- The list is full, holds no entry of the source, and no INFO entry. -/
def Unstored (q : ZoneSupervisor) (r : Raise) : Prop :=
  16 ≤ q.alarms.length ∧ ∀ e ∈ q.alarms, e.source ≠ r.source ∧ e.severity ≠ .info

section
variable {q : ZoneSupervisor} {r : Raise} (time : Nat)

theorem take_unstored (h : Unstored q r) : q.take r time = ({ q with overflow := true }, .notStored) :=
  take_overflows time (fun e he => (h.2 e he).1) h.1 (dropOldestInfo_eq_none.mpr fun e he => (h.2 e he).2)

theorem take_notStored_iff : (q.take r time).2 = .notStored ↔ Unstored q r := by
  refine ⟨fun h => ?_, fun h => by rw [take_unstored time h]⟩
  rcases source_stands_or q r with ⟨e, he, source⟩ | fresh
  · rw [take_again time he source] at h; cases h
  by_cases room : q.alarms.length < 16
  · rw [take_room time fresh room] at h; cases h
  have full := Nat.not_lt.mp room
  cases info : dropOldestInfo q.alarms with
  | some l => rw [take_evicts time fresh full info] at h; cases h
  | none => exact ⟨full, fun e he => ⟨fresh e he, dropOldestInfo_eq_none.mp info e he⟩⟩

/-- The one entry of the source, raised again in its place. -/
theorem take_again_at {l₁ l₂ : List AlarmEntry} {e : AlarmEntry} (list : q.alarms = l₁ ++ e :: l₂)
    (source : e.source = r.source) (others : ∀ f ∈ l₁ ++ l₂, f.source ≠ r.source) :
    q.take r time = ({ q with alarms := l₁ ++ e.again r :: l₂ }, .occurrence) := by
  have kept (l : List AlarmEntry) (h : ∀ f ∈ l, f.source ≠ r.source) :
      (l.map fun f => if f.source = r.source then f.again r else f) = l :=
    (List.map_congr_left fun f hf => if_neg (h f hf)).trans (List.map_id _)
  rw [take_again time (e := e) (by simp [list]) source, list, List.map_append, List.map_cons, if_pos source,
    kept l₁ fun f hf => others f (List.mem_append_left _ hf),
    kept l₂ fun f hf => others f (List.mem_append_right _ hf)]

theorem take_evicts_at (fresh : ∀ e ∈ q.alarms, e.source ≠ r.source) (full : 16 ≤ q.alarms.length)
    {l₁ l₂ : List AlarmEntry} {e : AlarmEntry} (list : q.alarms = l₁ ++ e :: l₂) (info : e.severity = .info)
    (before : ∀ f ∈ l₁, f.severity ≠ .info) :
    q.take r time = ({ q with alarms := l₁ ++ l₂ ++ [r.entry time] }, .newEntry) :=
  take_evicts time fresh full (dropOldestInfo_eq_some.mpr ⟨l₁, e, l₂, list, info, before, rfl⟩)

end

/-! ### The severity on its zone (06 R120) -/

/-- A raise of severity `v` moves the zone `z`. -/
def SeverityMoves (s : State) (z : ZoneId) (v : Severity) : Prop :=
  (v = .minor ∧ ((s.zone z).state = .run ∨ ((s.zone z).state = .hold ∧ (s.zone z).reasons.alarm = false))) ∨
  (v = .major ∧ (s.zone z).state.Unloadable)

theorem HoldReasons.add_alarm_iff (q : HoldReasons) : q.add .alarm = q ↔ q.alarm = true := by
  constructor
  · intro same
    rw [← same]
    rfl
  · intro h
    cases q; cases h; rfl

theorem severityAction_worksOn (s : State) (z : ZoneId) (v : Severity) : WorksOn z s (s.severityAction z v) := by
  cases v with
  | info => exact .of_ac rfl rfl fun _ _ => rfl
  | minor => exact holdZone_worksOn s z .alarm
  | major => exact unloadZone_worksOn s z true

/-- A severity that does not move its zone leaves the part. -/
theorem severityAction_of_stays {s : State} {z : ZoneId} {v : Severity} (stays : ¬ SeverityMoves s z v) :
    s.severityAction z v = s := by
  cases v with
  | info => rfl
  | major => exact unloadZone_of_other fun was => stays (.inr ⟨rfl, was⟩)
  | minor =>
    have run : (s.zone z).state ≠ .run := fun run => stays (.inl ⟨rfl, .inl run⟩)
    by_cases hold : (s.zone z).state = .hold
    · refine (holdZone_of_hold .alarm hold).trans (addReason_of_old ((HoldReasons.add_alarm_iff _).mpr ?_))
      exact Bool.not_eq_false _ ▸ fun old => stays (.inl ⟨rfl, .inr ⟨hold, old⟩⟩)
    · exact holdZone_of_other .alarm run hold

theorem alarmed_of_unloaded {s : State} {z : ZoneId} {b : Bool} (was : (s.zone z).state.Unloadable) :
    (s.unloadZone z b).lp.alarmPending = true := by
  rw [unloadZone_entered was, State.safeIfAllFaulted]
  split <;> rfl

theorem alarmed_of_moved {s : State} {z : ZoneId} {v : Severity} (moves : SeverityMoves s z v) :
    (s.severityAction z v).lp.alarmPending = true := by
  rcases moves with ⟨rfl, run | ⟨hold, new⟩⟩ | ⟨rfl, was⟩
  · rw [State.severityAction, holdZone_of_run .alarm run]; rfl
  · rw [State.severityAction, holdZone_of_hold .alarm hold, addReason_of_new]
    · rfl
    · rw [Ne, HoldReasons.add_alarm_iff, new]; decide
  · exact alarmed_of_unloaded was

theorem severityAction_alarmPending (s : State) (z : ZoneId) (v : Severity) :
    (s.severityAction z v).lp.alarmPending = true ↔ s.lp.alarmPending = true ∨ SeverityMoves s z v := by
  by_cases moves : SeverityMoves s z v
  · simp only [alarmed_of_moved moves, moves, or_true]
  · simp only [severityAction_of_stays moves, moves, or_false]

theorem severityAction_chan (s : State) (z : ZoneId) (v : Severity) (a : ActId) :
    (s.severityAction z v).chan a =
      if v = .minor ∧ (s.zone z).state = .run ∧ (s.zone z).members.getLsbD a = true then heldMember (s.chan a)
      else s.chan a := by
  cases v with
  | info => rfl
  | major => exact congrArg (·[a]) (unloadZone_ac s z true)
  | minor =>
    by_cases run : (s.zone z).state = .run
    · rw [State.severityAction, holdZone_of_run .alarm run, held_chan]
      simp only [run, true_and]
    · rw [if_neg fun h => run h.2.1, State.severityAction]
      by_cases hold : (s.zone z).state = .hold
      · rw [holdZone_of_hold .alarm hold, State.addReason]
        split <;> rfl
      · rw [holdZone_of_other .alarm run hold]

/-! ### The whole raise -/

theorem alarmTrigger_only (s : State) (time : Nat) (x : AlarmTrigger) :
    s.alarmTrigger time x = { s with cu := (s.alarmTrigger time x).cu } := by
  unfold State.alarmTrigger
  split
  · exact trigger_only s _
  · rfl

theorem enlist_only (s : State) (r : Raise) : s.enlist r =
    { s with
      zs := (s.enlist r).zs, lp := { s.lp with alarmPending := (s.enlist r).lp.alarmPending } } := by
  unfold State.enlist
  dsimp only
  split <;> rfl

theorem enlist_chan (s : State) (r : Raise) (a : ActId) : (s.enlist r).chan a = s.chan a := by
  rw [enlist_only]; rfl

theorem enlist_alarmPending (s : State) (r : Raise) : (s.enlist r).lp.alarmPending = true ↔
    s.lp.alarmPending = true ∨ ¬ (Unstored s.zs r ∧ s.zs.overflow = true) := by
  rw [← take_notStored_iff s.hall]
  unfold State.enlist
  dsimp only
  split
  · rename_i found
    simp only [Bool.and_eq_true, decide_eq_true_eq] at found
    simp [found]
  · rename_i found
    simp only [Bool.and_eq_true, decide_eq_true_eq] at found
    exact ⟨fun _ => .inr found, fun _ => rfl⟩

section Raise
variable (s : State) (r : Raise)

/-- A raise but for the Capture Unit. -/
def State.raised (s : State) (r : Raise) : State := (s.enlist r).severityAction r.zone r.severity

theorem raise_eq : s.raise r = { s.raised r with cu := (s.raise r).cu } := alarmTrigger_only _ _ _

/-- A raise writes the channels, the Zone Supervisor, the Capture Unit and ALARM-pending. -/
theorem raise_only : s.raise r = { s with
    ac := (s.raise r).ac, zs := (s.raise r).zs, cu := (s.raise r).cu
    lp := { s.lp with alarmPending := (s.raise r).lp.alarmPending } } := by
  have acted := (severityAction_worksOn (s.enlist r) r.zone r.severity).only
  rw [raise_eq, State.raised, acted, enlist_only]

theorem severityMoves_enlist (z : ZoneId) (v : Severity) :
    SeverityMoves (s.enlist r) z v ↔ SeverityMoves s z v := by
  rw [SeverityMoves, SeverityMoves, enlist_zone]

theorem raise_alarmPending : (s.raise r).lp.alarmPending = true ↔ s.lp.alarmPending = true ∨
    ¬ (Unstored s.zs r ∧ s.zs.overflow = true) ∨ SeverityMoves s r.zone r.severity := by
  rw [raise_eq, State.raised]
  dsimp only
  rw [severityAction_alarmPending, enlist_alarmPending, severityMoves_enlist, or_assoc]

theorem raise_chan (a : ActId) : (s.raise r).chan a =
    if r.severity = .minor ∧ (s.zone r.zone).state = .run ∧ (s.zone r.zone).members.getLsbD a = true
      then heldMember (s.chan a) else s.chan a := by
  have acted : (s.raise r).chan a = (s.raised r).chan a := by rw [raise_eq]; rfl
  rw [acted, State.raised, severityAction_chan, enlist_zone, enlist_chan]

theorem ramps_enlist (z : ZoneId) : ramps (s.enlist r) z = ramps s z := by
  simp only [ramps, enlist_zone, enlist_chan]

end Raise

section RaisedZone
variable {s : State} {r : Raise}

/-- A MINOR raise for a zone in RUN: the zone enters HOLD with ALARM (06 R111, R120). -/
theorem raise_minor_run (minor : r.severity = .minor) (run : (s.zone r.zone).state = .run) :
    (s.raise r).zone r.zone = heldZone (s.zone r.zone) (ramps s r.zone) ⟨false, false, true, false⟩ := by
  rw [← enlist_zone s r] at run
  rw [raise_zone, minor, State.severityAction, holdZone_of_run .alarm run, held_zone, if_pos rfl, enlist_zone,
    ramps_enlist]
  rfl

/-- A MINOR raise for a zone in HOLD adds ALARM (06 R111, R120). -/
theorem raise_minor_hold (minor : r.severity = .minor) (hold : (s.zone r.zone).state = .hold) :
    (s.raise r).zone r.zone =
      { s.zone r.zone with reasons := { (s.zone r.zone).reasons with alarm := true } } := by
  rw [← enlist_zone s r] at hold
  rw [raise_zone, minor, State.severityAction, holdZone_of_hold .alarm hold, addReason_zone, if_pos rfl,
    enlist_zone]
  rfl

/-- A raise whose severity does not move its zone leaves it (06 R120). -/
theorem raise_zone_stays (stays : ¬ SeverityMoves s r.zone r.severity) :
    (s.raise r).zone r.zone = s.zone r.zone := by
  rw [raise_zone, severityAction_of_stays (mt (severityMoves_enlist s r _ _).mp stays), enlist_zone]

/-- A MAJOR raise for a zone with a member outside FAULT (06 R114, R120). -/
theorem raise_major_standing (major : r.severity = .major) (was : (s.zone r.zone).state.Unloadable)
    (standing : ∃ a : ActId, (s.zone r.zone).members.getLsbD a = true ∧ (s.chan a).state ≠ .fault) :
    (s.raise r).zone r.zone = (s.zone r.zone).enterUnload true := by
  rw [← enlist_zone s r] at was
  simp only [← enlist_zone s r, ← enlist_chan s r] at standing
  rw [raise_zone, major, State.severityAction, unloadZone_of_standing was standing, entered_zone, enlist_zone]

/-- A MAJOR raise for a zone whose members are all in FAULT (06 R115, R120). -/
theorem raise_major_faulted (major : r.severity = .major) (was : (s.zone r.zone).state.Unloadable)
    (faulted : ∀ a : ActId, (s.zone r.zone).members.getLsbD a = true → (s.chan a).state = .fault) :
    (s.raise r).zone r.zone = { (s.zone r.zone).enterUnload true with state := .safe } := by
  rw [← enlist_zone s r] at was
  simp only [← enlist_zone s r, ← enlist_chan s r] at faulted
  rw [raise_zone, major, State.severityAction, unloadZone_of_faulted was faulted, entered_zone, enlist_zone]

end RaisedZone

/-- Settles O37: the list by the cases of `take`, the zone and its members by the severity. -/
theorem raiseRule : Obligations.RaiseRule := by
  intro s r
  obtain ⟨alarms, overflow⟩ := raise_list s r
  refine ⟨fun l₁ e l₂ list source others => ?_, fun fresh => ⟨raise_newEntry fresh,
    fun full l₁ e l₂ list info before => ?_⟩, fun unstored => ?_, raise_alarmPending s r, raise_only s r,
    fun z other => raise_zone_ne s r z (.inl other), raise_chan s r, fun info => raise_zone_ne s r _ (.inr info),
    fun minor => ⟨raise_minor_run minor, raise_minor_hold minor, fun run hold => raise_zone_stays ?_⟩,
    fun major => ⟨fun was => ⟨raise_major_standing major was, raise_major_faulted major was⟩,
      fun other => raise_zone_stays ?_⟩⟩
  · rw [alarms, overflow, take_again_at s.hall list source others]
    exact ⟨rfl, rfl⟩
  · rw [alarms, overflow, take_evicts_at s.hall fresh full list info before]
    exact ⟨rfl, rfl⟩
  · rw [alarms, overflow, take_unstored s.hall unstored]
    exact ⟨rfl, rfl⟩
  · rintro (⟨-, now | ⟨now, -⟩⟩ | ⟨major, -⟩)
    · exact run now
    · exact hold now
    · rw [minor] at major; cases major
  · rintro (⟨minor, -⟩ | ⟨-, was⟩)
    · rw [minor] at major; cases major
    · rcases was with was | was | was <;> rw [was] at other <;> simp at other

end Sys2Proof.Machine
end
section
/-! The strobe work of a zone's clock, and the window work of an AE channel (06 R103 to R105, 10 R182, R183). -/

namespace Sys2Proof.Machine
open Host Statements

/-! ### Crossings (06 R104) -/

section Crossing
variable {x : Zone} {n : Nat}

/-- The phase index passes a quarter at the n-th strobe. -/
def Zone.PeakAt (x : Zone) (n : Nat) : Prop :=
  1 ≤ n ∧ phaseIndex x.inc (n - 1) < 256 ∧ 256 ≤ phaseIndex x.inc n

/-- It passes three quarters, and not a quarter. -/
def Zone.ValleyAt (x : Zone) (n : Nat) : Prop :=
  1 ≤ n ∧ ¬ x.PeakAt n ∧ phaseIndex x.inc (n - 1) < 768 ∧ 768 ≤ phaseIndex x.inc n

theorem crossing_of_peak (peak : x.PeakAt n) : x.crossing n = some true := by
  obtain ⟨later, before, here⟩ := peak
  simp [Zone.crossing, before, here, Nat.pos_iff_ne_zero.mp later]

theorem not_quarter {n : Nat} (later : 1 ≤ n) (peak : ¬ x.PeakAt n) :
    (phaseIndex x.inc (n - 1) < 256 && 256 ≤ phaseIndex x.inc n) = false :=
  Bool.eq_false_iff.mpr fun quarter => by
    rw [Bool.and_eq_true, decide_eq_true_eq, decide_eq_true_eq] at quarter
    exact peak ⟨later, quarter⟩

theorem crossing_of_valley (valley : x.ValleyAt n) : x.crossing n = some false := by
  obtain ⟨later, peak, before, here⟩ := valley
  simp [Zone.crossing, not_quarter later peak, before, here, Nat.pos_iff_ne_zero.mp later]

theorem crossing_of_neither (peak : ¬ x.PeakAt n) (valley : ¬ x.ValleyAt n) : x.crossing n = none := by
  unfold Zone.crossing
  dsimp only
  split
  · rfl
  · rename_i nonzero
    have later := Nat.pos_of_ne_zero nonzero
    rw [not_quarter later peak, if_neg (by decide), if_neg]
    rw [Bool.and_eq_true, decide_eq_true_eq, decide_eq_true_eq]
    exact fun passed => valley ⟨later, peak, passed⟩

end Crossing

theorem selects_peak (c : PhaseCapture) : c.selects true = true ↔ c = .peak ∨ c = .both := by
  cases c <;> simp [PhaseCapture.selects]

theorem selects_valley (c : PhaseCapture) : c.selects false = true ↔ c = .valley ∨ c = .both := by
  cases c <;> simp [PhaseCapture.selects]

/-! ### The two readings of the members (log 9) -/

section Readings
variable (s : State) (old : Vector Channel 8) (z : ZoneId)

/-- The channels that a crossing or a guard reads: each after or before its update. -/
def readAs (pick : ActId → Bool) (a : ActId) : Channel := if pick a then s.chan a else old[a]

theorem forceList_eq : s.forceList old z = (maskActs (s.zone z).members).map fun a =>
    ⟨a, (readAs s old (Config.crossingAfterUpdate s.free z) a).measured.force,
      (readAs s old (Config.crossingAfterUpdate s.free z) a).currentTag⟩ := by
  unfold State.forceList
  simp only [either_eq]
  rfl

theorem totalForce_eq : s.totalForce old z = ((maskActs (s.zone z).members).map fun a =>
    (readAs s old (Config.guardAfterUpdate s.free z) a).measured.force).sum := by
  unfold State.totalForce
  simp only [either_eq, readAs, apply_ite Channel.measured, apply_ite Feedback.force]
  rfl

end Readings

/-! ### The captured crossing -/

section Captured
variable {s : State} {old : Vector Channel 8} {z : ZoneId} {y : Zone} {n : Nat}

theorem cyclingIn_iff (s : State) (z : ZoneId) : s.cyclingIn z = true ↔ Cycling s z :=
  Zone.any_member (s.zone z) _

theorem captured_of_crossing {peak : Bool} (crossing : y.crossing n = some peak) (cycling : Cycling s z)
    (selected : y.capture.selects peak = true) (counter : y.counter = 0) :
    s.captured old z y n = some ⟨z, peak, y.cycleCount, s.strobeHall, s.forceList old z⟩ := by
  simp only [State.captured, crossing, (cyclingIn_iff s z).mpr cycling, selected, counter]
  rfl

theorem captured_eq_none {peak : Bool} (crossing : y.crossing n = some peak)
    (h : ¬ Cycling s z ∨ y.capture.selects peak = false ∨ y.counter ≠ 0) : s.captured old z y n = none := by
  simp only [State.captured, crossing]
  refine if_neg fun all => ?_
  rw [Bool.and_eq_true, Bool.and_eq_true, decide_eq_true_eq, cyclingIn_iff] at all
  obtain ⟨⟨cycling, selected⟩, counter⟩ := all
  rcases h with idle | off | skipped
  · exact idle cycling
  · rw [off] at selected; cases selected
  · exact skipped counter

theorem captured_of_none (crossing : y.crossing n = none) : s.captured old z y n = none := by
  simp only [State.captured, crossing]

theorem crossing_congr {x y : Zone} (inc : y.inc = x.inc) (n : Nat) : y.crossing n = x.crossing n := by
  rw [Zone.crossing, inc]
  rfl

/-- No crossing is captured: there is none, or its kind is not selected, or the capture is not due. -/
theorem captured_of_neither {x : Zone} (inc : y.inc = x.inc) (selection : y.capture = x.capture)
    (h : (¬ x.PeakAt n ∧ ¬ x.ValleyAt n) ∨ ¬ Cycling s z ∨
      (x.PeakAt n ∧ x.capture ≠ .peak ∧ x.capture ≠ .both) ∨
      (x.ValleyAt n ∧ x.capture ≠ .valley ∧ x.capture ≠ .both) ∨ y.counter ≠ 0) :
    s.captured old z y n = none := by
  have unselected {peak : Bool} (crossing : x.crossing n = some peak) (off : ¬ x.capture.selects peak = true) :
      s.captured old z y n = none :=
    captured_eq_none ((crossing_congr inc n).trans crossing)
      (.inr (.inl (selection ▸ Bool.not_eq_true _ ▸ off)))
  have undue (h : ¬ Cycling s z ∨ y.counter ≠ 0) : s.captured old z y n = none := by
    cases crossing : y.crossing n with
    | none => exact captured_of_none crossing
    | some peak => exact captured_eq_none crossing (h.imp_right .inr)
  rcases h with ⟨peak, valley⟩ | idle | ⟨peak, noPeak, noBoth⟩ | ⟨valley, noValley, noBoth⟩ | skipped
  · exact captured_of_none ((crossing_congr inc n).trans (crossing_of_neither peak valley))
  · exact undue (.inl idle)
  · exact unselected (crossing_of_peak peak) (not_or.mpr ⟨noPeak, noBoth⟩ ∘ (selects_peak _).mp)
  · exact unselected (crossing_of_valley valley) (not_or.mpr ⟨noValley, noBoth⟩ ∘ (selects_valley _).mp)
  · exact undue (.inr skipped)

end Captured

/-! ### The guard (06 R105) -/

section Guard
variable {x : Zone} {lo hi sum : Int}

theorem outside_iff : (sum < lo || hi < sum) = true ↔ ¬ (lo ≤ sum ∧ sum ≤ hi) := by
  rw [Bool.or_eq_true, decide_eq_true_eq, decide_eq_true_eq]
  omega

theorem guard_within (within : lo ≤ sum ∧ sum ≤ hi) :
    x.guard lo hi sum = ({ x with guardSum := some sum, guardRun := 0 }, false) :=
  if_neg (not_not.mpr within ∘ outside_iff.mp)

theorem guard_counts (outside : ¬ (lo ≤ sum ∧ sum ≤ hi)) (few : x.guardRun < 3) :
    x.guard lo hi sum = ({ x with guardSum := some sum, guardRun := x.guardRun + 1 }, false) :=
  (if_pos (outside_iff.mpr outside)).trans (if_neg (Nat.not_le.mpr few))

theorem guard_raises (outside : ¬ (lo ≤ sum ∧ sum ≤ hi)) (enough : 3 ≤ x.guardRun) :
    x.guard lo hi sum = ({ x with guardSum := some sum, guardRun := 0 }, true) :=
  (if_pos (outside_iff.mpr outside)).trans (if_pos enough)

end Guard

/-! ### The clock's work -/

section Clock
variable {s : State} {old : Vector Channel 8} {z : ZoneId} {n : Nat}

theorem clockWork_of_stopped (stopped : (s.zone z).strobeIndex s.strobeHall = none) :
    s.clockWork old z = ⟨{ s.zone z with guardSum := none, latestN := none }, none, false⟩ := by
  simp only [State.clockWork, stopped]

/-- The zone after the wrap work of the n-th strobe. -/
def State.wrapped (s : State) (old : Vector Channel 8) (z : ZoneId) (n : Nat) : Zone :=
  if isWrap (s.zone z).inc n then
    ({ s.zone z with latestN := some n } : Zone).wrapWork ((s.zone z).memberList.any fun a => old[a].wasCycling)
  else { s.zone z with latestN := some n }

/-- The crossing and the guard of the n-th strobe, `y` being the zone after its wrap work. -/
def State.workOn (s : State) (old : Vector Channel 8) (z : ZoneId) (n : Nat) (y : Zone) : ZoneWork :=
  match y.window with
  | none => { zone := { y with guardSum := none, guardRun := 0 }, capture := s.captured old z y n, total := false }
  | some (lo, hi) =>
    let g := y.guard lo hi (s.totalForce old z)
    { zone := g.1, capture := s.captured old z y n, total := g.2 }

theorem clockWork_of_running (running : (s.zone z).strobeIndex s.strobeHall = some n) :
    s.clockWork old z = s.workOn old z n (s.wrapped old z n) := by
  unfold State.clockWork
  dsimp only
  rw [running]
  rfl

theorem workOn_capture (y : Zone) : (s.workOn old z n y).capture = s.captured old z y n := by
  unfold State.workOn
  split <;> rfl

theorem workOn_unguarded {y : Zone} (window : y.window = none) :
    (s.workOn old z n y).zone = { y with guardSum := none, guardRun := 0 } ∧
      (s.workOn old z n y).total = false := by
  rw [State.workOn, window]
  exact ⟨rfl, rfl⟩

theorem workOn_guarded {y : Zone} {lo hi : Int} (window : y.window = some (lo, hi)) :
    (s.workOn old z n y).zone = (y.guard lo hi (s.totalForce old z)).1 ∧
      (s.workOn old z n y).total = (y.guard lo hi (s.totalForce old z)).2 := by
  rw [State.workOn, window]
  exact ⟨rfl, rfl⟩

end Clock

section Wrapped
variable {s : State} {old : Vector Channel 8} {z : ZoneId} {n : Nat}

/-- A member was cycling before the updates. -/
def Cycled (s : State) (old : Vector Channel 8) (z : ZoneId) : Prop :=
  ∃ a : ActId, (s.zone z).members.getLsbD a = true ∧ old[a].wasCycling = true

/-- The n-th strobe is a wrap of the zone's clock (04 R60). -/
def Zone.WrapsAt (x : Zone) (n : Nat) : Prop := 1 ≤ n ∧ (n - 1) * x.inc / 2 ^ 32 < n * x.inc / 2 ^ 32

theorem wrapped_of_counts (wrap : (s.zone z).WrapsAt n) (cycled : Cycled s old z)
    (room : (s.zone z).cycleCount < 4294967295) : s.wrapped old z n = { s.zone z with
      latestN := some n
      cycleCount := (s.zone z).cycleCount + 1
      counter := if (s.zone z).everyNth ≤ (s.zone z).counter + 1 then 0 else (s.zone z).counter + 1 } := by
  refine (if_pos ((isWrap_iff _ _).mpr wrap)).trans (if_pos ?_)
  rw [Bool.and_eq_true, decide_eq_true_eq]
  exact ⟨(Zone.any_member _ _).mpr cycled, room⟩

theorem wrapped_of_stays (h : ¬ (s.zone z).WrapsAt n ∨ ¬ Cycled s old z ∨ 4294967295 ≤ (s.zone z).cycleCount) :
    s.wrapped old z n = { s.zone z with latestN := some n } := by
  unfold State.wrapped
  split
  · rename_i wrap
    refine if_neg fun counts => ?_
    rw [Bool.and_eq_true, decide_eq_true_eq] at counts
    rcases h with h | h | h
    · exact h ((isWrap_iff _ _).mp wrap)
    · exact h ((Zone.any_member _ _).mp counts.1)
    · exact absurd counts.2 (Nat.not_lt.mpr h)
  · rfl

/-- The wrap work as one equation: a record that answers both of its cases is the one after it. -/
theorem wrapped_eq {y : Zone}
    (counts : (s.zone z).WrapsAt n → Cycled s old z → (s.zone z).cycleCount < 4294967295 → y = { s.zone z with
      latestN := some n
      cycleCount := (s.zone z).cycleCount + 1
      counter := if (s.zone z).everyNth ≤ (s.zone z).counter + 1 then 0 else (s.zone z).counter + 1 })
    (stays : ¬ (s.zone z).WrapsAt n ∨ ¬ Cycled s old z ∨ 4294967295 ≤ (s.zone z).cycleCount →
      y = { s.zone z with latestN := some n }) : s.wrapped old z n = y := by
  by_cases h : ¬ (s.zone z).WrapsAt n ∨ ¬ Cycled s old z ∨ 4294967295 ≤ (s.zone z).cycleCount
  · rw [wrapped_of_stays h, stays h]
  · simp only [not_or, not_not, Nat.not_le] at h
    obtain ⟨wrap, cycled, room⟩ := h
    rw [wrapped_of_counts wrap cycled room, counts wrap cycled room]

/-- What the wrap work leaves of the zone's record. -/
theorem wrapped_keeps : (s.wrapped old z n).inc = (s.zone z).inc ∧
    (s.wrapped old z n).capture = (s.zone z).capture ∧ (s.wrapped old z n).window = (s.zone z).window ∧
    (s.wrapped old z n).guardRun = (s.zone z).guardRun := by
  unfold State.wrapped Zone.wrapWork
  split
  · split <;> exact ⟨rfl, rfl, rfl, rfl⟩
  · exact ⟨rfl, rfl, rfl, rfl⟩

end Wrapped

/-! ### The window work (10 R182, R183) -/

theorem windowWork_reaches {e : AeRecord} (h : e.threshold ≤ (lastN e.ringLen (e.ring ++ [e.cycle])).sum) :
    e.windowWork = ({ e with ring := [], cycle := 0 }, true) := if_pos h

theorem windowWork_stays {e : AeRecord} (h : (lastN e.ringLen (e.ring ++ [e.cycle])).sum < e.threshold) :
    e.windowWork = ({ e with ring := lastN e.ringLen (e.ring ++ [e.cycle]), cycle := 0 }, false) :=
  if_neg (Nat.not_le.mpr h)

theorem strobeIndex_of_running {x : Zone} {hall : Nat} (running : x.clockRunning = true) (begun : x.origin ≤ hall) :
    x.strobeIndex hall = some ((hall - x.origin) / 500) :=
  if_pos (by rw [Bool.and_eq_true, decide_eq_true_eq]; exact ⟨running, begun⟩)

theorem strobeIndex_of_stopped {x : Zone} {hall : Nat} (stopped : x.clockRunning = false ∨ hall < x.origin) :
    x.strobeIndex hall = none := by
  refine if_neg fun running => ?_
  rw [Bool.and_eq_true, decide_eq_true_eq] at running
  rcases stopped with stopped | early
  · rw [running.1] at stopped; cases stopped
  · omega

/-- Settles O38: the clock's work by its wrap, its crossing and its guard; the window's by its sum. -/
theorem zoneClockAndWindowWork : Obligations.ZoneClockAndWindowWork := by
  refine ⟨fun s old z => ⟨fun stopped => clockWork_of_stopped (strobeIndex_of_stopped stopped),
    fun running begun y counts stays => ?_⟩, fun e => ⟨windowWork_reaches, windowWork_stays⟩⟩
  have index := strobeIndex_of_running running begun
  dsimp only at counts stays ⊢
  generalize (500 * s.tb.strobeNumber - (s.zone z).origin) / 500 = n at index counts stays ⊢
  have wrapped := wrapped_eq counts stays
  obtain ⟨inc, capture, window, guardRun⟩ := wrapped_keeps (s := s) (old := old) (z := z) (n := n)
  rw [wrapped] at inc capture window guardRun
  rw [clockWork_of_running index, wrapped, workOn_capture]
  refine ⟨fun peak cycling selected counter => ⟨Config.crossingAfterUpdate s.free z, ?_⟩,
    fun valley cycling selected counter => ⟨Config.crossingAfterUpdate s.free z, ?_⟩,
    captured_of_neither inc capture, fun unguarded => workOn_unguarded (window.trans unguarded),
    fun lo hi guarded => ⟨Config.guardAfterUpdate s.free z, ?_⟩⟩
  · refine (captured_of_crossing ((crossing_congr inc n).trans (crossing_of_peak peak)) cycling ?_ counter).trans ?_
    · rwa [capture, selects_peak]
    · rw [forceList_eq]; rfl
  · refine (captured_of_crossing ((crossing_congr inc n).trans (crossing_of_valley valley)) cycling ?_
      counter).trans ?_
    · rwa [capture, selects_valley]
    · rw [forceList_eq]; rfl
  · obtain ⟨zone, raised⟩ := workOn_guarded (s := s) (old := old) (z := z) (n := n) (window.trans guarded)
    rw [totalForce_eq] at zone raised
    rw [zone, raised, ← guardRun]
    refine ⟨fun within => ?_, fun outside few => ?_, fun outside enough => ?_⟩
    · have guard := guard_within (x := y) within
      exact ⟨congrArg Prod.fst guard, congrArg Prod.snd guard⟩
    · have guard := guard_counts (x := y) outside few
      exact ⟨congrArg Prod.fst guard, congrArg Prod.snd guard⟩
    · have guard := guard_raises (x := y) outside enough
      exact ⟨congrArg Prod.fst guard, congrArg Prod.snd guard⟩

end Sys2Proof.Machine
end
section
/-! The scan set, the bank ports, and what the scan arbiter starts (07 R126, R128, R131 to R133). -/

namespace Sys2Proof.Machine
open Host Statements

/-! ### The scan set (07 R126) -/

/-- A range names the gauges at its places, counted from its base and wrapping in the base's bank. -/
theorem ScanRange.names_iff (x : ScanRange) (g : GaugeId) : x.names g = true ↔
    ∃ i, i < x.count ∧ g.val = x.base.val / 64 * 64 + (x.base.val % 64 + i) % 64 := by
  unfold ScanRange.names
  rw [Bool.and_eq_true, decide_eq_true_eq, decide_eq_true_eq]
  constructor
  · rintro ⟨bank, place⟩
    exact ⟨_, place, by omega⟩
  · rintro ⟨i, place, gauge⟩
    omega

theorem mem_scanSet {l : List ScanRange} {g : GaugeId} : g ∈ scanSet l ↔
    ∃ x ∈ l, ∃ i, i < x.count ∧ g.val = x.base.val / 64 * 64 + (x.base.val % 64 + i) % 64 := by
  simp only [scanSet, List.mem_filter, List.mem_finRange, true_and, List.any_eq_true, ScanRange.names_iff]

theorem scanSet_ascending (l : List ScanRange) : (scanSet l).Pairwise (· < ·) :=
  (List.pairwise_lt_finRange 256).filter _

/-! ### Bank ports (07 R133) -/

/-- A port free for a conversion sends it at once. -/
theorem Bank.give_of_free {k : Bank} (outstanding : k.outstanding = none) (settled : k.settlingUntil = none)
    (c : Conversion) (now : Nat) :
    k.give c now = { k with outstanding := some c, timeoutAt := now + 5000 } := by
  simp [Bank.give, outstanding, settled]

/-- At any other port it waits. -/
theorem Bank.give_of_engaged {k : Bank} (h : k.outstanding ≠ none ∨ k.settlingUntil ≠ none)
    (c : Conversion) (now : Nat) : k.give c now = { k with waiting := k.waiting ++ [c] } := by
  rw [Bank.give, if_neg]
  simpa [imp_iff_not_or] using h

theorem Bank.sendWaiting_of_none {k : Bank} (h : k.waiting = [] ∨ k.outstanding ≠ none) (now : Nat) :
    k.sendWaiting now = k := by
  unfold Bank.sendWaiting
  split
  · rfl
  · rename_i c rest waits
    have busy : k.outstanding ≠ none := h.resolve_left (by rw [waits]; exact List.cons_ne_nil c rest)
    rw [if_neg (by simp [busy])]

theorem Bank.sendWaiting_of_cons {k : Bank} {c : Conversion} {rest : List Conversion}
    (waits : k.waiting = c :: rest) (outstanding : k.outstanding = none) (settled : k.settlingUntil = none)
    (now : Nat) : k.sendWaiting now =
      { k with outstanding := some c, waiting := rest, timeoutAt := now + 5000 } := by
  simp [Bank.sendWaiting, waits, outstanding, settled]

/-! ### The timers of the Scan Engine (07 R128, R133) -/

/-- FREE_SCAN_EXPIRY while a free request is pending or a free scan in flight: skipped and counted. -/
theorem exec_freeScanExpiry_skips {s t : State} (h : s.expire .freeScan = some t)
    (skips : t.se.freeRequest = true ∨ ∃ x, t.se.scan = some x ∧ x.kind = .free) :
    exec .freeScanExpiry s = .next { t with se := { t.se with
      expiryAt := t.se.expiryAt + 1000 * t.se.interval, skipped := min (t.se.skipped + 1) 4294967295 } } := by
  refine congrArg Outcome.next ((atExpiry_some s t _ _ h).trans (if_pos ?_))
  rw [Bool.or_eq_true]
  refine skips.imp id ?_
  rintro ⟨x, scan, free⟩
  rw [scan]
  exact decide_eq_true free

/-- Otherwise a free request becomes pending and the scan arbiter is consulted. -/
theorem exec_freeScanExpiry_requests {s t : State} (h : s.expire .freeScan = some t)
    (pending : t.se.freeRequest = false) (flight : ∀ x, t.se.scan = some x → x.kind ≠ .free) :
    exec .freeScanExpiry s = .next (arbitrate (State.consult { t with se := { t.se with
      expiryAt := t.se.expiryAt + 1000 * t.se.interval, freeRequest := true } })) := by
  refine congrArg Outcome.next ((atExpiry_some s t _ _ h).trans (if_neg ?_))
  rw [Bool.or_eq_true, pending]
  rintro (p | p)
  · cases p
  · dsimp only at p
    split at p
    · rename_i x scan
      exact flight x scan (of_decide_eq_true p)
    · cases p

theorem exec_bankSettlingEnd {s t : State} {b : BankId} (h : s.expire (.settling b) = some t) :
    exec (.bankSettlingEnd b) s = .next (t.setBank b
      ({ t.se.banks[b] with settlingUntil := none }.sendWaiting t.osc)) :=
  congrArg Outcome.next (atExpiry_some s t _ _ h)

/-- Settles O44: the expiry by what is pending or in flight, the end of settling by what waits. -/
theorem scanTimersRule : Obligations.ScanTimersRule := by
  intro s t
  refine ⟨fun h => ⟨exec_freeScanExpiry_skips h, exec_freeScanExpiry_requests h⟩, fun b h =>
    ⟨fun stays => ?_, fun c rest waits free => ?_⟩⟩
  · rw [exec_bankSettlingEnd h, Bank.sendWaiting_of_none (by exact stays)]
  · rw [exec_bankSettlingEnd h, Bank.sendWaiting_of_cons (by exact waits) (by exact free) rfl]

/-! ### The arbiter's choice (07 R131) -/

/-- The request in zone `z`'s slot has the earliest crossing, and `z` is the lowest zone among equals. -/
def ScanEngine.Earliest (e : ScanEngine) (z : ZoneId) (p : PhaseRequest) : Prop :=
  e.slots[z] = some p ∧ ∀ (y : ZoneId) (q : PhaseRequest), e.slots[y] = some q →
    p.crossing < q.crossing ∨ (p.crossing = q.crossing ∧ z ≤ y)

/-- Nothing that comes after it displaces the earliest request. -/
theorem earlierSlot_earliest {e : ScanEngine} {z : ZoneId} {p : PhaseRequest} (h : e.Earliest z p)
    (y : ZoneId) : e.earlierSlot (some (z, p)) y = some (z, p) := by
  unfold ScanEngine.earlierSlot
  cases slot : e.slots[y] with
  | none => rfl
  | some q =>
    have := h.2 y q slot
    exact if_neg (by dsimp only; omega)

/-- The earliest request displaces any later one that the lower zones have put forward. -/
theorem foldl_earlierSlot {e : ScanEngine} {z : ZoneId} {p : PhaseRequest} (h : e.Earliest z p) :
    ∀ (l : List ZoneId) (best : Option (ZoneId × PhaseRequest)), l.Pairwise (· < ·) → z ∈ l →
      (∀ x, best = some x → p.crossing < x.2.crossing) → l.foldl e.earlierSlot best = some (z, p) := by
  intro l
  induction l with
  | nil => intro best _ mem; cases mem
  | cons y l ih =>
    intro best ascending mem later
    obtain ⟨below, ascending⟩ := List.pairwise_cons.mp ascending
    rw [List.foldl_cons]
    rcases List.mem_cons.mp mem with rfl | mem
    · have reached : e.earlierSlot best z = some (z, p) := by
        unfold ScanEngine.earlierSlot
        rw [h.1]
        cases best with
        | none => rfl
        | some x => exact if_pos (later x rfl)
      rw [reached]
      exact foldl_keeps (· = some (z, p)) _ (fun a w ha => ha ▸ earlierSlot_earliest h w) l _ rfl
    · refine ih _ ascending mem fun x found => ?_
      have lower := below z mem
      unfold ScanEngine.earlierSlot at found
      split at found
      · exact later x found
      · rename_i q slot
        cases found
        exact (h.2 y _ slot).resolve_right fun equal => absurd equal.2 (not_le.mpr lower)
      · rename_i q b slot
        split at found
        · cases found
          exact (h.2 y _ slot).resolve_right fun equal => absurd equal.2 (not_le.mpr lower)
        · exact later x found

theorem firstSlot_earliest {e : ScanEngine} {z : ZoneId} {p : PhaseRequest} (h : e.Earliest z p) :
    e.firstSlot = some (z, p) :=
  foldl_earlierSlot h _ none (List.pairwise_lt_finRange 4) (List.mem_finRange z)
    (fun x found => by cases found)

theorem firstSlot_none {e : ScanEngine} (h : ∀ z : ZoneId, e.slots[z] = none) : e.firstSlot = none := by
  cases first : e.firstSlot with
  | none => rfl
  | some x =>
    have slot := firstSlot_mem e x first
    rw [h x.1] at slot
    cases slot

/-- What the arbiter chooses: a phase-locked request before ZERO, and ZERO before FREE. -/
inductive ScanEngine.Chooses (e : ScanEngine) : ScanKind → Option (ZoneId × PhaseRequest) → Prop
  | phase {z : ZoneId} {p : PhaseRequest} (first : e.Earliest z p) :
      e.Chooses (if p.peak then .peak else .valley) (some (z, p))
  | zero (slots : ∀ z : ZoneId, e.slots[z] = none) (zero : e.zeroRequest = true) : e.Chooses .zero none
  | free (slots : ∀ z : ZoneId, e.slots[z] = none) (zero : e.zeroRequest = false)
      (free : e.freeRequest = true) : e.Chooses .free none

theorem ScanEngine.Chooses.choice {e : ScanEngine} {kind : ScanKind} {place : Option (ZoneId × PhaseRequest)}
    (h : e.Chooses kind place) : e.choice = some (kind, place) := by
  unfold ScanEngine.choice
  cases h with
  | phase first => rw [firstSlot_earliest first]
  | zero slots zero => simp only [firstSlot_none slots, zero, if_true]
  | free slots zero free => simp [firstSlot_none slots, zero, free]

/-- The arbiter chooses nothing when nothing waits. -/
theorem choice_none {e : ScanEngine} (slots : ∀ z : ZoneId, e.slots[z] = none) (zero : e.zeroRequest = false)
    (free : e.freeRequest = false) : e.choice = none := by
  simp [ScanEngine.choice, firstSlot_none slots, zero, free]

/-- The slot that the chosen request leaves. -/
theorem ScanEngine.Chooses.leave_slot {e : ScanEngine} {kind : ScanKind}
    {place : Option (ZoneId × PhaseRequest)} (h : e.Chooses kind place) (y : ZoneId) :
    (e.leave kind place).slots[y] = if place.map Prod.fst = some y then none else e.slots[y] := by
  cases h with
  | @phase z p first =>
    simp [ScanEngine.leave, Vector.getElem_set, Fin.ext_iff]
  | zero => rfl
  | free => rfl

/-- The place that the chosen ZERO or FREE request leaves. -/
theorem ScanEngine.Chooses.leave_requests {e : ScanEngine} {kind : ScanKind}
    {place : Option (ZoneId × PhaseRequest)} (h : e.Chooses kind place) :
    (e.leave kind place).zeroRequest = (e.zeroRequest && kind != .zero) ∧
    (e.leave kind place).freeRequest = (e.freeRequest && kind != .free) := by
  cases h with
  | @phase z p first => cases hp : p.peak <;> simp [ScanEngine.leave]
  | zero => simp [ScanEngine.leave]
  | free slots zero => simp [ScanEngine.leave, zero]

/-! ### The arbiter, consulted (07 R131, R132) -/

theorem done_iff (x : Scan) : x.done = true ↔ ∀ b : BankId, x.awaiting[b] = false := by
  simp [Scan.done]

/-- The arbiter leaves the part as it stands when it has nothing to do. -/
theorem consult_quiet {s : State} (h : ScansQuiet s) : s.consult = s := by
  rcases h with ⟨x, scan, b, waits⟩ | ⟨scan, slots, zero, free⟩
  · exact consult_awaiting s x b scan waits
  · unfold State.consult State.runScans
    rw [scan]
    simp only [choice_none slots zero free]

/-- An ONLINE bank that holds a gauge of the scan set: a scan that starts awaits it (07 R132). -/
def State.Involves (s : State) (b : BankId) : Prop :=
  s.se.banks[b].online = true ∧ ∃ g ∈ scanSet s.se.scanList, g.val / 64 = b.val

theorem involves_iff (s : State) (b : BankId) :
    (s.se.banks[b].online && !(bankPart (scanSet s.se.scanList) b).isEmpty) = true ↔ s.Involves b := by
  have filled : (bankPart (scanSet s.se.scanList) b).isEmpty = false ↔
      ∃ g ∈ scanSet s.se.scanList, g.val / 64 = b.val := by
    rw [← Bool.not_eq_true, List.isEmpty_iff, bankPart, List.filter_eq_nil_iff]
    simp
  rw [Bool.and_eq_true, Bool.not_eq_true', filled]
  rfl

/-- A scan's data as it starts, with the banks it awaits (07 R132). -/
def State.newScan (s : State) (kind : ScanKind) (place : Option (ZoneId × PhaseRequest))
    (awaiting : Vector Bool 4) : Scan :=
  { kind, start := s.hall, gauges := scanSet s.se.scanList, phase := place.map Prod.snd
    lag := place.elim 0 fun x => min (s.hall - x.2.crossing) 4294967295
    awaiting, answers := Vector.replicate 4 none }

section Start
variable (s : State) (kind : ScanKind) (place : Option (ZoneId × PhaseRequest))

theorem leave_banks (e : ScanEngine) : (e.leave kind place).banks = e.banks := by
  unfold ScanEngine.leave
  split
  · rfl
  · split <;> rfl

theorem leave_scan (e : ScanEngine) : (e.leave kind place).scan = e.scan := by
  unfold ScanEngine.leave
  split
  · rfl
  · split <;> rfl

theorem startScan_scan : ∃ awaiting : Vector Bool 4,
    (s.startScan kind place).se.scan = some (s.newScan kind place awaiting) ∧
    ∀ b : BankId, awaiting[b] = true ↔ s.Involves b := by
  refine ⟨tabMap (fun b _ => s.se.banks[b].online && !(bankPart (scanSet s.se.scanList) b).isEmpty)
    s.se.banks, by cases place <;> rfl, fun b => ?_⟩
  rw [tabMap_get, involves_iff]

theorem startScan_bank_involved {b : BankId} (h : s.Involves b) : (s.startScan kind place).se.banks[b] =
    s.se.banks[b].give (.scan (bankPart (scanSet s.se.scanList) b)) s.osc := by
  refine (tabMap_get _ _ b).trans ((if_pos ((involves_iff s b).mpr h)).trans ?_)
  rw [leave_banks]

theorem startScan_bank_other {b : BankId} (h : ¬ s.Involves b) :
    (s.startScan kind place).se.banks[b] = s.se.banks[b] := by
  refine (tabMap_get _ _ b).trans ((if_neg (mt (involves_iff s b).mp h)).trans ?_)
  rw [leave_banks]

end Start

/-- A scan that awaits a bank starts, and the arbiter stops there. -/
theorem consult_starts {s : State} {kind : ScanKind} {place : Option (ZoneId × PhaseRequest)}
    (idle : s.se.scan = none) (chosen : s.se.Chooses kind place) (awaited : ∃ b, s.Involves b) :
    s.consult = s.startScan kind place := by
  obtain ⟨b, awaited⟩ := awaited
  obtain ⟨awaiting, scan, involved⟩ := startScan_scan s kind place
  rw [consult_start s kind place idle chosen.choice]
  exact consult_awaiting _ _ b scan ((involved b).mpr awaited)

/-- Settles O41: the choice, then the scan that starts, the place its request leaves and the ports. -/
theorem scanArbiterRule : Obligations.ScanArbiterRule := by
  intro s first involved
  refine ⟨consult_quiet, fun idle kind phase chosen awaited => ?_⟩
  obtain ⟨place, chooses, rfl, zone⟩ : ∃ place, s.se.Chooses kind place ∧ phase = place.map Prod.snd ∧
      (phase.map PhaseRequest.zone = place.map Prod.fst) := by
    rcases chosen with ⟨z, p, slot, zone, rfl, rfl, earliest⟩ | ⟨slots, rfl, ⟨zero, rfl⟩ | ⟨zero, free, rfl⟩⟩
    · exact ⟨some (z, p), .phase ⟨slot, earliest⟩, rfl, congrArg some zone⟩
    · exact ⟨none, .zero slots zero, rfl, rfl⟩
    · exact ⟨none, .free slots zero free, rfl, rfl⟩
  obtain ⟨awaiting, scan, involves⟩ := startScan_scan s kind place
  obtain ⟨zero, free⟩ := chooses.leave_requests
  rw [consult_starts idle chooses awaited]
  refine ⟨s.newScan kind place awaiting, by rw [← scan]; rfl, rfl, rfl, rfl, rfl, fun p phased => ?_,
    fun b => ⟨involves b, by simp [State.newScan]⟩, fun z => ?_, zero, free,
    fun b => startScan_bank_other s kind place, fun b awaits => ?_⟩
  · obtain ⟨x, rfl, rfl⟩ := Option.map_eq_some_iff.mp phased
    rfl
  · rw [zone]
    exact chooses.leave_slot z
  · have given := startScan_bank_involved s kind place awaits
    exact ⟨fun ⟨free, settled⟩ => given.trans (Bank.give_of_free free settled _ _),
      fun engaged => given.trans (Bank.give_of_engaged engaged _ _)⟩

end Sys2Proof.Machine
end
section
/-! A conversion that ends at a bank port: the answer, the timeout, and what they leave (07 R133 to R138). -/

namespace Sys2Proof.Machine
open Host Statements

/-! ### Deferred replies (01 R12) -/

theorem deferredReply_eq (s : State) (tag : Option Byte) (kind : Byte) (w : Wire) :
    s.deferredReply tag kind w = deferredReplied s tag kind w := by
  cases tag <;> rfl

/-- A deferred reply neither reads nor changes the Scan Engine. -/
theorem deferredReplied_se (s : State) (e : ScanEngine) (tag : Option Byte) (kind : Byte) (w : Wire) :
    deferredReplied { s with se := e } tag kind w = { deferredReplied s tag kind w with se := e } := by
  cases tag <;> rfl

@[simp] theorem deferredReplied_se_eq (s : State) (tag : Option Byte) (kind : Byte) (w : Wire) :
    (deferredReplied s tag kind w).se = s.se := by
  cases tag <;> rfl

@[simp] theorem deferredReplied_osc (s : State) (tag : Option Byte) (kind : Byte) (w : Wire) :
    (deferredReplied s tag kind w).osc = s.osc := by
  cases tag <;> rfl

/-! ### The part after a conversion -/

/-- The part with bank `b`'s port, the scan in flight and the BANK RESET in flight as given: what the end of
a conversion changes besides a deferred reply. -/
def State.portEnded (s : State) (b : BankId) (k : Bank) (scan : Option Scan) (op : Option BankResetOp) :
    State :=
  { s with se := { s.se with scan, bankReset := op, banks := s.se.banks.set b k } }

@[simp] theorem portEnded_bank (s : State) (b : BankId) (k : Bank) (scan : Option Scan)
    (op : Option BankResetOp) : (s.portEnded b k scan op).se.banks[b] = k := by
  simp [State.portEnded]

theorem setBank_eq_portEnded (s : State) (b : BankId) (k : Bank) :
    s.setBank b k = s.portEnded b k s.se.scan s.se.bankReset := rfl

theorem scanAnswer_eq (s : State) (b : BankId) (v : Option (List Int)) : s.scanAnswer b v =
    { s with se := { s.se with scan := s.se.scan.map fun x => answeredBy x b v } } := by
  unfold State.scanAnswer
  cases h : s.se.scan with
  | none => simp only [Option.map_none]; rw [← h]
  | some x => rfl

/-- A port with nothing outstanding. -/
def Bank.ended (k : Bank) : Bank := { k with outstanding := none }

/-- A settled port that has ended a conversion sends the next one. -/
theorem Bank.ended_sendWaiting {k : Bank} (settled : k.settlingUntil = none) (now : Nat) :
    k.ended.sendWaiting now = sentNext k now := by
  unfold sentNext
  split
  · exact Bank.sendWaiting_of_none (k := k.ended) (Or.inl ‹_›) now
  · exact Bank.sendWaiting_of_cons (k := k.ended) ‹_› rfl settled now

@[simp] theorem sentNext_online (k : Bank) (now : Nat) : (sentNext k now).online = k.online := by
  unfold sentNext
  cases k.waiting <;> rfl

@[simp] theorem sentNext_consecutive (k : Bank) (now : Nat) :
    (sentNext k now).consecutive = k.consecutive := by
  unfold sentNext
  cases k.waiting <;> rfl

/-- A scan's part ends: the bank has answered, the conversion that waits is sent, the arbiter consulted. -/
theorem conversionEnd_scan (s : State) (b : BankId) {k : Bank} (x : Scan) (op : Option BankResetOp)
    (settled : k.settlingUntil = none) (gs : List GaugeId) (v : Option (List Int)) :
    (s.portEnded b k.ended (some x) op).conversionEnd b (.scan gs) v =
      (s.portEnded b (sentNext k s.osc) (some (answeredBy x b v)) op).consult := by
  rw [← Bank.ended_sendWaiting settled]
  show (((s.portEnded b k.ended (some x) op).scanAnswer b v).setBank b _).consult = _
  rw [scanAnswer_eq]
  simp [State.portEnded, State.setBank]

/-- A test ends: BANK RESET has its deferred reply, the conversion that waits is sent, the arbiter
consulted. -/
theorem conversionEnd_test (s : State) (b : BankId) {k : Bank} (scan : Option Scan) (op : BankResetOp)
    (settled : k.settlingUntil = none) (g : GaugeId) (v : Option (List Int)) :
    (s.portEnded b k.ended scan (some op)).conversionEnd b (.test g) v =
      (deferredReplied (s.portEnded b (sentNext k s.osc) scan none) op.tag 0x46
        (encN 1 b ++ encFlag (v.bind List.head?).isNone ++
          encBare 4 ((v.bind List.head?).map fun v => encI 4 (limitRaw v)) ++ encFlag (!k.online) ++
          encN 1 k.consecutive)).consult := by
  rw [← Bank.ended_sendWaiting settled]
  show (((s.portEnded b k.ended scan (some op)).testEnd b (v.bind List.head?)).setBank b _).consult = _
  simp only [State.testEnd, State.portEnded, deferredReply_eq, State.setBank, deferredReplied_se]
  simp [Bank.ended]

/-! ### BANK_ANSWER (07 R134) -/

section Answer
variable {s : State} {b : BankId} {values : List Int}

/-- An answer that ends no conversion is stray. -/
theorem exec_bankAnswer_stray (h : s.se.banks[b].settlingUntil ≠ none ∨ s.se.banks[b].outstanding = none ∨
      (∃ gs, s.se.banks[b].outstanding = some (.scan gs) ∧ values.length ≠ gs.length) ∨
      (∃ g, s.se.banks[b].outstanding = some (.test g) ∧ values.length ≠ 1)) :
    exec (.bankAnswer b values) s = .next (arbitrate (s.setBank b
      { s.se.banks[b] with strays := min (s.se.banks[b].strays + 1) 65535 })) := by
  show execBankAnswer b values s = _
  unfold execBankAnswer
  dsimp only
  split
  · rfl
  · rename_i settled
    rcases h with h | h | ⟨gs, h, count⟩ | ⟨g, h, count⟩
    · exact absurd (Option.isSome_iff_ne_none.mpr h) settled
    · rw [h]; rfl
    · rw [h]; exact if_neg count
    · rw [h]; exact if_neg count

/-- The port after an answer: its run of timeouts is over (07 R134). -/
def Bank.answered (k : Bank) : Bank := { k with consecutive := 0 }

/-- Any other ends the outstanding conversion. -/
theorem exec_bankAnswer_ends {c : Conversion} (settled : s.se.banks[b].settlingUntil = none)
    (outstanding : s.se.banks[b].outstanding = some c) (count : values.length = c.gauges.length) :
    exec (.bankAnswer b values) s = .next (arbitrate ((s.portEnded b s.se.banks[b].answered.ended s.se.scan
      s.se.bankReset).conversionEnd b c (some values))) := by
  show execBankAnswer b values s = _
  unfold execBankAnswer
  dsimp only
  split
  · rename_i settling
    rw [settled] at settling
    cases settling
  · split
    · rename_i idle
      cases outstanding.symm.trans idle
    · rename_i given
      cases outstanding.symm.trans given
      exact if_pos count

theorem exec_bankAnswer_scan {gs : List GaugeId} {x : Scan} (settled : s.se.banks[b].settlingUntil = none)
    (outstanding : s.se.banks[b].outstanding = some (.scan gs)) (count : values.length = gs.length)
    (scan : s.se.scan = some x) : exec (.bankAnswer b values) s = .next (arbitrate
      (s.portEnded b (sentNext s.se.banks[b].answered s.osc) (some (answeredBy x b (some values)))
        s.se.bankReset).consult) := by
  rw [exec_bankAnswer_ends settled outstanding count, scan, conversionEnd_scan s b x _ (by exact settled)]

theorem exec_bankAnswer_test {v : Int} {g : GaugeId} {op : BankResetOp}
    (settled : s.se.banks[b].settlingUntil = none) (outstanding : s.se.banks[b].outstanding = some (.test g))
    (reset : s.se.bankReset = some op) : exec (.bankAnswer b [v]) s = .next (arbitrate
      (deferredReplied (s.portEnded b (sentNext s.se.banks[b].answered s.osc) s.se.scan none)
        op.tag 0x46 (encN 1 b ++ encFlag false ++ encI 4 (min (max v (-8388607)) 8388607) ++
          encFlag (!s.se.banks[b].online) ++ encN 1 0)).consult) := by
  rw [exec_bankAnswer_ends settled outstanding rfl, reset, conversionEnd_test s b _ op (by exact settled)]
  rfl

end Answer

/-! ### BANK_TIMEOUT (07 R135) -/

/-- The port as a timeout leaves it before the next conversion is sent (07 R135). -/
def Bank.counted (k : Bank) : Bank :=
  let online : Bool := k.online && decide (k.consecutive + 1 < 3)
  { k with
    consecutive := min (k.consecutive + 1) 3
    timeouts := min (k.timeouts + 1) 4294967295
    online
    waiting := if online then k.waiting else k.waiting.filter Conversion.isTest }

theorem portTimedOut_eq (k : Bank) (now : Nat) : portTimedOut k now = sentNext k.counted now := rfl

theorem Bank.timedOut_eq (k : Bank) : k.timedOut = { k.counted.ended with waiting := k.waiting } := by
  simp only [Bank.timedOut, Bank.counted, Bank.ended, bump, Config.max32]
  congr 2
  exact decide_eq_decide.mpr (by omega)

/-- A scan part waits at a port that a timeout takes OFFLINE: it is not sent. -/
def Bank.ShutOut (k : Bank) : Prop := k.counted.online = false ∧ ∃ gs, .scan gs ∈ k.waiting

theorem all_isTest_iff (l : List Conversion) : l.all Conversion.isTest = true ↔ ¬ ∃ gs, .scan gs ∈ l := by
  rw [List.all_eq_true]
  constructor
  · rintro tests ⟨gs, mem⟩
    cases tests _ mem
  · intro unlisted c mem
    cases c with
    | scan gs => exact absurd ⟨gs, mem⟩ unlisted
    | test g => rfl

theorem not_shutOut_iff (k : Bank) :
    ¬ k.ShutOut ↔ (k.counted.online || k.waiting.all Conversion.isTest) = true := by
  rw [Bank.ShutOut, not_and_or, Bool.not_eq_false, Bool.or_eq_true, all_isTest_iff]

/-- What a timeout leaves of the port and of the scan in flight. -/
theorem dropWaitingScan_timedOut (s : State) (b : BankId) {scan : Option Scan}
    (shut : s.se.banks[b].ShutOut → scan = s.se.scan.map fun x => answeredBy x b none)
    (sends : ¬ s.se.banks[b].ShutOut → scan = s.se.scan) :
    (s.setBank b s.se.banks[b].timedOut).dropWaitingScan b =
      s.portEnded b s.se.banks[b].counted.ended scan s.se.bankReset := by
  generalize bank : s.se.banks[b] = k at *
  have port : (s.setBank b k.timedOut).se.banks[b] = { k.counted.ended with waiting := k.waiting } := by
    rw [setBank_eq_portEnded, portEnded_bank, Bank.timedOut_eq]
  unfold State.dropWaitingScan
  rw [port]
  by_cases h : k.ShutOut
  · have offline : k.counted.waiting = k.waiting.filter Conversion.isTest :=
      if_neg (by exact ne_true_of_eq_false h.1)
    refine (if_neg (mt (not_shutOut_iff k).mpr (not_not.mpr h))).trans ?_
    rw [shut h, scanAnswer_eq]
    simp [State.portEnded, State.setBank, Bank.ended, offline]
  · have kept : k.counted.waiting = k.waiting := by
      rcases Bool.or_eq_true_iff.mp ((not_shutOut_iff k).mp h) with online | tests
      · exact if_pos online
      · exact ite_eq_left_iff.mpr fun _ => List.filter_eq_self.mpr (List.all_eq_true.mp tests)
    refine (if_pos ((not_shutOut_iff k).mp h)).trans ?_
    rw [sends h, setBank_eq_portEnded, Bank.timedOut_eq, ← kept]
    rfl

theorem answeredBy_answeredBy (x : Scan) (b : BankId) (v w : Option (List Int)) :
    answeredBy (answeredBy x b v) b w = answeredBy x b w := by
  simp [answeredBy]

section Timeout
variable {s u : State} {b : BankId} (expired : s.expire (.bank b) = some u)
include expired

/-- The timeout ends the outstanding conversion. -/
theorem exec_bankTimeout_ends {c : Conversion} (outstanding : s.se.banks[b].outstanding = some c)
    {scan : Option Scan}
    (shut : s.se.banks[b].ShutOut → scan = s.se.scan.map fun x => answeredBy x b none)
    (sends : ¬ s.se.banks[b].ShutOut → scan = s.se.scan) :
    exec (.bankTimeout b) s = .next (arbitrate ((u.portEnded b s.se.banks[b].counted.ended scan
      s.se.bankReset).conversionEnd b c none)) := by
  refine congrArg Outcome.next ((atExpiry_some s u _ _ expired).trans ?_)
  obtain ⟨m, -, -, rfl⟩ := expire_eq s u _ expired
  split
  · rename_i idle
    cases outstanding.symm.trans idle
  · rename_i given
    cases outstanding.symm.trans given
    rw [← dropWaitingScan_timedOut { s with osc := max s.osc m } b shut sends]

variable (settled : s.se.banks[b].settlingUntil = none)
include settled

/-- A scan's part has NO DATA, whether or not a later part waits at the port. -/
theorem exec_bankTimeout_scan {gs : List GaugeId} {x : Scan}
    (outstanding : s.se.banks[b].outstanding = some (.scan gs)) (scan : s.se.scan = some x) :
    exec (.bankTimeout b) s = .next (arbitrate (u.portEnded b (portTimedOut s.se.banks[b] u.osc)
      (some (answeredBy x b none)) s.se.bankReset).consult) := by
  by_cases h : s.se.banks[b].ShutOut
  · rw [exec_bankTimeout_ends expired outstanding (scan := some (answeredBy x b none))
      (fun _ => by rw [scan]; rfl) (absurd h), conversionEnd_scan u b _ _ (by exact settled),
      answeredBy_answeredBy, portTimedOut_eq]
  · rw [exec_bankTimeout_ends expired outstanding (fun shut => absurd shut h) (fun _ => scan.symm),
      conversionEnd_scan u b _ _ (by exact settled), portTimedOut_eq]

theorem exec_bankTimeout_test {g : GaugeId} {op : BankResetOp}
    (outstanding : s.se.banks[b].outstanding = some (.test g)) (reset : s.se.bankReset = some op)
    {scan : Option Scan}
    (shut : s.se.banks[b].ShutOut → scan = s.se.scan.map fun x => answeredBy x b none)
    (sends : ¬ s.se.banks[b].ShutOut → scan = s.se.scan) :
    let k := portTimedOut s.se.banks[b] u.osc
    exec (.bankTimeout b) s = .next (arbitrate (deferredReplied (u.portEnded b k scan none) op.tag 0x46
      (encN 1 b ++ encFlag true ++ unstated 4 ++ encFlag (!k.online) ++ encN 1 k.consecutive)).consult) := by
  dsimp only
  rw [exec_bankTimeout_ends expired outstanding shut sends, reset,
    conversionEnd_test u b _ op (by exact settled), portTimedOut_eq, sentNext_online, sentNext_consecutive]
  rfl

end Timeout

/-! ### The rule -/

/-- A scan that awaits another bank goes on waiting. -/
theorem answeredBy_awaiting {x : Scan} {b c : BankId} (v : Option (List Int)) (other : c ≠ b)
    (waits : x.awaiting[c] = true) : (answeredBy x b v).awaiting[c] = true := by
  have : b.val ≠ c.val := fun e => other (Fin.ext e.symm)
  simpa [answeredBy, Vector.getElem_set, this] using waits

/-- What the arbiter finds to do does not depend on the ports. -/
theorem scansQuiet_of_se {s t : State} (h : ScansQuiet s)
    (se : t.se = { s.se with banks := t.se.banks, bankReset := t.se.bankReset }) : ScansQuiet t := by
  unfold ScansQuiet at *
  rw [se]
  exact h

/-- Settles O42: by the conversion that ends, and whether a scan part is shut out. -/
theorem bankPortRule : Obligations.BankPortRule := by
  intro s b k ended
  refine ⟨fun values => ⟨exec_bankAnswer_stray, fun gs x settled outstanding count scan => ⟨?_, ?_⟩⟩,
    fun v g op settled outstanding reset => ⟨?_, ?_⟩, fun u expired settled => ?_⟩
  · exact exec_bankAnswer_scan settled outstanding count scan
  · rintro ⟨c, other, waits⟩
    exact consult_awaiting _ _ c rfl (answeredBy_awaiting _ other waits)
  · exact exec_bankAnswer_test settled outstanding reset
  · intro quiet
    exact consult_quiet (scansQuiet_of_se quiet (by rw [deferredReplied_se_eq]))
  · have se : u.se = s.se := by
      obtain ⟨m, -, -, rfl⟩ := expire_eq s u _ expired
      rfl
    intro k' shut
    have shut_iff : shut ↔ k.ShutOut := by
      show k'.online = false ∧ _ ↔ _
      rw [show k'.online = k.counted.online from sentNext_online ..]
      rfl
    refine ⟨fun gs x outstanding scan => ⟨exec_bankTimeout_scan expired settled outstanding scan, ?_⟩,
      fun g op outstanding reset scan closed sends => ⟨exec_bankTimeout_test expired settled outstanding reset
        (closed ∘ shut_iff.mpr) (sends ∘ mt shut_iff.mp), ?_, ?_⟩⟩
    · rintro ⟨c, other, waits⟩
      exact consult_awaiting _ _ c rfl (answeredBy_awaiting _ other waits)
    · intro sending quiet
      refine consult_quiet (scansQuiet_of_se quiet ?_)
      simp only [deferredReplied_se_eq, ended, se, sends sending]
    · rintro x flight ⟨c, other, waits⟩
      by_cases h : shut
      · refine consult_awaiting _ (answeredBy x b none) c ?_ (answeredBy_awaiting _ other waits)
        simp only [deferredReplied_se_eq, ended, closed h, flight, Option.map_some]
      · refine consult_awaiting _ x c ?_ waits
        simp only [deferredReplied_se_eq, ended, sends h, flight]

end Sys2Proof.Machine
end
section
/-! Scans that complete: the result, the zero table, and where the arbiter completes a scan (07 R136,
08 R154). -/

namespace Sys2Proof.Machine
open Host Statements

/-! ### The result of a scan (07 R134, R136) -/

/-- One bank's part of the result. -/
def Scan.bankResults (x : Scan) (b : BankId) : List (GaugeId × Option Int) :=
  match x.answers[b] with
  | some vs => List.zipWith (fun g v => (g, some v)) (bankPart x.gauges b) vs
  | none => (bankPart x.gauges b).map fun g => (g, none)

theorem results_eq (x : Scan) : x.results = ((List.finRange 4).map x.bankResults).flatten := rfl

theorem mem_results_of_bank {x : Scan} {b : BankId} {y : GaugeId × Option Int} (h : y ∈ x.bankResults b) :
    y ∈ x.results :=
  List.mem_flatten.mpr ⟨_, List.mem_map.mpr ⟨b, List.mem_finRange b, rfl⟩, h⟩

theorem bankResults_none {x : Scan} {b : BankId} (h : x.answers[b] = none) :
    x.bankResults b = (bankPart x.gauges b).map fun g => (g, none) := by
  rw [Scan.bankResults, h]

theorem bankResults_some {x : Scan} {b : BankId} {vs : List Int} (h : x.answers[b] = some vs) :
    x.bankResults b = List.zipWith (fun g v => (g, some v)) (bankPart x.gauges b) vs := by
  rw [Scan.bankResults, h]

/-- A bank that gives a value for each of its gauges, or none at all, has all its gauges in the result. -/
theorem bankResults_gauges {x : Scan} {b : BankId}
    (h : ∀ vs, x.answers[b] = some vs → vs.length = (bankPart x.gauges b).length) :
    (x.bankResults b).map Prod.fst = bankPart x.gauges b := by
  cases answer : x.answers[b] with
  | none => rw [bankResults_none answer]; simp [Function.comp_def]
  | some vs =>
    have count := h vs answer
    rw [bankResults_some answer, List.map_zipWith]
    exact List.ext_getElem (by simp [count]) (by simp)

/-- Gauges in ascending order, put together bank by bank, are the same gauges. -/
theorem bankParts_flatten {gauges : List GaugeId} (ascending : gauges.Pairwise (· < ·)) :
    ((List.finRange 4).map (bankPart gauges)).flatten = gauges := by
  have mem : ∀ (b : BankId) (g : GaugeId), g ∈ bankPart gauges b ↔ g ∈ gauges ∧ g.val / 64 = b.val := by
    simp [bankPart]
  refine List.Pairwise.eq_of_mem_iff (r := (· < ·)) ?_ ascending fun g => ?_
  · rw [List.pairwise_flatten, List.pairwise_map]
    refine ⟨fun l part => ?_, (List.pairwise_lt_finRange 4).imp fun {b c} lower g gb h hc => ?_⟩
    · obtain ⟨b, -, rfl⟩ := List.mem_map.mp part
      exact ascending.filter _
    · have := ((mem b g).mp gb).2
      have := ((mem c h).mp hc).2
      exact Fin.lt_def.mpr (by omega)
  · simp only [List.mem_flatten, List.mem_map, List.mem_finRange, true_and, exists_exists_eq_and, mem]
    exact ⟨fun ⟨b, listed, _⟩ => listed, fun listed => ⟨⟨g.val / 64, by omega⟩, listed, rfl⟩⟩

theorem results_gauges {x : Scan} (ascending : x.gauges.Pairwise (· < ·))
    (h : ∀ (b : BankId) (vs : List Int), x.answers[b] = some vs → vs.length = (bankPart x.gauges b).length) :
    x.results.map Prod.fst = x.gauges := by
  rw [results_eq, List.map_flatten, List.map_map]
  refine Eq.trans (congrArg List.flatten (List.map_congr_left fun b _ => ?_)) (bankParts_flatten ascending)
  exact bankResults_gauges (h b)

/-! ### The zero table (08 R154) -/

theorem zeroOne_zeros (v : StrainConverter) (g h : GaugeId) (raw : Option Int) :
    (v.zeroOne (g, raw)).zeros[h] = if g = h then raw.elim v.zeros[h] limitRaw else v.zeros[h] := by
  cases raw <;> simp [StrainConverter.zeroOne, Vector.getElem_set, Fin.ext_iff]

/-- The zeros alone are written. -/
theorem foldl_zeroOne_only (l : List (GaugeId × Option Int)) (v : StrainConverter) :
    l.foldl StrainConverter.zeroOne v = { v with zeros := (l.foldl StrainConverter.zeroOne v).zeros } := by
  refine foldl_keeps (fun u : StrainConverter => u = { v with zeros := u.zeros }) _ (fun u y h => ?_) l v rfl
  unfold StrainConverter.zeroOne
  split
  · rw [h]
  · exact h

/-- A gauge with no raw value keeps its zero. -/
theorem foldl_zeroOne_kept {g : GaugeId} (l : List (GaugeId × Option Int)) (v : StrainConverter)
    (unread : ∀ raw, (g, some raw) ∉ l) : (l.foldl StrainConverter.zeroOne v).zeros[g] = v.zeros[g] := by
  induction l generalizing v with
  | nil => rfl
  | cons y l ih =>
    obtain ⟨h, raw⟩ := y
    rw [List.foldl_cons, ih _ fun raw listed => unread raw (List.mem_cons_of_mem _ listed), zeroOne_zeros]
    split
    · rename_i same
      cases raw with
      | none => rfl
      | some raw => exact absurd (same ▸ List.mem_cons_self) (unread raw)
    · rfl

/-- A gauge's zero becomes its raw value. -/
theorem foldl_zeroOne_written {g : GaugeId} {raw : Int} (l : List (GaugeId × Option Int))
    (v : StrainConverter) (once : (l.map Prod.fst).Nodup) (listed : (g, some raw) ∈ l) :
    (l.foldl StrainConverter.zeroOne v).zeros[g] = limitRaw raw := by
  induction l generalizing v with
  | nil => cases listed
  | cons y l ih =>
    obtain ⟨unlisted, once⟩ := List.nodup_cons.mp once
    rw [List.foldl_cons]
    rcases List.mem_cons.mp listed with rfl | listed
    · rw [foldl_zeroOne_kept l _ fun _ again => unlisted (List.mem_map.mpr ⟨_, again, rfl⟩), zeroOne_zeros]
      exact if_pos rfl
    · exact ih _ once listed

/-- The zero table after a ZERO scan (08 R154). -/
def State.zeroed (s : State) (x : Scan) : State :=
  { s with scv := { x.results.foldl StrainConverter.zeroOne s.scv with zeroOp := none } }

theorem atLimit_eq (v : Int) : atLimit v = (8388607 ≤ v || v ≤ -8388607) := by
  rw [Bool.eq_iff_iff]
  simp only [atLimit, Bool.or_eq_true, decide_eq_true_eq]
  simp only [limitRaw, clamp, Config.rawMax]
  omega

theorem zeroScan_of_none {s : State} (h : s.scv.zeroOp = none) (x : Scan) : s.zeroScan x = s.zeroed x := by
  unfold State.zeroScan
  rw [h]
  rfl

theorem zeroScan_of_some {s : State} {op : ZeroOp} (h : s.scv.zeroOp = some op) (x : Scan) :
    s.zeroScan x = deferredReplied (s.zeroed x) op.tag 0x45
      (encN 2 (x.results.filterMap Prod.snd).length ++
        encN 2 (x.results.length - (x.results.filterMap Prod.snd).length) ++
        encN 2 ((x.results.filterMap Prod.snd).countP fun v => 8388607 ≤ v || v ≤ -8388607)) := by
  unfold State.zeroScan
  rw [h, List.countP_eq_length_filter, ← funext atLimit_eq]
  exact deferredReply_eq ..

/-- A ZERO scan's end changes the zeros, the operation, and the link's reply queue with its counter. -/
theorem zeroScan_scv (s : State) (x : Scan) : (s.zeroScan x).scv = (s.zeroed x).scv := by
  cases h : s.scv.zeroOp with
  | none => rw [zeroScan_of_none h]
  | some op =>
    rw [zeroScan_of_some h]
    cases op.tag <;> rfl

theorem zeroScan_only (s : State) (x : Scan) : s.zeroScan x =
    { s with scv := (s.zeroScan x).scv, lp := (s.zeroScan x).lp, free := (s.zeroScan x).free } := by
  cases h : s.scv.zeroOp with
  | none => rw [zeroScan_of_none h]; rfl
  | some op =>
    rw [zeroScan_of_some h]
    cases op.tag <;> rfl

/-! ### Where a scan completes (07 R131, R136) -/

/-- A scan in flight that awaits no bank completes, and the arbiter goes on. -/
theorem consult_completes {s : State} {x : Scan} (flight : s.se.scan = some x)
    (answered : ∀ b : BankId, x.awaiting[b] = false) : s.consult = (s.finishScan x).consult :=
  consult_finish s x flight ((done_iff x).mpr answered)

theorem answeredBy_last {x : Scan} {b : BankId} (v : Option (List Int))
    (last : ∀ c, c ≠ b → x.awaiting[c] = false) (c : BankId) : (answeredBy x b v).awaiting[c] = false := by
  by_cases same : c = b
  · subst same
    simp [answeredBy]
  · have : b.val ≠ c.val := fun e => same (Fin.ext e.symm)
    simpa [answeredBy, Vector.getElem_set, this] using last c same

/-- A scan that involves no bank starts without touching a port. -/
theorem startScan_of_uninvolved {s : State} (uninvolved : ∀ b, ¬ s.Involves b) (kind : ScanKind)
    (place : Option (ZoneId × PhaseRequest)) : s.startScan kind place = { s with se :=
      { s.se.leave kind place with scan := some (s.newScan kind place (Vector.replicate 4 false)) } } := by
  have others : ∀ b : BankId, (s.startScan kind place).se.banks[b] = s.se.banks[b] := fun b =>
    startScan_bank_other s kind place (uninvolved b)
  obtain ⟨awaiting, scan, involved⟩ := startScan_scan s kind place
  have unawaited : awaiting = Vector.replicate 4 false := by
    refine Vector.ext fun i hi => ?_
    rw [Vector.getElem_replicate]
    exact Bool.eq_false_iff.mpr (mt (involved ⟨i, hi⟩).mp (uninvolved ⟨i, hi⟩))
  have ports : (s.startScan kind place).se.banks = (s.se.leave kind place).banks := by
    rw [leave_banks]
    exact Vector.ext fun i hi => others ⟨i, hi⟩
  have form : s.startScan kind place = { s with se := { s.se.leave kind place with
      scan := (s.startScan kind place).se.scan, banks := (s.startScan kind place).se.banks } } := rfl
  rw [form, scan, ports, unawaited]

theorem finishScan_of_idle {s : State} (idle : s.se.scan = none) (x : Scan) :
    s.finishScan x = if x.kind = .zero then s.zeroScan x else s.convertScan x := by
  unfold State.finishScan
  rw [← idle]

/-- The arbiter starts and completes a scan that involves no bank, and goes on (07 R131). -/
theorem consult_uninvolved {s : State} {kind : ScanKind} {place : Option (ZoneId × PhaseRequest)}
    (idle : s.se.scan = none) (chosen : s.se.Chooses kind place) (uninvolved : ∀ b, ¬ s.Involves b) :
    let t := { s with se := s.se.leave kind place }
    let x := s.newScan kind place (Vector.replicate 4 false)
    s.consult = (if x.kind = .zero then t.zeroScan x else t.convertScan x).consult := by
  have answered : ∀ b : BankId, (Vector.replicate 4 false)[b] = false := by simp
  have left : (s.se.leave kind place).scan = none := (leave_scan kind place s.se).trans idle
  dsimp only
  rw [consult_start s kind place idle chosen.choice, startScan_of_uninvolved uninvolved,
    consult_completes rfl answered, ← finishScan_of_idle left]
  rfl

/-! ### Phase-locked requests (07 R129) -/

/-- The part after a phase-locked request has entered its zone's slot, the one it replaces a miss. -/
def State.slotted (s : State) (p : PhaseRequest) : State :=
  let t := { s with se := { s.se with slots := s.se.slots.set p.zone (some p) } }
  if s.se.slots[p.zone].isNone then t else
    t.setZone p.zone { s.zone p.zone with missed := min ((s.zone p.zone).missed + 1) 65535 }

theorem phaseRequest_eq (s : State) (p : PhaseRequest) : s.phaseRequest p = (s.slotted p).consult := by
  unfold State.phaseRequest State.slotted
  cases s.se.slots[p.zone] <;> rfl

theorem slotted_scan (s : State) (p : PhaseRequest) : (s.slotted p).se.scan = s.se.scan := by
  unfold State.slotted
  dsimp only
  split <;> rfl

/-! ### The rule -/

/-- The zero table after a ZERO scan whose gauges each have one place in its result. -/
theorem zeroScan_rule (s : State) (x : Scan) (once : (x.results.map Prod.fst).Nodup) :
    s.zeroScan x = { s with
      scv := { s.scv with zeroOp := none, zeros := (s.zeroScan x).scv.zeros }
      lp := (s.zeroScan x).lp, free := (s.zeroScan x).free } ∧
    (∀ g v, (g, some v) ∈ x.results → (s.zeroScan x).scv.zeros[g] = min (max v (-8388607)) 8388607) ∧
    (∀ g : GaugeId, (∀ v, (g, some v) ∉ x.results) → (s.zeroScan x).scv.zeros[g] = s.scv.zeros[g]) := by
  have scv := zeroScan_scv s x
  refine ⟨?_, fun g v listed => ?_, fun g unread => ?_⟩
  · have written : (s.zeroed x).scv = { s.scv with zeroOp := none, zeros := (s.zeroed x).scv.zeros } :=
      congrArg (fun v : StrainConverter => { v with zeroOp := none }) (foldl_zeroOne_only x.results s.scv)
    rw [scv, ← written, ← scv]
    exact zeroScan_only s x
  · rw [scv]
    exact foldl_zeroOne_written x.results s.scv once listed
  · rw [scv]
    exact foldl_zeroOne_kept x.results s.scv unread

/-- Settles O43: where the last bank ends its part, at the arbiter, and at the start; then the result, the
zero table, and a phase-locked request. -/
theorem scanCompletionRule : Obligations.ScanCompletionRule := by
  refine ⟨fun s x => ⟨fun b gs values => ?_, consult_completes, fun idle others => ?_⟩,
    fun x l gauges => ⟨fun b answer g listed => ?_, fun b vs answer i g v place value => ?_,
      results_gauges (gauges ▸ scanSet_ascending l)⟩,
    fun s x once => ?_, fun s p => ⟨phaseRequest_eq s p, fun q flight ⟨b, waits⟩ => ?_⟩⟩
  · intro k ended flight outstanding settled last
    refine ⟨fun count => ?_, fun t expired => ?_⟩
    · rw [exec_bankAnswer_scan settled outstanding count flight,
        consult_completes rfl (answeredBy_last _ last)]
      rfl
    · rw [exec_bankTimeout_scan expired settled outstanding flight,
        consult_completes rfl (answeredBy_last _ last)]
      obtain ⟨m, -, -, rfl⟩ := expire_eq s t _ expired
      rfl
  · have uninvolved : ∀ b, ¬ s.Involves b := fun b ⟨online, g, listed, bank⟩ => others b online g listed bank
    exact ⟨fun z p slot first => consult_uninvolved idle (.phase ⟨slot, first⟩) uninvolved,
      fun slots zero => consult_uninvolved idle (.zero slots zero) uninvolved,
      fun slots zero free => consult_uninvolved idle (.free slots zero free) uninvolved⟩
  · refine mem_results_of_bank (b := b) ?_
    rw [bankResults_none answer]
    exact List.mem_map_of_mem listed
  · refine mem_results_of_bank (b := b) (List.mem_of_getElem? (i := i) ?_)
    rw [bankResults_some answer, List.getElem?_zipWith_eq_some]
    exact ⟨g, v, place, value, rfl⟩
  · obtain ⟨only, written, kept⟩ := zeroScan_rule s x once
    refine ⟨only, written, kept, fun idle => (congrArg State.lp (zeroScan_of_none idle x)).trans rfl,
      fun op zeroing => ?_⟩
    refine (congrArg State.lp (zeroScan_of_some zeroing x)).trans ?_
    cases op.tag <;> rfl
  · exact consult_awaiting _ q b ((slotted_scan s p).trans flight) waits

end Sys2Proof.Machine
end
section
/-! The Scan Engine's requests and ZERO GAUGES (07 R125 to R127, R137; 08 R153). -/

namespace Sys2Proof.Machine
open Host Statements

theorem exec_deferred {i : Instr} {k : Byte} {act : Request → State → Answer} {s t : State} {r : Request}
    (h : requestArm i = some (ofKind k, act)) (hr : AtHead s k r) (ha : act r s.dequeued = .deferred t) :
    exec i s = deferred s r t := by
  rw [exec_atHead h hr, ha]; rfl

/-! ### SET SCAN LIST (07 R125) -/

theorem readRange_eq_none {p : List Byte} {i : Nat} : readRange p i = none ↔
    field p (2 + 2 * i) 1 = 0 ∨ 64 < field p (2 + 2 * i) 1 := by
  have base : field p (1 + 2 * i) 1 < 256 := Nat.lt_succ_of_le (field_byte_le p _)
  unfold readRange
  dsimp only
  split
  · rename_i out
    simp only [Bool.or_eq_true, decide_eq_true_eq] at out
    exact ⟨fun _ => by omega, fun _ => rfl⟩
  · rename_i out
    simp only [Bool.or_eq_true, decide_eq_true_eq] at out
    simp only [Option.map_eq_none_iff, index?_eq_none]
    omega

theorem readRange_of_fields {p : List Byte} {i : Nat} {x : ScanRange}
    (base : x.base.val = field p (1 + 2 * i) 1) (count : x.count = field p (2 + 2 * i) 1) (low : 1 ≤ x.count)
    (high : x.count ≤ 64) : readRange p i = some x := by
  unfold readRange
  rw [← base, ← count, index?_eq_some.mpr rfl]
  exact if_neg (by simp only [Bool.or_eq_true, decide_eq_true_eq]; omega)

section ScanList
variable {s : State} {r : Request} (head : AtHead s 0x40 r)
include head

theorem exec_setScanList_malformed (length : r.payload.length ≠ 1 + 2 * field r.payload 0 1) :
    exec .setScanList s = refused s r .malformed :=
  exec_refused (i := .setScanList) rfl head (if_pos length)

variable (length : r.payload.length = 1 + 2 * field r.payload 0 1)
include length

/-- More than 16 ranges, or a count outside 1 to 64. -/
theorem exec_setScanList_range (h : 16 < field r.payload 0 1 ∨ ∃ i, i < field r.payload 0 1 ∧
      (field r.payload (2 + 2 * i) 1 = 0 ∨ 64 < field r.payload (2 + 2 * i) 1)) :
    exec .setScanList s = refused s r .range := by
  refine exec_refused (i := .setScanList) rfl head ?_
  unfold answerSetScanList
  rw [if_neg (not_not.mpr length)]
  split
  · rfl
  · rename_i few
    obtain ⟨i, place, out⟩ := h.resolve_left few
    cases read : readAll (readRange r.payload) (List.range (field r.payload 0 1)) with
    | none => rfl
    | some l =>
      have one := congrArg (fun l => l[i]?) (readAll_eq_some.mp read)
      simp [place, readRange_eq_none.mpr out] at one

theorem exec_setScanList_accepted {l : List ScanRange} (few : field r.payload 0 1 ≤ 16)
    (count : l.length = field r.payload 0 1)
    (ranges : ∀ (i : Nat) (x : ScanRange), l[i]? = some x → x.base.val = field r.payload (1 + 2 * i) 1 ∧
      x.count = field r.payload (2 + 2 * i) 1 ∧ 1 ≤ x.count ∧ x.count ≤ 64) :
    exec .setScanList s = accepted s r { s.dequeued with se := { s.dequeued.se with scanList := l } }
      (encN 2 (scanSet l).length ++ encN 1 s.se.scanList.length) := by
  have read : readAll (readRange r.payload) (List.range (field r.payload 0 1)) = some l := by
    refine readAll_eq_some.mpr (List.ext_getElem (by simp [count]) fun i _ place => ?_)
    obtain ⟨base, size, low, high⟩ := ranges i _ (List.getElem?_eq_getElem (by simpa using place))
    simpa using readRange_of_fields base size low high
  refine exec_accepted (i := .setScanList) rfl head ?_
  unfold answerSetScanList
  rw [if_neg (not_not.mpr length), if_neg (Nat.not_lt.mpr few), read]
  rfl

end ScanList

/-! ### SET SCAN INTERVAL (07 R127, 09 R162) -/

/-- The delay timer has run for the delay at the moment `now`. -/
def DelayTimer.Elapsed (t : DelayTimer) (delay now : Nat) : Prop :=
  ∃ since, t = .running since ∧ since + delay ≤ now

theorem DelayTimer.judge_of_elapsed {t : DelayTimer} {delay now : Nat} (h : t.Elapsed delay now) :
    t.judge delay now = .runOut := by
  obtain ⟨since, rfl, due⟩ := h
  exact if_pos due

theorem DelayTimer.judge_of_not_elapsed {t : DelayTimer} {delay now : Nat} (h : ¬ t.Elapsed delay now) :
    t.judge delay now = t := by
  cases t with
  | running since => exact if_neg fun due => h ⟨since, rfl, due⟩
  | stopped => rfl
  | runOut => rfl

section ScanInterval
variable {s : State} {r : Request} (head : AtHead s 0x41 r) (length : r.payload.length = 2)
include head length

theorem exec_setScanInterval_range (long : 1000 < field r.payload 0 2) :
    exec .setScanInterval s = refused s r .range := by
  refine exec_refused (i := .setScanInterval) rfl head ?_
  unfold answerSetScanInterval
  rw [if_neg (not_not.mpr length)]
  exact if_pos long

/-- The timer restarts or stops, and the delay timer is judged anew against the delay of the interval. -/
theorem exec_setScanInterval_accepted {n : Nat} (interval : field r.payload 0 2 = n) (short : n ≤ 1000)
    {timer : DelayTimer} (judged : s.sq.timer.judge (if n = 0 then 400000 else 4000 * n) s.osc = timer) :
    exec .setScanInterval s = accepted s r { s.dequeued with
      se := { s.se with
        interval := n, expiryAt := s.osc + 1000 * n, freeRequest := n ≠ 0 && s.se.freeRequest }
      sq := { s.dequeued.sq with timer } } (encN 2 s.se.interval) := by
  subst interval judged
  refine exec_accepted (i := .setScanInterval) rfl head ?_
  unfold answerSetScanInterval
  rw [if_neg (not_not.mpr length)]
  exact if_neg (Nat.not_lt.mpr short)

end ScanInterval

/-! ### BANK RESET (07 R137) -/

/-- The test's start reads and changes the Scan Engine, the reservation the Link Port. -/
theorem startTest_reserve (s : State) (r : Request) (b : BankId) (tag : Option Byte) :
    (s.reserve r).startTest b tag = { reserved s r with se := { s.se with
      bankReset := some ⟨b, tag⟩
      banks := s.se.banks.set b (({ s.se.banks[b] with online := true, consecutive := 0 } : Bank).give
        (.test (firstGauge b)) s.osc) } } := by
  unfold State.reserve reserved
  split <;> rfl

section BankReset
variable {s : State} {r : Request} {b : BankId} (head : AtHead s 0x46 r) (length : r.payload.length = 1)
  (named : field r.payload 0 1 = b.val)
include length named

theorem answerBankReset_named (s : State) : answerBankReset r s =
    if s.se.bankReset.isSome then .no .busy else .deferred ((s.reserve r).startTest b r.deferredTag) := by
  unfold answerBankReset
  rw [if_neg (not_not.mpr length), index?_eq_some.mpr named]

include head

theorem exec_bankReset_busy (busy : s.se.bankReset ≠ none) : exec .bankReset s = refused s r .busy := by
  refine exec_refused (i := .bankReset) rfl head ?_
  rw [answerBankReset_named length named]
  exact if_pos (Option.isSome_iff_ne_none.mpr busy)

/-- The operation starts: its port is given the test of the bank's first gauge. -/
theorem exec_bankReset_starts (idle : s.se.bankReset = none) {g : GaugeId} (first : g.val = b.val * 64)
    {k : Bank} (given : ({ s.se.banks[b] with online := true, consecutive := 0 } : Bank).give
      (.test g) s.osc = k) :
    exec .bankReset s = deferred s r { reserved s.dequeued r with se := { s.dequeued.se with
      bankReset := some ⟨b, keptTag r⟩, banks := s.dequeued.se.banks.set b k } } := by
  obtain rfl : g = firstGauge b := Fin.ext first
  subst given
  refine exec_deferred (i := .bankReset) rfl head ?_
  rw [answerBankReset_named length named]
  refine (if_neg (by simp [State.dequeued, idle])).trans ?_
  rw [startTest_reserve]
  rfl

end BankReset

/-! ### ZERO GAUGES (08 R153) -/

theorem startZero_reserve (s : State) (r : Request) (tag : Option Byte) : (s.reserve r).startZero tag =
    State.consult { reserved s r with
      scv := { s.scv with zeroOp := some ⟨tag⟩ }, se := { s.se with zeroRequest := true } } := by
  unfold State.reserve reserved
  split <;> rfl

section ZeroGauges
variable {s : State} {r : Request} (head : AtHead s 0x45 r) (empty : r.payload = [])
include head empty

theorem exec_zeroGauges_state (live : ∃ z, Busy s z) : exec .zeroGauges s = refused s r .state := by
  refine exec_refused (i := .zeroGauges) rfl head ?_
  unfold answerZeroGauges
  rw [if_neg (by simp [empty])]
  exact if_pos ((anyZone_busy_iff s).mpr live)

theorem exec_zeroGauges_busy (still : ∀ z, ¬ Busy s z) (busy : s.scv.zeroOp ≠ none) :
    exec .zeroGauges s = refused s r .busy := by
  refine exec_refused (i := .zeroGauges) rfl head ?_
  unfold answerZeroGauges
  rw [if_neg (by simp [empty])]
  refine (if_neg (mt (anyZone_busy_iff s).mp (not_exists.mpr still))).trans ?_
  exact if_pos (Option.isSome_iff_ne_none.mpr busy)

theorem exec_zeroGauges_starts (still : ∀ z, ¬ Busy s z) (idle : s.scv.zeroOp = none) :
    exec .zeroGauges s = deferred s r (State.consult { reserved s.dequeued r with
      scv := { s.dequeued.scv with zeroOp := some ⟨keptTag r⟩ }
      se := { s.dequeued.se with zeroRequest := true } }) := by
  refine exec_deferred (i := .zeroGauges) rfl head ?_
  unfold answerZeroGauges
  rw [if_neg (by simp [empty])]
  refine (if_neg (mt (anyZone_busy_iff s).mp (not_exists.mpr still))).trans ?_
  refine (if_neg (by simp [State.dequeued, idle])).trans ?_
  rw [startZero_reserve]
  rfl

end ZeroGauges

/-! ### The rule -/

/-- Settles O45: the scan set, then each request by its tests. -/
theorem scanRequests : Obligations.ScanRequests := by
  refine ⟨fun l => ⟨fun g => mem_scanSet, scanSet_ascending l⟩, fun s r => ⟨fun head => ?_,
    fun head length => ?_, fun head length b named => ?_, fun head empty => ?_⟩⟩
  · exact ⟨exec_setScanList_malformed head, exec_setScanList_range head,
      fun l length few count ranges => exec_setScanList_accepted head length few count ranges⟩
  · refine ⟨exec_setScanInterval_range head length, fun short elapsed => ?_, fun short running => ?_⟩
    · exact exec_setScanInterval_accepted head length rfl short (DelayTimer.judge_of_elapsed elapsed)
    · exact exec_setScanInterval_accepted head length rfl short (DelayTimer.judge_of_not_elapsed running)
  · intro k g first
    refine ⟨exec_bankReset_busy head length named, fun idle => ⟨fun ⟨free, settled⟩ => ?_, fun engaged => ?_⟩⟩
    · exact exec_bankReset_starts head length named idle first (Bank.give_of_free free settled _ _)
    · exact exec_bankReset_starts head length named idle first (Bank.give_of_engaged engaged _ _)
  · exact ⟨exec_zeroGauges_state head empty, exec_zeroGauges_busy head empty,
      exec_zeroGauges_starts head empty⟩

end Sys2Proof.Machine
end
section
/-! The profile of a gauge, and the requests of the Strain Converter: WRITE TEMPLATE, SET DEFAULT PROFILE,
VALIDATE TEMPLATES, READ GAUGES (08 R143 to R146, R156; 07 R140; 09 R173; 12 R205). -/

namespace Sys2Proof.Machine
open Host Statements

/-! ### The profile of a gauge (08 R143) -/

section Profiles
variable {v : StrainConverter} {g : GaugeId}

theorem accepts_iff {t : TemplateId} : v.templates[t].accepts g = true ↔ Matches v g t := by
  rw [Template.accepts, Bool.and_eq_true, decide_eq_true_eq]

theorem matching_eq_some {t : TemplateId} : v.matching g = some t ↔ Selects v g t := by
  rw [StrainConverter.matching, ← Fin.find?_eq_find?_finRange, Fin.find?_eq_some_iff, accepts_iff]
  exact and_congr_right fun _ => forall₂_congr fun u _ => by rw [← accepts_iff, Bool.not_eq_true]

theorem matching_eq_none : v.matching g = none ↔ ∀ t, ¬ Matches v g t := by
  rw [StrainConverter.matching, ← Fin.find?_eq_find?_finRange, Fin.find?_eq_none_iff]
  exact forall_congr' fun t => by rw [← accepts_iff, Bool.not_eq_true]

theorem chosen_of_invalid (h : v.tableValid = false) : v.chosen g = none := by
  rw [StrainConverter.chosen, h]
  rfl

theorem chosen_of_valid (h : v.tableValid = true) : v.chosen g = v.matching g := if_pos h

end Profiles

/-! ### A profile's five bytes (08 R144, R145) -/

theorem BridgeType.ofCode_code (b : BridgeType) : BridgeType.ofCode b.code = some b := by cases b <;> rfl

theorem BridgeType.ofCode_eq_none {v : Nat} (h : 3 < v) : BridgeType.ofCode v = none := by
  unfold BridgeType.ofCode
  split
  case h_5 => rfl
  all_goals omega

theorem BridgeType.exists_code {v : Nat} (h : v ≤ 3) : ∃ b : BridgeType, v = b.code := by
  rcases (by omega : v = 0 ∨ v = 1 ∨ v = 2 ∨ v = 3) with rfl | rfl | rfl | rfl
  exacts [⟨.quarter, rfl⟩, ⟨.half, rfl⟩, ⟨.full, rfl⟩, ⟨.off, rfl⟩]

/-- The bytes at `off` hold a profile. -/
def ProfileOk (p : List Byte) (off : Nat) : Prop := field p off 1 ≤ 3 ∧ 1000 ≤ field p (off + 1) 2 ∧
  field p (off + 1) 2 ≤ 5000 ∧ 16384 ≤ field p (off + 3) 2

section ReadProfile
variable {p : List Byte} {off : Nat}

theorem readProfile_of_code {b : BridgeType} (code : field p off 1 = b.code) : readProfile p off =
    if 1000 ≤ field p (off + 1) 2 && field p (off + 1) 2 ≤ 5000 && 16384 ≤ field p (off + 3) 2 then
      some ⟨b, field p (off + 1) 2, field p (off + 3) 2⟩
    else none := by
  rw [readProfile, code, BridgeType.ofCode_code]

theorem readProfile_of_ok (h : ProfileOk p off) {b : BridgeType} (code : field p off 1 = b.code) :
    readProfile p off = some ⟨b, field p (off + 1) 2, field p (off + 3) 2⟩ := by
  obtain ⟨-, low, high, cal⟩ := h
  rw [readProfile_of_code code]
  exact if_pos (by simp only [Bool.and_eq_true, decide_eq_true_eq]; exact ⟨⟨low, high⟩, cal⟩)

theorem readProfile_of_not (h : ¬ ProfileOk p off) : readProfile p off = none := by
  by_cases code : field p off 1 ≤ 3
  case neg => rw [readProfile, BridgeType.ofCode_eq_none (by omega)]
  obtain ⟨b, is⟩ := BridgeType.exists_code code
  rw [readProfile_of_code is]
  refine if_neg fun inside => h ?_
  simp only [Bool.and_eq_true, decide_eq_true_eq] at inside
  obtain ⟨⟨low, high⟩, cal⟩ := inside
  exact ⟨code, low, high, cal⟩

end ReadProfile

/-! ### WRITE TEMPLATE (08 R144) -/

/-- The fields of WRITE TEMPLATE are in their ranges. -/
def TemplateOk (p : List Byte) : Prop := field p 0 1 ≤ 7 ∧ field p 1 1 ≤ 1 ∧ ProfileOk p 4

section WriteTemplate
variable {s : State} {r : Request} (head : AtHead s 0x42 r) (length : r.payload.length = 9)
include length

theorem answerWriteTemplate_range (h : ¬ TemplateOk r.payload) (s : State) :
    answerWriteTemplate r s = .no .range := by
  unfold answerWriteTemplate
  rw [if_neg (not_not.mpr length)]
  split
  · rename_i n enabled profile number flag read
    refine absurd ⟨?_, ?_, ?_⟩ h
    · rw [index?_eq_some.mp number]; omega
    · rw [flag?_eq_some.mp flag]; exact enabled.toNat_le
    · by_contra out
      rw [readProfile_of_not out] at read
      cases read
  · rfl

theorem answerWriteTemplate_read (h : TemplateOk r.payload) {n : TemplateId} {bridge : BridgeType}
    (number : field r.payload 0 1 = n.val) (code : field r.payload 4 1 = bridge.code) (s : State) :
    answerWriteTemplate r s = if s.anyZone ZoneState.busy then .no .protect else .accepted
      { s with scv := { s.scv with
        tableValid := false
        templates := s.scv.templates.set n ⟨field r.payload 1 1 = 1, byteAt r.payload 2, byteAt r.payload 3,
          ⟨bridge, field r.payload 5 2, field r.payload 7 2⟩⟩ } }
      (s.scv.templates[n].enc ++ encFlag s.scv.tableValid) := by
  obtain ⟨-, flag, profile⟩ := h
  have enabled : flag? (field r.payload 1 1) = some (decide (field r.payload 1 1 = 1)) := by
    rcases (by omega : field r.payload 1 1 = 0 ∨ field r.payload 1 1 = 1) with is | is <;> rw [is] <;> rfl
  unfold answerWriteTemplate
  rw [if_neg (not_not.mpr length), index?_eq_some.mpr number, enabled, readProfile_of_ok profile code]

include head

theorem exec_writeTemplate_range (h : ¬ TemplateOk r.payload) : exec .writeTemplate s = refused s r .range :=
  exec_refused (i := .writeTemplate) rfl head (answerWriteTemplate_range length h _)

theorem exec_writeTemplate_protect (h : TemplateOk r.payload) (live : ∃ z, Busy s z) :
    exec .writeTemplate s = refused s r .protect := by
  obtain ⟨number, -, code, -⟩ := id h
  obtain ⟨bridge, is⟩ := BridgeType.exists_code code
  refine exec_refused (i := .writeTemplate) rfl head ?_
  rw [answerWriteTemplate_read length h (n := ⟨_, Nat.lt_succ_of_le number⟩) rfl is]
  exact if_pos ((anyZone_busy_iff s).mpr live)

theorem exec_writeTemplate_accepted (h : TemplateOk r.payload) (still : ∀ z, ¬ Busy s z) {n : TemplateId}
    {bridge : BridgeType} (number : field r.payload 0 1 = n.val) (code : field r.payload 4 1 = bridge.code) :
    exec .writeTemplate s = accepted s r
      { s.dequeued with scv := { s.dequeued.scv with
        tableValid := false
        templates := s.dequeued.scv.templates.set n ⟨field r.payload 1 1 = 1, byteAt r.payload 2,
          byteAt r.payload 3, ⟨bridge, field r.payload 5 2, field r.payload 7 2⟩⟩ } }
      (s.scv.templates[n].enc ++ encFlag s.scv.tableValid) := by
  refine exec_accepted (i := .writeTemplate) rfl head ?_
  rw [answerWriteTemplate_read length h number code]
  exact if_neg (mt (anyZone_busy_iff s).mp (not_exists.mpr still))

end WriteTemplate

/-! ### SET DEFAULT PROFILE (08 R145) -/

section SetDefaultProfile
variable {s : State} {r : Request} (head : AtHead s 0x43 r) (length : r.payload.length = 5)
include length

theorem answerSetDefaultProfile_read (h : ProfileOk r.payload 0) {bridge : BridgeType}
    (code : field r.payload 0 1 = bridge.code) (s : State) :
    answerSetDefaultProfile r s = if s.anyZone ZoneState.busy then .no .protect else .accepted
      { s with scv := { s.scv with default := ⟨bridge, field r.payload 1 2, field r.payload 3 2⟩ } }
      s.scv.default.enc := by
  unfold answerSetDefaultProfile
  rw [if_neg (not_not.mpr length), readProfile_of_ok h code]

include head

theorem exec_setDefaultProfile_range (h : ¬ ProfileOk r.payload 0) :
    exec .setDefaultProfile s = refused s r .range := by
  refine exec_refused (i := .setDefaultProfile) rfl head ?_
  unfold answerSetDefaultProfile
  rw [if_neg (not_not.mpr length), readProfile_of_not h]

theorem exec_setDefaultProfile_protect (h : ProfileOk r.payload 0) (live : ∃ z, Busy s z) :
    exec .setDefaultProfile s = refused s r .protect := by
  obtain ⟨code, -⟩ := id h
  obtain ⟨bridge, is⟩ := BridgeType.exists_code code
  refine exec_refused (i := .setDefaultProfile) rfl head ?_
  rw [answerSetDefaultProfile_read length h is]
  exact if_pos ((anyZone_busy_iff s).mpr live)

theorem exec_setDefaultProfile_accepted (h : ProfileOk r.payload 0) (still : ∀ z, ¬ Busy s z)
    {bridge : BridgeType} (code : field r.payload 0 1 = bridge.code) :
    exec .setDefaultProfile s = accepted s r
      { s.dequeued with scv := { s.dequeued.scv with
        default := ⟨bridge, field r.payload 1 2, field r.payload 3 2⟩ } } s.scv.default.enc := by
  refine exec_accepted (i := .setDefaultProfile) rfl head ?_
  rw [answerSetDefaultProfile_read length h code]
  exact if_neg (mt (anyZone_busy_iff s).mp (not_exists.mpr still))

end SetDefaultProfile

/-! ### VALIDATE TEMPLATES (08 R146) -/

theorem countOf_some (v : StrainConverter) (t : TemplateId) :
    v.countOf (some t) = (List.finRange 256).countP fun g => Selects v g t := by
  simp only [StrainConverter.countOf, ← List.countP_eq_length_filter, matching_eq_some]

theorem countOf_none (v : StrainConverter) :
    v.countOf none = (List.finRange 256).countP fun g => ∀ t : TemplateId, ¬ Matches v g t := by
  simp only [StrainConverter.countOf, ← List.countP_eq_length_filter, matching_eq_none]

section ValidateTemplates
variable {s : State} {r : Request} (head : AtHead s 0x44 r) (empty : r.payload = [])
include head empty

theorem exec_validateTemplates_protect (invalid : s.scv.tableValid = false) (live : ∃ z, Busy s z) :
    exec .validateTemplates s = refused s r .protect := by
  refine exec_refused (i := .validateTemplates) rfl head ?_
  unfold answerValidateTemplates
  rw [if_neg (by simp [empty])]
  exact if_pos (by rw [Bool.and_eq_true, Bool.not_eq_true']; exact ⟨invalid, (anyZone_busy_iff s).mpr live⟩)

theorem exec_validateTemplates_accepted (h : s.scv.tableValid = true ∨ ∀ z, ¬ Busy s z) :
    exec .validateTemplates s = accepted s r
      { s.dequeued with scv := { s.dequeued.scv with tableValid := true } }
      (((List.finRange 8).map fun t =>
          encN 2 ((List.finRange 256).countP fun g => Selects s.scv g t)).flatten ++
        encN 2 ((List.finRange 256).countP fun g => ∀ t : TemplateId, ¬ Matches s.scv g t) ++
        encFlag s.scv.tableValid) := by
  refine exec_accepted (i := .validateTemplates) rfl head ?_
  unfold answerValidateTemplates
  rw [if_neg (by simp [empty])]
  refine (if_neg fun protects => ?_).trans ?_
  · rw [Bool.and_eq_true, Bool.not_eq_true'] at protects
    obtain ⟨invalid, busy⟩ := protects
    obtain ⟨z, busy⟩ := (anyZone_busy_iff s).mp busy
    exact h.elim (fun valid => Bool.noConfusion (invalid.symm.trans valid)) fun still => still z busy
  · simp only [countOf_some, countOf_none]
    rfl

end ValidateTemplates

/-! ### The items of READ GAUGES (08 R156, 07 R140, 09 R173) -/

/-- A conversion's code is that of the list of it alone. -/
theorem conversionCode_eq_waitingCode (c : Option Conversion) : Conversion.code c = waitingCode c.toList := by
  rcases c with _ | ⟨_ | _⟩ <;> rfl

theorem scanEngine_enc (e : ScanEngine) : e.enc = scanItems e := by
  unfold ScanEngine.enc
  rw [encList_map, toList_map_eq_finRange, toList_map_eq_finRange]
  simp only [Bank.enc, conversionCode_eq_waitingCode]
  rfl

theorem limitRule_enc (q : LimitRule) (n : RuleId) : q.enc n = ruleItems n q := rfl

/-- Gauge `g` is one of the `count` gauges from `first`. -/
def within (first count : Nat) (g : GaugeId) : Bool := first ≤ g.val && g.val < first + count

/-- A range of gauges below 256 holds as many gauges as its count says. -/
theorem within_length {first count : Nat} (below : first + count ≤ 256) :
    ((List.finRange 256).filter (within first count)).length = count := by
  have numbers : ((List.finRange 256).filter (within first count)).map Fin.val =
      List.range' first count := by
    refine List.Pairwise.eq_of_mem_iff (r := (· < ·)) ?_ List.pairwise_lt_range' fun v => ?_
    · exact List.pairwise_map.mpr ((List.pairwise_lt_finRange 256).filter _)
    · simp only [List.mem_map, List.mem_filter, List.mem_finRange, true_and, within, Bool.and_eq_true,
        decide_eq_true_eq, List.mem_range'_1]
      exact ⟨fun ⟨g, inside, is⟩ => is ▸ inside, fun inside => ⟨⟨v, by omega⟩, inside, rfl⟩⟩
  simpa using congrArg List.length numbers

theorem gaugeReading_eq (s : State) (gauges : List GaugeId) : s.gaugeReading gauges =
    encN 1 gauges.length ++ (gauges.map s.scv.encGauge).flatten ++ encFlag s.scv.tableValid ++
      s.scv.default.enc ++ encFlag s.scv.zeroOp.isSome ++ scanItems s.se := by
  rw [State.gaugeReading, encList_map, scanEngine_enc]

/-- The rule items that fit, behind their count, and the number left out (12 R205). -/
theorem encRules_eq (w : LimitWatch) (l : List RuleId) (used : Nat) : w.encRules l used =
    encN 1 (min ((1020 - used) / 14) l.length) ++
      ((l.take ((1020 - used) / 14)).map fun n => ruleItems n w.rules[n]).flatten ++
      encN 1 (l.length - (1020 - used) / 14) := by
  have fit : (1024 - (2 + used + 1 + 1)) / 14 = (1020 - used) / 14 := by omega
  unfold LimitWatch.encRules
  simp only [fit, encList_map, List.length_take, limitRule_enc]

section ReadGauges
variable {s : State} {r : Request} (head : AtHead s 0x47 r) (length : r.payload.length = 2)
include head length

theorem exec_readGauges_range (h : field r.payload 1 1 = 0 ∨ 32 < field r.payload 1 1 ∨
    256 < field r.payload 0 1 + field r.payload 1 1) : exec .readGauges s = refused s r .range := by
  refine exec_refused (i := .readGauges) rfl head ?_
  unfold answerReadGauges
  rw [if_neg (not_not.mpr length)]
  exact if_pos (by simp only [Bool.or_eq_true, decide_eq_true_eq]; omega)

theorem exec_readGauges_accepted {n : Nat} (count : field r.payload 1 1 = n) (any : 1 ≤ n) (few : n ≤ 32)
    (below : field r.payload 0 1 + n ≤ 256) {gauges : List GaugeId} {rules : List RuleId} {items : Wire}
    (listed : (List.finRange 256).filter (within (field r.payload 0 1) n) = gauges)
    (watching : ((List.finRange 32).filter fun q => within (field r.payload 0 1) n s.lw.rules[q].gauge) = rules)
    (read : encN 1 n ++ (gauges.map s.scv.encGauge).flatten ++ encFlag s.scv.tableValid ++
      s.scv.default.enc ++ encFlag s.scv.zeroOp.isSome ++ scanItems s.se = items) :
    exec .readGauges s = accepted s r s.dequeued
      (items ++ encN 1 (min ((1020 - items.length) / 14) rules.length) ++
        ((rules.take ((1020 - items.length) / 14)).map fun q => ruleItems q s.lw.rules[q]).flatten ++
        encN 1 (rules.length - (1020 - items.length) / 14)) := by
  subst count
  have reading : s.gaugeReading gauges = items := by
    rw [gaugeReading_eq, ← read, ← listed, within_length below]
  refine exec_accepted (i := .readGauges) rfl head ?_
  unfold answerReadGauges
  rw [if_neg (not_not.mpr length)]
  refine (if_neg (by simp only [Bool.or_eq_true, decide_eq_true_eq]; omega)).trans ?_
  rw [List.append_assoc, List.append_assoc, ← List.append_assoc (encN 1 _), ← encRules_eq, ← reading,
    ← watching, ← listed]
  rfl

end ReadGauges

/-! ### The rule -/

/-- Settles O46: the choice of a profile, then each request by its tests. -/
theorem converterRequests : Obligations.ConverterRequests := by
  refine ⟨fun v g => ⟨chosen_of_invalid, fun valid => ?_, fun t => rfl, rfl⟩, fun s r =>
    ⟨fun head length => ?_, fun head length => ?_, fun head empty => ?_, fun head length => ?_⟩⟩
  · rw [chosen_of_valid valid]
    exact ⟨fun t => matching_eq_some, matching_eq_none⟩
  · exact ⟨exec_writeTemplate_range head length, exec_writeTemplate_protect head length,
      fun h still n bridge => exec_writeTemplate_accepted head length h still⟩
  · exact ⟨exec_setDefaultProfile_range head length, exec_setDefaultProfile_protect head length,
      fun h still bridge => exec_setDefaultProfile_accepted head length h still⟩
  · exact ⟨exec_validateTemplates_protect head empty, exec_validateTemplates_accepted head empty⟩
  · exact ⟨exec_readGauges_range head length,
      fun any few below => exec_readGauges_accepted head length rfl any few below rfl rfl rfl⟩

end Sys2Proof.Machine
end
section
/-! The strain conversion of a sample, and what a completed FREE, PEAK or VALLEY scan writes, queues and
raises (08 R147 to R152, R155; 09 R159, R169, R171; 06 R117, R118). -/

namespace Sys2Proof.Machine
open Host Statements

/-! ### One sample (08 R148 to R152) -/

section Sample
variable {p : Profile} (byDefault : Bool) (zero raw : Int) (opens : Nat)

/-- A gauge with bridge OFF gives what a gauge with no raw value gives (08 R149). -/
theorem sampleOf_off (off : p.bridge = .off) :
    sampleOf p byDefault zero opens (some raw) = sampleOf p byDefault zero opens none :=
  if_pos off

/-- The strain of a measured gauge before the clamp (08 R148). -/
def Profile.strain (p : Profile) (zero raw : Int) : Int :=
  roundDiv (bridgeStrain p.bridge (limitRaw raw - zero) p.gf * p.cal) 32768

/-- The open-gauge counter after a raw value (08 R151). -/
def opensAfter (opens : Nat) (raw : Int) : Nat := if atLimit raw then min (opens + 1) 8 else 0

theorem sampleOf_measured (on : p.bridge ≠ .off) :
    sampleOf p byDefault zero opens (some raw) =
      ⟨clamp (-2000000) 2000000 (p.strain zero raw),
        ⟨atLimit raw || clamp (-2000000) 2000000 (p.strain zero raw) ≠ p.strain zero raw,
          opensAfter opens raw = 8, false, byDefault⟩,
        opensAfter opens raw, opens = 8 && opensAfter opens raw = 8⟩ :=
  if_neg on

end Sample

/-! ### The latest values, the open-gauge counters and the new-value marks (08 R151, R155; 11 R190) -/

/-- The converter after the samples of a scan that started at `time`. -/
def StrainConverter.writeAll (v : StrainConverter) (time : Nat) (l : List (GaugeId × Sample)) :
    StrainConverter :=
  l.foldl (fun v y => v.write time y) v

/-- The two entries of gauge `g` that a conversion writes. -/
def StrainConverter.entry (v : StrainConverter) (g : GaugeId) : Latest × Nat := (v.latest[g], v.openCount[g])

theorem writeAll_cons (v : StrainConverter) (time : Nat) (y : GaugeId × Sample)
    (l : List (GaugeId × Sample)) : v.writeAll time (y :: l) = (v.write time y).writeAll time l := rfl

theorem entry_write (v : StrainConverter) (time : Nat) (h g : GaugeId) (x : Sample) :
    (v.write time (h, x)).entry g = if h = g then (⟨x.value, x.flags, time⟩, x.opens) else v.entry g := by
  simp only [StrainConverter.entry, StrainConverter.write, Fin.getElem_fin, Vector.getElem_set, Fin.ext_iff]
  split <;> rfl

/-- Profiles, zeros and the operation in flight are not written. -/
theorem writeAll_only (v : StrainConverter) (time : Nat) (l : List (GaugeId × Sample)) :
    v.writeAll time l = { v with
      openCount := (v.writeAll time l).openCount
      latest := (v.writeAll time l).latest
      written := (v.writeAll time l).written } := by
  refine foldl_keeps (fun u : StrainConverter => u = { v with
    openCount := u.openCount, latest := u.latest, written := u.written }) _ (fun u y h => ?_) l v rfl
  rw [StrainConverter.write, h]

theorem entry_writeAll_of_unlisted {g : GaugeId} {l : List (GaugeId × Sample)} (v : StrainConverter)
    (time : Nat) (unlisted : g ∉ l.map Prod.fst) : (v.writeAll time l).entry g = v.entry g := by
  induction l generalizing v with
  | nil => rfl
  | cons y l ih =>
    obtain ⟨other, unlisted⟩ := not_or.mp (mt List.mem_cons.mpr unlisted)
    rw [writeAll_cons, ih _ unlisted, entry_write]
    exact if_neg (Ne.symm other)

theorem entry_writeAll_of_mem {g : GaugeId} {x : Sample} {l : List (GaugeId × Sample)} (v : StrainConverter)
    (time : Nat) (once : (l.map Prod.fst).Nodup) (listed : (g, x) ∈ l) :
    (v.writeAll time l).entry g = (⟨x.value, x.flags, time⟩, x.opens) := by
  induction l generalizing v with
  | nil => cases listed
  | cons y l ih =>
    obtain ⟨unlisted, once⟩ := List.nodup_cons.mp once
    rw [writeAll_cons]
    rcases List.mem_cons.mp listed with rfl | listed
    · rw [entry_writeAll_of_unlisted _ time unlisted, entry_write]
      exact if_pos rfl
    · exact ih _ once listed

theorem mem_writeAll_written {g : GaugeId} (l : List (GaugeId × Sample)) (v : StrainConverter) (time : Nat) :
    g ∈ (v.writeAll time l).written ↔ g ∈ v.written ∨ g ∈ l.map Prod.fst := by
  induction l generalizing v with
  | nil => simp [StrainConverter.writeAll]
  | cons y l ih =>
    rw [writeAll_cons, ih]
    simp only [StrainConverter.write, List.map_cons, List.mem_cons]
    tauto

/-! ### The rules that latch (09 R169, R171) -/

theorem evaluate_fields (q : LimitRule) (x : Sample) : q.evaluate x =
    { q with counter := (q.evaluate x).counter, latched := (q.evaluate x).latched } := by
  unfold LimitRule.evaluate
  split
  · rfl
  · rfl
  · split <;> rfl

/-- A completion writes a rule's counter and its latch alone. -/
theorem atScan_fields (q : LimitRule) (l : List (GaugeId × Sample)) : q.atScan l =
    { q with counter := (q.atScan l).counter, latched := (q.atScan l).latched } := by
  unfold LimitRule.atScan
  split
  · split
    · exact evaluate_fields q _
    · rfl
  · rfl

theorem limitWatch_atScan_rule (w : LimitWatch) (l : List (GaugeId × Sample)) (n : RuleId) :
    (w.atScan l).rules[n] = w.rules[n].atScan l :=
  tabMap_get _ w.rules n

/-- Rule `n` latches at a completion with the samples `l`. -/
def LimitWatch.latches (w : LimitWatch) (l : List (GaugeId × Sample)) (n : RuleId) : Bool :=
  (w.rules[n].atScan l).latched && !w.rules[n].latched

theorem newlyLatched_atScan (w : LimitWatch) (l : List (GaugeId × Sample)) :
    newlyLatched w (w.atScan l) = (List.finRange 32).filter (w.latches l) :=
  List.filter_congr fun n _ => by rw [limitWatch_atScan_rule]; rfl

/-! ### The completion (08 R147; 09 R159, R171) -/

section Completion
variable (s : State) (x : Scan)

/-- The samples of a scan's gauges. -/
def State.samples : List (GaugeId × Sample) := x.results.map fun y => (y.1, s.scv.sample y.1 y.2)

theorem samples_gauges : (s.samples x).map Prod.fst = x.results.map Prod.fst := by
  rw [State.samples, List.map_map]
  rfl

/-- The part with the gauges written, the record formed and the rules evaluated, before the raises. -/
def State.scanned : State := { s with
  scv := s.scv.writeAll x.start (s.samples x)
  sq := s.sq.form (x.record (s.samples x)) s.osc
  lw := s.lw.atScan (s.samples x) }

/-- The LIMIT raise of a rule that latches, stamped between strobes (06 R118; log 39). -/
def State.limitRaise (n : RuleId) : Raise :=
  s.raiseNow (.limit n) s.lw.rules[n].zone s.lw.rules[n].action.severity

theorem scanned_limitRaise (n : RuleId) : (s.scanned x).limitRaise n = s.limitRaise n := by
  have rule : (s.scanned x).lw.rules[n] = s.lw.rules[n].atScan (s.samples x) := limitWatch_atScan_rule ..
  rw [State.limitRaise, rule, atScan_fields]
  rfl

/-- The LIMIT raises of a completion, in the order of the rules. -/
def State.limitRaises : List Raise :=
  ((List.finRange 32).filter (s.lw.latches (s.samples x))).map s.limitRaise

theorem convertScan_of_unlatched (h : ∀ n, s.lw.latches (s.samples x) n = false) :
    s.convertScan x = s.scanned x := by
  have quiet : newlyLatched s.lw (s.lw.atScan (s.samples x)) = [] := by
    rw [newlyLatched_atScan]
    exact List.filter_eq_nil_iff.mpr fun n _ => Bool.eq_false_iff.mp (h n)
  exact if_pos (List.isEmpty_iff.mpr quiet)

theorem convertScan_of_latched (h : ∃ n, s.lw.latches (s.samples x) n = true) :
    s.convertScan x = (s.scanned x).raiseAll (s.limitRaises x) := by
  obtain ⟨n, latches⟩ := h
  have raises : (newlyLatched s.lw (s.lw.atScan (s.samples x))).map (s.scanned x).limitRaise =
      s.limitRaises x := by
    rw [newlyLatched_atScan, funext (scanned_limitRaise s x)]
    rfl
  have loud : ¬ (newlyLatched s.lw (s.lw.atScan (s.samples x))).isEmpty := by
    rw [newlyLatched_atScan, List.isEmpty_iff, List.filter_eq_nil_iff]
    exact fun quiet => quiet n (List.mem_finRange n) latches
  rw [← raises]
  exact if_neg loud

/-- The raises leave what the completion wrote. -/
theorem convertScan_scan : ScanFrame (s.scanned x) (s.convertScan x) := by
  by_cases h : ∃ n, s.lw.latches (s.samples x) n = true
  · rw [convertScan_of_latched s x h]
    exact raiseAll_scan _ _
  · rw [convertScan_of_unlatched s x fun n => Bool.eq_false_iff.mpr (not_exists.mp h n)]
    exact .refl _

theorem entry_convertScan (g : GaugeId) :
    (s.convertScan x).scv.entry g = (s.scv.writeAll x.start (s.samples x)).entry g := by
  rw [(convertScan_scan s x).scv]
  rfl

end Completion

/-! ### The rule -/

/-- What a completed scan leaves of the converter. -/
theorem convertScan_converter (s : State) (x : Scan) (once : (x.results.map Prod.fst).Nodup) :
    let t := s.convertScan x
    t.scv.templates = s.scv.templates ∧ t.scv.zeros = s.scv.zeros ∧ t.scv.default = s.scv.default ∧
    t.scv.tableValid = s.scv.tableValid ∧
    (∀ g raw, (g, raw) ∈ x.results →
      t.scv.latest[g] = ⟨(s.scv.sample g raw).value, (s.scv.sample g raw).flags, x.start⟩ ∧
      t.scv.openCount[g] = (s.scv.sample g raw).opens) ∧
    (∀ g, g ∉ x.results.map Prod.fst →
      t.scv.latest[g] = s.scv.latest[g] ∧ t.scv.openCount[g] = s.scv.openCount[g]) ∧
    (∀ g, g ∈ t.scv.written ↔ g ∈ s.scv.written ∨ g ∈ x.results.map Prod.fst) := by
  intro t
  have scv : t.scv = s.scv.writeAll x.start (s.samples x) := (convertScan_scan s x).scv
  have only := scv.trans (writeAll_only s.scv x.start (s.samples x))
  refine ⟨(congrArg (·.templates) only :), (congrArg (·.zeros) only :),
    (congrArg (·.default) only :), (congrArg (·.tableValid) only :), fun g raw listed => ?_,
    fun g unlisted => ?_, fun g => ?_⟩
  · have sampled : (g, s.scv.sample g raw) ∈ s.samples x := List.mem_map_of_mem listed
    exact Prod.mk.inj ((entry_convertScan s x g).trans
      (entry_writeAll_of_mem s.scv x.start (samples_gauges s x ▸ once) sampled))
  · exact Prod.mk.inj ((entry_convertScan s x g).trans
      (entry_writeAll_of_unlisted s.scv x.start (samples_gauges s x ▸ unlisted)))
  · rw [scv, mem_writeAll_written, samples_gauges]

/-- Settles O47: one sample, the gauges' entries, then the record, the rules and the raises. -/
theorem strainConversionRule : Obligations.StrainConversionRule := by
  refine ⟨fun p byDefault zero raw opens => ⟨?_, sampleOf_off byDefault zero raw opens, rfl⟩,
    convertScan_converter, fun v g raw => rfl, fun s x => ?_⟩
  · exact sampleOf_measured byDefault zero raw opens
  · have left := convertScan_scan s x
    have only : { s with
        scv := (s.convertScan x).scv, sq := (s.convertScan x).sq, lw := (s.convertScan x).lw } =
        s.scanned x := by rw [left.scv, left.sq, left.lw]; rfl
    refine ⟨left.sq, fun n => ?_, fun unlatched => ?_, fun latched => ?_⟩
    · rw [left.lw]
      exact limitWatch_atScan_rule s.lw (s.samples x) n
    · rw [only]
      exact convertScan_of_unlatched s x unlatched
    · -- A stamp depends on the zone alone, not on the source or the severity.
      refine ⟨fun z => (s.raiseNow (.limit 0) z .info).cycle, (s.scanned x).inOrder (s.limitRaises x),
        fun z => raiseNow_stamps s _ z _, ?_, ?_⟩
      · refine (inOrder_perm _ _).trans (List.Perm.of_eq (List.map_congr_left fun n _ => ?_))
        dsimp only
        rw [State.limitRaise]
        cases s.lw.rules[n].action <;> rfl
      · rw [only]
        exact convertScan_of_latched s x latched

end Sys2Proof.Machine
end

section
/-! The Strain Queue: a record formed, and the delay timer's running out (09 R159 to R162). -/

namespace Sys2Proof.Machine
open Host Statements

section Form
variable {q : StrainQueue} {x : StrainRecord} (now : Nat)

/-- A FREE record without entries is not queued (09 R159). -/
theorem form_of_empty (free : x.kind = .free) (empty : x.unsent = []) : q.form x now = q := by
  rw [StrainQueue.form, free, empty]
  rfl

/-- The queue has room for a record: of its 4096 entries, and of its 256 records (09 R160). -/
abbrev StrainQueue.HasRoom (q : StrainQueue) (x : StrainRecord) : Prop :=
  q.entriesHeld + x.unsent.length ≤ 4096 ∧ q.records.length < 256

/-- A record that is queued enters whole or is lost and counted (09 R160, R161). -/
theorem form_of_queued (queued : x.kind ≠ .free ∨ x.unsent ≠ []) : q.form x now =
    if q.HasRoom x then
      { records := q.records ++ [{ x with number := q.counter, loss := q.pendingLoss }]
        pendingLoss := 0
        counter := (q.counter + 1) % 65536
        timer := if q.records = [] then .running now else q.timer }
    else { q with pendingLoss := min (q.pendingLoss + 1) 255 } := by
  have named : ¬ (decide (x.kind = .free) && x.unsent.isEmpty) = true := by
    rw [Bool.and_eq_true, decide_eq_true_eq, List.isEmpty_iff]
    tauto
  rw [StrainQueue.form, if_neg named]
  refine if_ctx_congr ?_ (fun _ => ?_) fun _ => rfl
  · rw [Bool.and_eq_true, decide_eq_true_eq, decide_eq_true_eq]
    exact Iff.rfl
  · simp only [List.isEmpty_iff]

end Form

/-- Settles O48: a record formed, case by case; the run-out is the timer's command at its moment. -/
theorem strainQueueRule : Obligations.StrainQueueRule := by
  refine ⟨fun q x now => ⟨form_of_empty now, fun queued => ⟨fun entries records => ?_, fun full => ?_⟩⟩,
    fun s t h => ?_⟩
  · rw [form_of_queued now queued]
    exact if_pos ⟨entries, records⟩
  · rw [form_of_queued now queued]
    refine if_neg fun ⟨entries, records⟩ => full.elim ?_ ?_
    · exact Nat.not_lt.mpr entries
    · exact Nat.not_le.mpr records
  · exact congrArg Outcome.next (atExpiry_some s t _ _ h)

end Sys2Proof.Machine
end

section
/-! The Strain Queue's capacity and the Capture Unit's one active block as invariants: what leaves them alone,
and what the work of the two blocks does to them (09 R160; 11 R192, R198). -/

namespace Sys2Proof.Machine
open Host Statements

/-! ### The Strain Queue -/

/-- The queue is within its capacity (09 R160). -/
def StrainQueue.Fits (q : StrainQueue) : Prop := q.entriesHeld ≤ 4096 ∧ q.records.length ≤ 256

theorem strainOk_iff (s : State) : StrainOk s ↔ s.sq.Fits := Iff.rfl

/-- A record formed keeps the queue within its capacity (09 R160). -/
theorem form_fits {q : StrainQueue} (h : q.Fits) (x : StrainRecord) (now : Nat) : (q.form x now).Fits := by
  by_cases queued : x.kind ≠ .free ∨ x.unsent ≠ []
  case neg =>
    simp only [not_or, not_not] at queued
    rwa [form_of_empty now queued.1 queued.2]
  rw [form_of_queued now queued]
  split
  · rename_i room
    obtain ⟨entries, records⟩ := room
    refine ⟨?_, by simpa using records⟩
    simpa [StrainQueue.entriesHeld] using entries
  · exact h

/-- A slice sent takes its entries, or its record, out of the queue (09 R163). -/
theorem sliceSent_fits {q : StrainQueue} (h : q.Fits) (n : Nat) (last : Bool) (now : Nat) :
    (q.sliceSent n last now).Fits := by
  cases hq : q.records with
  | nil =>
    have same : q.sliceSent n last now = q := by simp only [StrainQueue.sliceSent, hq]
    rwa [same]
  | cons x rest =>
    simp only [StrainQueue.Fits, StrainQueue.entriesHeld, hq, List.map_cons, List.sum_cons, List.length_cons] at h
    cases last with
    | true =>
      rw [sliceSent_last hq]
      simp only [StrainQueue.Fits, StrainQueue.entriesHeld]
      omega
    | false =>
      rw [sliceSent_more hq]
      simp only [StrainQueue.Fits, StrainQueue.entriesHeld, List.map_cons, List.sum_cons, List.length_cons,
        List.length_drop]
      omega

/-! ### The capture blocks -/

@[simp] theorem setBlock_block (s : State) (b c : BlockId) (x : Block) :
    (s.setBlock b x).cu.blocks[c] = if c = b then x else s.cu.blocks[c] := by
  by_cases h : c = b
  · subst h; simp
  · have : b.val ≠ c.val := fun e => h (Fin.ext e.symm)
    simp [h, this]

/-- The active block that the Capture Unit finds is RECORDING or POST. -/
theorem isActive_of_active {u : CaptureUnit} {b : BlockId} (h : u.active = some b) : u.blocks[b].isActive := by
  have found := List.find?_some h
  exact (activeTest_iff _).mp found

theorem not_isActive_of_active {u : CaptureUnit} (h : u.active = none) (b : BlockId) :
    ¬ u.blocks[b].isActive := fun hb => by
  have found := (active_isSome_iff u).mpr ⟨b, hb⟩
  rw [h] at found
  cases found

/-- With no block active there is nothing to tell apart. -/
theorem captureOk_of_none {s : State} (h : ∀ b : BlockId, ¬ s.cu.blocks[b].isActive) : CaptureOk s :=
  ⟨fun a _ ha => absurd ha (h a), fun _ => h⟩

/-- No block becomes active, and no stall begins. -/
theorem captureOk_of_fewer {s t : State} (h : CaptureOk s)
    (active : ∀ b : BlockId, t.cu.blocks[b].isActive → s.cu.blocks[b].isActive)
    (stall : t.cu.stalled = true → s.cu.stalled = true) : CaptureOk t :=
  ⟨fun a b ha hb => h.one a b (active a ha) (active b hb), fun st b hb => h.stall (stall st) b (active b hb)⟩

/-- One block is written, and it is active only if it was. -/
theorem setBlock_captureOk {s : State} (h : CaptureOk s) (b : BlockId) {x : Block}
    (active : x.isActive → s.cu.blocks[b].isActive) : CaptureOk (s.setBlock b x) := by
  refine captureOk_of_fewer h (fun c hc => ?_) id
  rw [setBlock_block] at hc
  split at hc
  · rename_i e; rw [e]; exact active hc
  · exact hc

/-- A block that enters RECORDING while none is active is the active one, and ends a stall (11 R193, R198). -/
theorem startRecording_captureOk {s : State} (h : ∀ b : BlockId, ¬ s.cu.blocks[b].isActive) (n : BlockId) :
    CaptureOk (s.startRecording n) := by
  have only : ∀ b : BlockId, (s.startRecording n).cu.blocks[b].isActive → b = n := by
    intro b hb
    by_contra other
    have same : (s.startRecording n).cu.blocks[b] = s.cu.blocks[b] :=
      (setBlock_block s n b _).trans (if_neg other)
    rw [same] at hb
    exact h b hb
  exact ⟨fun a b ha hb => (only a ha).trans (only b hb).symm, nofun⟩

/-- A trigger: RECORDING goes to POST in the block that is active (11 R196). -/
theorem trigger_captureOk {s : State} (h : CaptureOk s) (x : Trigger) : CaptureOk (s.trigger x) := by
  unfold State.trigger
  split
  · rename_i b active
    dsimp only
    split <;> exact setBlock_captureOk h b fun _ => isActive_of_active active
  · split
    · exact captureOk_of_fewer h (fun _ => id) id
    · exact h

/-- A block that is not active is locked: recording goes on in a FREE block, stalls, or ends (11 R197). -/
theorem lockBlock_captureOk {s : State} {b : BlockId} (h : ∀ c, c ≠ b → ¬ s.cu.blocks[c].isActive) :
    CaptureOk (s.lockBlock b) := by
  have none : ∀ c : BlockId,
      ¬ (s.setBlock b { s.cu.blocks[b] with state := .locked }).cu.blocks[c].isActive := by
    intro c
    rw [setBlock_block]
    split
    · rintro (e | e) <;> cases e
    · rename_i other; exact h c other
  unfold State.lockBlock
  dsimp only
  split
  · split
    · refine startRecording_captureOk ?_ _
      exact none
    · exact captureOk_of_none none
  · exact captureOk_of_none none

/-- A capture frame: the active block takes it, and locks with its last one (11 R193, R197). -/
theorem takeFrame_captureOk {s : State} (h : CaptureOk s) (chans : Vector Channel 8) (timeSet : Bool) :
    CaptureOk (s.takeFrame chans timeSet) := by
  unfold State.takeFrame
  split
  · exact h
  rename_i b active
  have now := isActive_of_active active
  have taken : ∀ frames, CaptureOk
      ({ s with scv := { s.scv with written := [] } }.setBlock b { s.cu.blocks[b] with frames }) := by
    refine fun frames => setBlock_captureOk ?_ b fun hb => hb
    exact captureOk_of_fewer h (fun _ => id) id
  dsimp only
  split
  · exact taken _
  split
  · refine lockBlock_captureOk fun c other => ?_
    rw [setBlock_block, if_neg other]
    exact fun hc => other (h.one c b hc now)
  · exact taken _

/-! ### Both at once -/

/-- The Strain Queue's capacity and the one active block are kept from `s` to `t`. -/
structure RecordsKept (s t : State) : Prop where
  strain : StrainOk s → StrainOk t
  capture : CaptureOk s → CaptureOk t

theorem RecordsKept.trans {s t u : State} (h : RecordsKept s t) (k : RecordsKept t u) : RecordsKept s u :=
  ⟨k.strain ∘ h.strain, k.capture ∘ h.capture⟩

/-- `RecordsKept.trans` with its second part first. -/
theorem RecordsKept.after {s t u : State} (k : RecordsKept t u) (h : RecordsKept s t) : RecordsKept s u :=
  h.trans k

/-- Work on the Capture Unit that leaves the Strain Queue alone. -/
theorem RecordsKept.of_capture {s t : State} (sq : t.sq = s.sq) (capture : CaptureOk s → CaptureOk t) :
    RecordsKept s t :=
  ⟨fun h => by rw [strainOk_iff, sq]; exact h, capture⟩

/-- Work on the Strain Queue that leaves the Capture Unit alone. -/
theorem RecordsKept.of_strain {s t : State} (cu : t.cu = s.cu) (strain : StrainOk s → StrainOk t) :
    RecordsKept s t :=
  ⟨strain, fun h => captureOk_of_fewer h (fun b => by rw [cu]; exact id) (by rw [cu]; exact id)⟩

/-- Work that leaves both alone. -/
theorem RecordsKept.of_same {s t : State} (sq : t.sq = s.sq) (cu : t.cu = s.cu) : RecordsKept s t :=
  .of_strain cu fun h => by rw [strainOk_iff, sq]; exact h

theorem RecordsKept.refl (s : State) : RecordsKept s s := ⟨id, id⟩

/-- A reset or restart (09 R165, 11 R202). -/
theorem RecordsKept.of_reset {s t : State} (sq : t.sq = StrainQueue.reset) (cu : t.cu = CaptureUnit.reset) :
    RecordsKept s t :=
  ⟨fun _ => by rw [strainOk_iff, sq]; exact ⟨Nat.zero_le _, Nat.zero_le _⟩,
    fun _ => captureOk_of_none fun b => by rw [cu]; exact not_isActive_reset b⟩

theorem foldl_recordsKept {β : Type} (f : State → β → State) (h : ∀ s b, RecordsKept s (f s b)) (l : List β)
    (s : State) : RecordsKept s (l.foldl f s) :=
  foldl_keeps (RecordsKept s) f (fun t b k => k.trans (h t b)) l s (.refl s)

end Sys2Proof.Machine
end

section
/-! Every step keeps the Strain Queue's capacity and the one active capture block: raises, scans, strobes, the
requests, the events, the step. -/

namespace Sys2Proof.Machine
open Host Statements

/-! ### Raises and the zones' work -/

theorem ZonesOnly.recordsKept {s t : State} (h : ZonesOnly s t) : RecordsKept s t := by
  rw [h]; exact .of_same rfl rfl

theorem TimeOnly.recordsKept {s t : State} (h : TimeOnly s t) : RecordsKept s t := by
  rw [h.only]; exact .of_same rfl rfl

theorem ActuatorsOnly.recordsKept {named : ActId → Prop} {s t : State} (h : ActuatorsOnly named s t) :
    RecordsKept s t := by
  rw [h.only]; exact .of_same rfl rfl

theorem RequestFrame.recordsKept {s t : State} (h : RequestFrame s t) : RecordsKept s t :=
  .of_same h.strain.2.1 h.cu

theorem arbitrate_recordsKept (s : State) : RecordsKept s (arbitrate s) :=
  .of_same (arbitrate_sq s) (arbitrate_cu s)

theorem holdZone_recordsKept (s : State) (z : ZoneId) (r : HoldReason) : RecordsKept s (s.holdZone z r) :=
  (holdZone_worksOn s z r).only.recordsKept

theorem trigger_recordsKept (s : State) (x : Trigger) : RecordsKept s (s.trigger x) :=
  .of_capture (by rw [trigger_only]) fun h => trigger_captureOk h x

/-- A raise: what its severity does to its zone, and the trigger it hands over (06 R118 to R121). -/
theorem raise_recordsKept (s : State) (r : Raise) : RecordsKept s (s.raise r) := by
  have listed : RecordsKept s (s.enlist r) := by
    rw [enlist_only]; exact .of_same rfl rfl
  have acted := listed.trans (severityAction_worksOn _ r.zone r.severity).only.recordsKept
  unfold State.raise State.alarmTrigger
  split
  · exact acted.trans (trigger_recordsKept _ _)
  · exact acted

theorem raiseAll_recordsKept (s : State) (l : List Raise) : RecordsKept s (s.raiseAll l) := by
  have bumped : RecordsKept s s.bumpFree := .of_same rfl rfl
  exact bumped.trans (foldl_recordsKept _ raise_recordsKept _ _)

theorem safeIfAllFaulted_recordsKept (s : State) (z : ZoneId) : RecordsKept s (s.safeIfAllFaulted z) := by
  unfold State.safeIfAllFaulted
  split <;> exact .of_same rfl rfl

theorem memberFault_recordsKept (s : State) (a : ActId) : RecordsKept s (s.memberFault a) := by
  cases e : s.zoneOf a with
  | none => rw [memberFault_none e]; exact .refl s
  | some z =>
    rw [memberFault_some e]
    exact (raise_recordsKept s _).trans (safeIfAllFaulted_recordsKept _ z)

/-! ### Scans -/

/-- A completed scan's record enters the queue whole or is lost (09 R160). -/
theorem convertScan_recordsKept (s : State) (x : Scan) : RecordsKept s (s.convertScan x) := by
  have scanned : RecordsKept s (s.scanned x) := .of_strain rfl fun h => form_fits h _ _
  by_cases h : ∃ n, s.lw.latches (s.samples x) n = true
  · rw [convertScan_of_latched s x h]
    exact scanned.trans (raiseAll_recordsKept _ _)
  · rw [convertScan_of_unlatched s x fun n => Bool.eq_false_iff.mpr (not_exists.mp h n)]
    exact scanned

theorem finishScan_recordsKept (s : State) (x : Scan) : RecordsKept s (s.finishScan x) := by
  have landed : RecordsKept s { s with se := { s.se with scan := none } } := .of_same rfl rfl
  unfold State.finishScan
  dsimp only
  split
  · rw [zeroScan_only]; exact .of_same rfl rfl
  · exact landed.trans (convertScan_recordsKept _ x)

theorem consult_recordsKept (s : State) : RecordsKept s s.consult := by
  have run (n : Nat) : ∀ t : State, RecordsKept t (t.runScans n) := by
    induction n with
    | zero => exact .refl
    | succ n ih =>
      intro t
      have started : ∀ kind place, RecordsKept t (t.startScan kind place) := fun _ _ => .of_same rfl rfl
      unfold State.runScans
      split
      · split
        · exact (finishScan_recordsKept t _).trans (ih _)
        · exact .refl t
      · split
        · exact (started _ _).trans (ih _)
        · exact .refl t
  exact run 14 s

theorem phaseRequest_recordsKept (s : State) (p : PhaseRequest) : RecordsKept s (s.phaseRequest p) := by
  have slotted : RecordsKept s (s.slotted p) := by
    unfold State.slotted
    dsimp only
    split <;> exact .of_same rfl rfl
  rw [phaseRequest_eq]
  exact slotted.trans (consult_recordsKept _)

theorem scanAnswer_recordsKept (s : State) (b : BankId) (v : Option (List Int)) :
    RecordsKept s (s.scanAnswer b v) := by
  unfold State.scanAnswer
  split <;> exact .of_same rfl rfl

theorem testEnd_recordsKept (s : State) (b : BankId) (v : Option Int) : RecordsKept s (s.testEnd b v) := by
  unfold State.testEnd State.deferredReply
  split
  · exact .refl s
  · dsimp only
    split <;> exact .of_same rfl rfl

theorem conversionEnd_recordsKept (s : State) (b : BankId) (c : Conversion) (v : Option (List Int)) :
    RecordsKept s (s.conversionEnd b c v) := by
  have sent : ∀ t : State, RecordsKept t (t.setBank b (t.se.banks[b].sendWaiting t.osc)).consult := by
    intro t
    refine (consult_recordsKept _).after ?_
    exact .of_same rfl rfl
  unfold State.conversionEnd
  cases c with
  | scan gs => exact (scanAnswer_recordsKept s b v).trans (sent _)
  | test g => exact (testEnd_recordsKept s b _).trans (sent _)

theorem dropWaitingScan_recordsKept (s : State) (b : BankId) : RecordsKept s (s.dropWaitingScan b) := by
  unfold State.dropWaitingScan
  dsimp only
  split
  · exact .refl s
  · refine (scanAnswer_recordsKept _ _ _).after ?_
    exact .of_same rfl rfl

/-! ### The strobe -/

theorem lockBlock_sq (s : State) (b : BlockId) : (s.lockBlock b).sq = s.sq := by
  unfold State.lockBlock
  dsimp only
  split
  · split <;> rfl
  · rfl

theorem takeFrame_sq (s : State) (chans : Vector Channel 8) (timeSet : Bool) :
    (s.takeFrame chans timeSet).sq = s.sq := by
  unfold State.takeFrame
  split
  · rfl
  dsimp only
  split
  · rfl
  split
  · exact lockBlock_sq _ _
  · rfl

theorem zoneMoves_recordsKept (s : State) (outs : Vector Outcomes 8) (z : ZoneId) :
    RecordsKept s (s.zoneMoves outs z) := by
  unfold State.zoneMoves
  dsimp only
  split
  · exact .of_same rfl rfl
  split
  · exact .of_same rfl rfl
  split
  · exact holdZone_recordsKept s z .segment
  split <;> exact .of_same rfl rfl

/-- What a strobe's work hands to another block. -/
theorem strobeEvent_recordsKept (s : State) (q : Seen) (e : StrobeTask) : RecordsKept s (s.strobeEvent q e) := by
  cases e with
  | raise source z v => exact raise_recordsKept s _
  | loss z =>
    show RecordsKept s (s.syncLoss _)
    unfold State.syncLoss
    split
    · exact (raise_recordsKept s _).trans (holdZone_recordsKept _ _ _)
    · exact .refl s
  | scans l => exact foldl_recordsKept _ phaseRequest_recordsKept l s
  | frame timeSet => exact .of_capture (takeFrame_sq ..) fun h => takeFrame_captureOk h _ _

theorem strobeWork_recordsKept (s : State) (started : ZoneId → Bool) (lost timeSet : Bool) :
    RecordsKept s (s.strobeWork started lost timeSet) := by
  unfold State.strobeWork
  dsimp only
  refine strobeEvents_keeps (RecordsKept s) _ _
    (fun t q e _ k => k.trans (strobeEvent_recordsKept t q e.task)) _ _ _ ?_
  refine .trans ?_ (.of_same (State.bumpFree_sq _) (State.bumpFree_cu _))
  refine .trans ?_ (foldl_recordsKept _ (fun u z => zoneMoves_recordsKept u _ z) _ _)
  exact .of_same rfl rfl

theorem strobe_recordsKept (s : State) (src : StrobeSource) (lost : Bool) :
    RecordsKept s (s.strobe src lost) := by
  have based : RecordsKept s (s.tbStrobe src) := .of_same rfl rfl
  have frame := (decideStarts_spec (s.tbStrobe src)).1
  unfold State.strobe
  exact (based.trans (.of_same frame.sq frame.cu)).trans (strobeWork_recordsKept _ _ _ _)

theorem regain_recordsKept (s : State) : RecordsKept s s.regain := by
  have dropped : RecordsKept s ((List.finRange 4).foldl State.dropSyncReason
      { s with tb := { s.tb with syncLost := false, regainRun := 0, subRun := 0 } }) := by
    rw [dropSyncReasons_eq]; exact .of_same rfl rfl
  unfold State.regain
  dsimp only
  split
  · exact dropped
  · exact dropped.trans (strobe_recordsKept _ _ _)

theorem lostEdge_recordsKept (s : State) : RecordsKept s s.lostEdge := by
  unfold State.lostEdge
  split
  · exact .of_same rfl rfl
  split
  · exact .of_same rfl rfl
  split
  · exact regain_recordsKept s
  · exact .of_same rfl rfl

/-! ### The requests -/

/-- The Link Port's requests. -/
theorem linkAnswers_recordsKept :
    ∀ act ∈ [answerSetGroup, answerSetReporting, answerReadLinkCounts, answerRestart],
      ∀ (r : Request) (s : State), (act r s).Leads (RecordsKept s) := by
  simp only [List.forall_mem_cons, List.not_mem_nil, false_implies, implies_true, and_true]
  and_intros
  all_goals
    intro r s
    simp only [answerSetGroup, answerSetReporting, answerReadLinkCounts, answerRestart]
    repeat' split
    all_goals first
      | exact Answer.leads_refused ..
      | exact RecordsKept.of_same rfl rfl

/-- SET SCAN INTERVAL judges the delay timer, not the records (09 R162). -/
theorem answerSetScanInterval_recordsKept (r : Request) (s : State) :
    (answerSetScanInterval r s).Leads (RecordsKept s) := by
  unfold answerSetScanInterval
  dsimp only
  split; · trivial
  split; · trivial
  exact .of_strain rfl id

theorem answerZeroGauges_recordsKept (r : Request) (s : State) :
    (answerZeroGauges r s).Leads (RecordsKept s) := by
  unfold answerZeroGauges
  split; · trivial
  split; · trivial
  split; · trivial
  refine (consult_recordsKept _).after (.of_same ?_ ?_) <;> rw [reserve_only]

/-- The Capture Unit is IDLE: no block is active and there is no stall (11 R192). -/
theorem not_isActive_of_idle {u : CaptureUnit} (h : u.state = .idle) (b : BlockId) :
    ¬ u.blocks[b].isActive := by
  cases active : u.active with
  | none => exact not_isActive_of_active active b
  | some c =>
    simp only [CaptureUnit.state, active] at h
    split at h <;> cases h

/-- CONFIGURE CAPTURE acts in IDLE alone, where the block that it starts is the only active one (11 R189). -/
theorem answerConfigureCapture_recordsKept (r : Request) (s : State) :
    (answerConfigureCapture r s).Leads (RecordsKept s) := by
  unfold answerConfigureCapture
  dsimp only
  split; · trivial
  split
  · split; · trivial
    rename_i idle
    have none := not_isActive_of_idle (not_not.mp idle)
    split
    · split; · trivial
      refine .of_capture rfl fun _ => startRecording_captureOk ?_ _
      exact none
    · exact .of_capture rfl fun _ => captureOk_of_none none
  · trivial

theorem answerTrigger_recordsKept (r : Request) (s : State) : (answerTrigger r s).Leads (RecordsKept s) := by
  unfold answerTrigger
  split; · trivial
  split; · trivial
  exact trigger_recordsKept s _

/-- A LOCKED block released; in a stall no block is active, and it is the one that records (11 R198, R200). -/
theorem freeLocked_captureOk {s : State} (h : CaptureOk s) (n : BlockId) : CaptureOk (s.freeLocked n) := by
  have inactive : ¬ Block.reset.isActive := by rintro (e | e) <;> cases e
  have freed : CaptureOk (s.setBlock n Block.reset) := setBlock_captureOk h n fun active => absurd active inactive
  unfold State.freeLocked
  dsimp only
  split
  · rename_i stalled
    refine startRecording_captureOk ?_ n
    exact freed.stall stalled
  · exact captureOk_of_fewer freed (fun _ => id) id

theorem answerReleaseBlock_recordsKept (r : Request) (s : State) :
    (answerReleaseBlock r s).Leads (RecordsKept s) := by
  have sq : ∀ n, (s.freeLocked n).sq = s.sq := by
    intro n
    unfold State.freeLocked
    dsimp only
    split <;> rfl
  unfold answerReleaseBlock
  dsimp only
  split; · trivial
  split; · trivial
  split
  · exact .of_capture (sq _) fun h => freeLocked_captureOk h _
  · rename_i recording
    exact .of_capture rfl fun h => setBlock_captureOk h _ fun _ => .inl recording
  · trivial
  · trivial

/-- A request of the gauge, crack and capture blocks that concerns neither the delay timer nor the blocks. -/
theorem BlockRequested.recordsKept {i : Instr} {s t : State} (h : BlockRequested i s t)
    (timer : i ≠ .setScanInterval) (blocks : i ∉ [Instr.configureCapture, .trigger, .releaseBlock]) :
    RecordsKept s t := .of_same (h.sq timer) (h.cu blocks)

/-- Every owner's answer keeps the records. -/
theorem requestArm_recordsKept {i : Instr} {p : Byte → Bool} {act : Request → State → Answer}
    (ha : requestArm i = some (p, act)) (r : Request) (s : State) : (act r s).Leads (RecordsKept s) := by
  have zone : i ∈ zoneWrites → (act r s).Leads (RecordsKept s) := fun hi =>
    (zoneWrites_acts hi ha r s).mono fun _ ⟨_, _, h⟩ => h.worksOn.only.recordsKept
  have block : (act r s).Leads (BlockRequested i s) → i ≠ .setScanInterval →
      i ∉ [Instr.configureCapture, .trigger, .releaseBlock] → (act r s).Leads (RecordsKept s) :=
    fun h timer blocks => h.mono fun _ k => k.recordsKept timer blocks
  cases i <;> cases ha
  case unknownKindRequest => trivial
  case identify | status | readTime => exact answerRead_leads (.refl s) _ r
  case setGroup | setReporting | readLinkCounts | restart => exact linkAnswers_recordsKept _ (by simp) r s
  case setTime => exact (answerSetTime_leads r s).mono fun _ h => h.1.recordsKept
  case setSyncRole => exact (answerSetSyncRole_leads r s).mono fun _ h => h.1.recordsKept
  case configureActuator => exact (answerConfigureActuator_leads r s).mono fun _ h => h.recordsKept
  case enableActuator => exact (answerEnableActuator_leads r s).mono fun _ h => h.recordsKept
  case disableActuator => exact (answerDisableActuator_leads r s).mono fun _ h => h.recordsKept
  case setDryRun => exact (answerSetDryRun_leads r s).mono fun _ h => h.recordsKept
  case loadSegments => exact (answerLoadSegments_leads r s).mono fun _ h => h.recordsKept
  case flushProgram => exact (answerFlushProgram_leads r s).mono fun _ h => h.recordsKept
  case clearFault => exact (answerClearFault_leads r s).mono fun _ h => h.recordsKept
  case readActuator => exact (answerReadActuator_leads r s).mono fun _ h => h.recordsKept
  case defineZone | setCycleRate | prepare | start | hold | resume | unload | release | resetCycleCount =>
    exact zone (by decide)
  case readZone => exact answerReadZone_leads r (.refl s)
  case readAlarms => exact answerReadAlarms_leads r (.refl s)
  case ackAlarm =>
    refine (answerAckAlarm_leads r s).mono fun t h => ?_
    rw [h.only]
    exact .of_same rfl rfl
  case setScanList => exact block (answerSetScanList_leads r s) (by decide) (by decide)
  case setScanInterval => exact answerSetScanInterval_recordsKept r s
  case bankReset => exact block (answerBankReset_leads r s) (by decide) (by decide)
  case writeTemplate => exact block (answerWriteTemplate_leads r s) (by decide) (by decide)
  case setDefaultProfile => exact block (answerSetDefaultProfile_leads r s) (by decide) (by decide)
  case validateTemplates => exact block (answerValidateTemplates_leads r s) (by decide) (by decide)
  case zeroGauges => exact answerZeroGauges_recordsKept r s
  case readGauges => exact block (answerReadGauges_leads r s) (by decide) (by decide)
  case setLimitRule => exact block (answerSetLimitRule_leads r s) (by decide) (by decide)
  case configureLoop => exact block (answerConfigureLoop_leads r s) (by decide) (by decide)
  case configureAe => exact block (answerConfigureAe_leads r s) (by decide) (by decide)
  case readCrackStatus => exact block (answerReadCrackStatus_leads r s) (by decide) (by decide)
  case configureCapture => exact answerConfigureCapture_recordsKept r s
  case trigger => exact answerTrigger_recordsKept r s
  case readCapture => exact block (answerReadCapture_leads r s) (by decide) (by decide)
  case releaseBlock => exact answerReleaseBlock_recordsKept r s
  case captureStatus => exact block (answerCaptureStatus_leads r s) (by decide) (by decide)

theorem request_recordsKept {i : Instr} {p : Byte → Bool} {act : Request → State → Answer}
    (ha : requestArm i = some (p, act)) {s t : State} (hs : exec i s = .next t) : RecordsKept s t := by
  have taken : RecordsKept s s.dequeued := .of_same rfl rfl
  obtain ⟨u, kept, frame⟩ := request_effect ha hs (RecordsKept s) (.refl s) taken fun r _ _ =>
    (requestArm_recordsKept ha r _).mono fun _ => taken.trans
  exact kept.trans frame.recordsKept

/-! ### The events and the step -/

theorem atExpiry_recordsKept (s : State) (x : Timer) {f : State → State} (hf : ∀ t, RecordsKept t (f t)) :
    RecordsKept s (s.atExpiry x f) :=
  atExpiry_keeps (RecordsKept s) s x f (.refl s) (fun _ => .of_same rfl rfl) fun t k => k.trans (hf t)

/-- A frame's end: a STRAIN frame's slice leaves the queue (09 R163). -/
theorem frameEnd_recordsKept (s : State) : RecordsKept s s.frameEnd := by
  unfold State.frameEnd
  split
  · exact .refl s
  dsimp only
  split
  · exact .of_strain rfl fun h => sliceSent_fits h _ _ _
  all_goals exact .of_same rfl rfl

theorem bankAnswer_recordsKept {s t : State} {b : BankId} {values : List Int}
    (hs : exec (.bankAnswer b values) s = .next t) : RecordsKept s t := by
  have set : ∀ x : Bank, RecordsKept s (s.setBank b x) := fun _ => .of_same rfl rfl
  simp only [exec, execBankAnswer] at hs
  split at hs
  · cases hs; exact (set _).trans (arbitrate_recordsKept _)
  split at hs
  · cases hs; exact (set _).trans (arbitrate_recordsKept _)
  split at hs
  · cases hs
    exact ((set _).trans (conversionEnd_recordsKept _ _ _ _)).trans (arbitrate_recordsKept _)
  · cases hs; exact (set _).trans (arbitrate_recordsKept _)

theorem bankTimeout_recordsKept {s t : State} {b : BankId} (hs : exec (.bankTimeout b) s = .next t) :
    RecordsKept s t := by
  cases hs
  refine atExpiry_recordsKept s _ fun t => ?_
  have counted : RecordsKept t (t.setBank b t.se.banks[b].timedOut) := .of_same rfl rfl
  split
  · exact .refl t
  · exact ((counted.trans (dropWaitingScan_recordsKept _ b)).trans (conversionEnd_recordsKept _ _ _ _)).trans
      (arbitrate_recordsKept _)

theorem freeScanExpiry_recordsKept {s t : State} (hs : exec .freeScanExpiry s = .next t) :
    RecordsKept s t := by
  cases hs
  refine atExpiry_recordsKept s _ fun t => ?_
  have set : ∀ e : ScanEngine, RecordsKept t { t with se := e } := fun _ => .of_same rfl rfl
  dsimp only
  split
  · exact set _
  · exact ((set _).trans (consult_recordsKept _)).trans (arbitrate_recordsKept _)

theorem loopSample_recordsKept {s t : State} {levels : BitVec 32}
    (hs : exec (.loopSample levels) s = .next t) : RecordsKept s t := by
  cases hs
  refine atExpiry_recordsKept s _ fun t => ?_
  have sampled : ∀ m : CrackMonitor, RecordsKept t { t with cm := m } := fun _ => .of_same rfl rfl
  dsimp only
  split
  · exact sampled _
  · exact ((sampled _).trans (raiseAll_recordsKept _ _)).trans (arbitrate_recordsKept _)

theorem aeHit_recordsKept {s t : State} {n : AeId} (hs : exec (.aeHit n) s = .next t) : RecordsKept s t := by
  simp only [exec, execAeHit] at hs
  split at hs
  · cases hs; exact .refl s
  split at hs
  · cases hs; exact .of_same rfl rfl
  split at hs <;> (cases hs; exact .of_same rfl rfl)

theorem feedbackArrival_recordsKept {s t : State} {a : ActId} {force stroke : Int} {status : DriveStatus}
    (hs : exec (.feedbackArrival a force stroke status) s = .next t) : RecordsKept s t := by
  have arrived : ∀ c : Channel, RecordsKept s (s.setChan a c) := fun _ => .of_same rfl rfl
  simp only [exec, execFeedbackArrival] at hs
  split at hs
  · cases hs
    exact ((arrived _).trans (memberFault_recordsKept _ a)).trans (arbitrate_recordsKept _)
  · cases hs; exact arrived _

/-- The events that make a strobe or concern the SYNC line (02 R27 to R30). -/
theorem strobes_recordsKept {i : Instr} (hi : i ∈ [Instr.oscillatorStrobe, .substituteStrobe, .syncEdge])
    {s t : State} (hs : exec i s = .next t) : RecordsKept s t := by
  have based : ∀ (u : State) (tb : TimeBase) (src : StrobeSource) (lost : Bool),
      RecordsKept u (arbitrate ({ u with tb }.strobe src lost)) := by
    intro u tb src lost
    have set : RecordsKept u { u with tb } := .of_same rfl rfl
    exact (set.trans (strobe_recordsKept _ _ _)).trans (arbitrate_recordsKept _)
  simp only [List.mem_cons, List.not_mem_nil, or_false] at hi
  rcases hi with rfl | rfl | rfl
  · simp only [exec, execOscillatorStrobe] at hs
    split at hs
    · cases hs; exact atExpiry_recordsKept s _ fun u => based u u.tb _ _
    · cases hs; exact .refl s
  · simp only [exec, execSubstituteStrobe] at hs
    split at hs
    · cases hs; exact .refl s
    · cases hs; exact atExpiry_recordsKept s _ fun u => based u _ _ _
  · simp only [exec, execSyncEdge] at hs
    split at hs
    · cases hs; exact .refl s
    · cases hs; exact .refl s
    split at hs
    · cases hs; exact (lostEdge_recordsKept s).trans (arbitrate_recordsKept _)
    split at hs
    · cases hs; exact .of_same rfl rfl
    · obtain rfl := Outcome.next.inj hs
      exact based s _ _ _

/-- Every command that is the taking of no request keeps the records. -/
theorem event_recordsKept {i : Instr} (ha : requestArm i = none) {s t : State} (hs : exec i s = .next t) :
    RecordsKept s t := by
  have line : LineEvent i → RecordsKept s t := fun hi => by
    rw [(lineEvent_effect hi hs).1]; exact .of_same rfl rfl
  cases i <;> cases ha
  case byteReceived b stop => exact line (.byte b stop)
  case gap => exact line .gap
  case lineBreak => exact line .brk
  case lineReturnsToMark => exact line .toMark
  case uplinkFrameEnd =>
    cases hs
    exact atExpiry_recordsKept s _ fun t => (frameEnd_recordsKept t).trans (arbitrate_recordsKept _)
  case restartEffect => cases hs; exact atExpiry_recordsKept s _ fun _ => .of_reset rfl rfl
  case reset addr => cases hs; exact .of_reset rfl rfl
  case oscillatorStrobe | substituteStrobe | syncEdge => exact strobes_recordsKept (by decide) hs
  case syncPulseEnd | regainRunTimeout | bankSettlingEnd =>
    cases hs; exact atExpiry_recordsKept s _ fun _ => .of_same rfl rfl
  case feedbackArrival => exact feedbackArrival_recordsKept hs
  case freeScanExpiry => exact freeScanExpiry_recordsKept hs
  case bankAnswer => exact bankAnswer_recordsKept hs
  case bankTimeout => exact bankTimeout_recordsKept hs
  case reportDelayRunOut =>
    cases hs
    refine atExpiry_recordsKept s _ fun t => (arbitrate_recordsKept _).after ?_
    exact .of_strain rfl id
  case loopSample => exact loopSample_recordsKept hs
  case aeHit => exact aeHit_recordsKept hs

theorem exec_recordsKept {i : Instr} {s t : State} (hs : exec i s = .next t) : RecordsKept s t := by
  cases ha : requestArm i with
  | some a => exact request_recordsKept ha hs
  | none => exact event_recordsKept ha hs

theorem step_recordsKept {s t : State} (hs : step s = .next t) : RecordsKept s t := by
  unfold step at hs
  split at hs
  · cases hs
    unfold State.tick
    split <;> exact .of_same rfl rfl
  · rename_i c rest _
    have queued : RecordsKept s { s with pending := rest } := .of_same rfl rfl
    exact queued.trans (exec_recordsKept hs)

/-- Settles O59: the oscillator's microsecond, and every command behind the queue's rest, keeps both. -/
theorem everyStepKeepsTheRecords : Obligations.EveryStepKeepsTheRecords := by
  intro s t hs
  obtain ⟨strain, capture⟩ := step_recordsKept hs
  exact ⟨strain, capture⟩

end Sys2Proof.Machine
end

section
/-! The Limit Watch: SET LIMIT RULE with its tests in order, and a rule at the completion of a scan (09 R166 to
R171, R173). -/

namespace Sys2Proof.Machine
open Host Statements

/-! ### The fields of a rule (09 R166, R167) -/

theorem LimitAction.ofCode_eq_some {v : Nat} {x : LimitAction} : LimitAction.ofCode v = some x ↔ v = x.code := by
  constructor
  · intro h
    unfold LimitAction.ofCode at h
    split at h <;> cases h <;> rfl
  · rintro rfl
    cases x <;> rfl

theorem LimitAction.exists_code {v : Nat} (h : v ≤ 2) : ∃ x : LimitAction, v = x.code := by
  rcases (by omega : v = 0 ∨ v = 1 ∨ v = 2) with rfl | rfl | rfl
  exacts [⟨.report, rfl⟩, ⟨.hold, rfl⟩, ⟨.unload, rfl⟩]

theorem LimitAction.code_le (x : LimitAction) : x.code ≤ 2 := by
  cases x <;> decide

/-- The order of the actions is that of their codes (09 R168). -/
theorem LimitAction.rank_eq_code (x : LimitAction) : x.rank = x.code := by
  cases x <;> rfl

theorem LimitMask.ofCode_eq_some {v : Nat} {m : LimitMask} : LimitMask.ofCode v = some m ↔
    1 ≤ v ∧ v ≤ 7 ∧ m = ⟨v.testBit 0, v.testBit 1, v.testBit 2⟩ := by
  rw [LimitMask.ofCode, Option.ite_none_right_eq_some, Bool.and_eq_true, decide_eq_true_eq, decide_eq_true_eq,
    and_assoc, Option.some.injEq, eq_comm (b := m)]

/-- The bytes of a payload hold a rule's number and its fields. -/
def LimitRuleOk (p : List Byte) : Prop :=
  field p 0 1 ≤ 31 ∧ field p 1 1 ≤ 1 ∧ -2000000 ≤ fieldI p 3 4 ∧ fieldI p 3 4 ≤ 2000000 ∧
  1 ≤ field p 7 1 ∧ field p 7 1 ≤ 7 ∧ 1 ≤ field p 8 1 ∧ field p 9 1 ≤ 2 ∧ field p 10 1 ≤ 3 ∧ field p 11 1 ≤ 1

/-- The rule that a payload holds, its counter 0 and its latch clear. -/
def ruleOf (p : List Byte) (gauge : GaugeId) (action : LimitAction) (z : ZoneId) : LimitRule :=
  ⟨field p 1 1 = 1, gauge, fieldI p 3 4,
    ⟨(field p 7 1).testBit 0, (field p 7 1).testBit 1, (field p 7 1).testBit 2⟩, field p 8 1, action, z,
    field p 11 1 = 1, 0, false⟩

theorem flag?_of_le {v : Nat} (h : v ≤ 1) : flag? v = some (decide (v = 1)) := by
  rcases (by omega : v = 0 ∨ v = 1) with rfl | rfl <;> rfl

section ReadRule
variable {p : List Byte}

/-- A rule is read from fields in their ranges alone. -/
theorem limitRuleOk_of_read {n : RuleId} {q : LimitRule} (number : field p 0 1 = n.val)
    (read : readRule p = some q) : LimitRuleOk p := by
  unfold readRule at read
  dsimp only at read
  split at read
  case h_2 => cases read
  rename_i enabled gauge mask action zone trip hEnabled _ hMask hAction hZone hTrip
  rw [flag?_eq_some] at hEnabled hTrip
  rw [LimitAction.ofCode_eq_some] at hAction
  rw [index?_eq_some] at hZone
  obtain ⟨maskLow, maskHigh, -⟩ := LimitMask.ofCode_eq_some.mp hMask
  rw [Option.ite_none_right_eq_some] at read
  simp only [Bool.and_eq_true, decide_eq_true_eq] at read
  obtain ⟨⟨⟨low, high⟩, persistence⟩, -⟩ := read
  refine ⟨?_, ?_, low, high, maskLow, maskHigh, persistence, ?_, ?_, ?_⟩
  · omega
  · rw [hEnabled]; exact enabled.toNat_le
  · rw [hAction]; exact action.code_le
  · omega
  · rw [hTrip]; exact trip.toNat_le

theorem readRule_of_ok (h : LimitRuleOk p) {gauge : GaugeId} {action : LimitAction} {z : ZoneId}
    (hGauge : field p 2 1 = gauge.val) (hAction : field p 9 1 = action.code) (hZone : field p 10 1 = z.val) :
    readRule p = some (ruleOf p gauge action z) := by
  obtain ⟨-, enabled, low, high, maskLow, maskHigh, persistence, -, -, trip⟩ := h
  unfold readRule
  rw [flag?_of_le enabled, index?_eq_some.mpr hGauge, LimitMask.ofCode_eq_some.mpr ⟨maskLow, maskHigh, rfl⟩,
    LimitAction.ofCode_eq_some.mpr hAction, index?_eq_some.mpr hZone, flag?_of_le trip]
  refine if_pos ?_
  simp only [Bool.and_eq_true, decide_eq_true_eq]
  exact ⟨⟨low, high⟩, persistence⟩

end ReadRule

/-! ### SET LIMIT RULE (09 R167, R168) -/

/-- What the protection keeps of a rule (09 R168). -/
theorem protectsRule_iff (s : State) (old new : LimitRule) : s.protectsRule old new = true ↔
    old.enabled = true ∧ (Busy s old.zone ∨ Busy s new.zone) ∧
      (new.enabled = false ∨ (Busy s old.zone ∧ new.zone ≠ old.zone) ∨ old.persistence < new.persistence ∨
        new.action.code < old.action.code) := by
  have busy (z : ZoneId) : (s.zone z).state.busy = true ↔ Busy s z := busy_iff _
  simp only [State.protectsRule, Bool.and_eq_true, Bool.or_eq_true, Bool.not_eq_true', decide_eq_true_eq, busy,
    LimitAction.rank_eq_code, and_assoc, or_assoc]

section SetLimitRule
variable {r : Request} (length : r.payload.length = 12)
include length

theorem answerSetLimitRule_range (h : ¬ LimitRuleOk r.payload) (s : State) :
    answerSetLimitRule r s = .no .range := by
  unfold answerSetLimitRule
  rw [if_neg (not_not.mpr length)]
  split
  · rename_i number read
    exact absurd (limitRuleOk_of_read (index?_eq_some.mp number) read) h
  · rfl

theorem answerSetLimitRule_read (h : LimitRuleOk r.payload) {n : RuleId} {gauge : GaugeId} {action : LimitAction}
    {z : ZoneId} (number : field r.payload 0 1 = n.val) (hGauge : field r.payload 2 1 = gauge.val)
    (hAction : field r.payload 9 1 = action.code) (hZone : field r.payload 10 1 = z.val) (s : State) :
    answerSetLimitRule r s =
      if s.protectsRule s.lw.rules[n] (ruleOf r.payload gauge action z) then .no .protect
      else .accepted (s.setRule n (ruleOf r.payload gauge action z)) (ruleItems n s.lw.rules[n]) := by
  unfold answerSetLimitRule
  rw [if_neg (not_not.mpr length), index?_eq_some.mpr number, readRule_of_ok h hGauge hAction hZone]
  rfl

end SetLimitRule

/-! ### A rule at the completion of a scan (09 R169 to R171) -/

section AtScan
variable {q : LimitRule} {l : List (GaugeId × Sample)}

/-- A rule that is disabled or latched, or whose gauge is not in the scan, is not looked at (09 R169). -/
theorem atScan_of_idle (h : q.enabled = false ∨ q.latched = true ∨ q.gauge ∉ l.map Prod.fst) :
    q.atScan l = q := by
  unfold LimitRule.atScan
  split
  case isFalse => rfl
  rename_i watched
  rw [Bool.and_eq_true, Bool.not_eq_true'] at watched
  obtain ⟨enabled, clear⟩ := watched
  have unlisted : q.gauge ∉ l.map Prod.fst := by
    rcases h with h | h | h
    · rw [h] at enabled; cases enabled
    · rw [h] at clear; cases clear
    · exact h
  have unfound : (l.find? fun y => y.1 = q.gauge) = none :=
    List.find?_eq_none.mpr fun y hy e => unlisted (of_decide_eq_true e ▸ List.mem_map_of_mem hy)
  rw [unfound]

/-- A rule that is looked at is evaluated on its gauge's first sample. -/
theorem atScan_of_sample {l₁ l₂ : List (GaugeId × Sample)} {x : Sample}
    (cut : l = l₁ ++ (q.gauge, x) :: l₂) (first : q.gauge ∉ l₁.map Prod.fst) (enabled : q.enabled = true)
    (clear : q.latched = false) : q.atScan l = q.evaluate x := by
  have before : ∀ y ∈ l₁, ¬ decide (y.1 = q.gauge) = true := fun y hy e =>
    first (of_decide_eq_true e ▸ List.mem_map_of_mem hy)
  have found : (l.find? fun y => y.1 = q.gauge) = some (q.gauge, x) := by
    rw [cut, List.find?_append, List.find?_eq_none.mpr before]
    simp
  unfold LimitRule.atScan
  rw [enabled, clear, found]
  rfl

end AtScan

section Evaluate
variable {q : LimitRule} {x : Sample}

/-- A sample with NO DATA or OPEN, which a rule does not compare (09 R170). -/
def Sample.Invalid (x : Sample) : Prop := x.flags.noData = true ∨ x.flags.opened = true

/-- The comparison that the condition mask selects (09 R169). -/
theorem holds_iff (m : LimitMask) (v threshold : Int) : m.holds v threshold = true ↔
    (v < threshold ∧ m.below = true) ∨ (v = threshold ∧ m.equal = true) ∨
      (threshold < v ∧ m.above = true) := by
  unfold LimitMask.holds
  rcases lt_trichotomy v threshold with h | h | h
  · simp [h, h.ne, h.not_gt]
  · simp [h]
  · simp [h, h.ne', h.not_gt]

theorem counts_of_invalid (h : x.Invalid) :
    q.counts x = if q.trip then some true else none := by
  rw [LimitRule.counts, if_pos (Bool.or_eq_true _ _ ▸ h)]

theorem counts_of_valid (h : ¬ x.Invalid) :
    q.counts x = some (q.mask.holds x.value q.threshold) := by
  rw [LimitRule.counts, if_neg (Bool.or_eq_true _ _ ▸ h)]

/-- The sample raises the rule's counter: invalid data under TRIP, or a value that the mask selects. -/
def LimitRule.Counts (q : LimitRule) (x : Sample) : Prop :=
  (x.Invalid ∧ q.trip = true) ∨ (¬ x.Invalid ∧
    ((x.value < q.threshold ∧ q.mask.below = true) ∨ (x.value = q.threshold ∧ q.mask.equal = true) ∨
      (q.threshold < x.value ∧ q.mask.above = true)))

/-- A rule's counter rises, and at its persistence the rule latches (09 R171). -/
theorem evaluate_of_counts (h : q.Counts x) : q.evaluate x =
    if q.persistence ≤ q.counter + 1 then { q with counter := 0, latched := true }
    else { q with counter := q.counter + 1 } := by
  have counts : q.counts x = some true := by
    rcases h with ⟨invalid, trip⟩ | ⟨valid, holds⟩
    · rw [counts_of_invalid invalid, trip]; rfl
    · rw [counts_of_valid valid, (holds_iff ..).mpr holds]
  rw [LimitRule.evaluate, counts]

/-- Invalid data without TRIP leaves the rule as it stands (09 R170). -/
theorem evaluate_of_ignored (h : x.Invalid) (trip : q.trip = false) :
    q.evaluate x = q := by
  rw [LimitRule.evaluate, counts_of_invalid h, trip]
  rfl

/-- A value that the mask does not select returns the counter to 0 (09 R169). -/
theorem evaluate_of_passes (h : ¬ x.Invalid) (passes : ¬ q.Counts x) :
    q.evaluate x = { q with counter := 0 } := by
  have counts : q.counts x = some false := by
    rw [counts_of_valid h, Option.some.injEq, ← Bool.not_eq_true, holds_iff]
    exact fun holds => passes (.inr ⟨h, holds⟩)
  rw [LimitRule.evaluate, counts]

end Evaluate

/-- Settles O49: the request's tests in order, then a rule by what its gauge's sample says. -/
theorem limitRuleRule : Obligations.LimitRuleRule := by
  refine ⟨fun s r head length => ⟨fun out => ?_, fun ok n z gauge action number zone hGauge code =>
    ⟨fun protects => ?_, fun free => ?_⟩⟩, fun q l => ⟨atScan_of_idle, fun l₁ x l₂ cut first enabled clear => ?_⟩⟩
  · exact exec_refused (i := .setLimitRule) rfl head (answerSetLimitRule_range length out _)
  · have read := answerSetLimitRule_read length ok number hGauge code zone s.dequeued
    exact exec_refused (i := .setLimitRule) rfl head
      (read.trans (if_pos ((protectsRule_iff s.dequeued _ _).mpr protects)))
  · have read := answerSetLimitRule_read length ok number hGauge code zone s.dequeued
    exact exec_accepted (i := .setLimitRule) rfl head
      (read.trans (if_neg (mt (protectsRule_iff s.dequeued _ _).mp free)))
  · rw [atScan_of_sample cut first enabled clear]
    refine ⟨fun counts short => ?_, fun counts reached => ?_, evaluate_of_ignored, evaluate_of_passes⟩
    · exact (evaluate_of_counts counts).trans (if_neg (Nat.not_le.mpr short))
    · exact (evaluate_of_counts counts).trans (if_pos reached)

end Sys2Proof.Machine
end

section
/-! The Crack Monitor's events: the samples of the loops with the raises of those that open, and the hits of the
acoustic-emission channels (10 R175, R176, R180, R181, R187; logs 8 and 12). -/

namespace Sys2Proof.Machine
open Host Statements

/-! ### One loop's sample (10 R175, R176) -/

section LoopSample
variable {l : LoopRecord} {level : LoopLevel} {hall : Nat}

/-- The sample differs from the accepted level for as many samples as the debounce asks (10 R176). -/
def LoopRecord.Changes (l : LoopRecord) (level : LoopLevel) : Prop :=
  level ≠ l.accepted ∧ l.debounce ≤ l.run + 1

theorem sample_of_accepted (h : level = l.accepted) :
    l.sample level hall = ({ l with latest := level, run := 0 }, false) := if_pos h

theorem sample_of_changes (h : l.Changes level) : l.sample level hall =
    ({ l with latest := level, accepted := level, run := 0, changed := true, lastChange := some hall },
      l.enabled && level = .opened) := (if_neg h.1).trans (if_pos h.2)

theorem sample_of_counts (differs : level ≠ l.accepted) (short : ¬ l.Changes level) :
    l.sample level hall = ({ l with latest := level, run := l.run + 1 }, false) :=
  (if_neg differs).trans (if_neg fun reached => short ⟨differs, reached⟩)

/-- A loop raises when it is enabled and its accepted level becomes OPEN. -/
theorem sample_raises_iff : (l.sample level hall).2 = true ↔
    l.Changes level ∧ level = .opened ∧ l.enabled = true := by
  by_cases changes : l.Changes level
  · rw [sample_of_changes changes, Bool.and_eq_true, decide_eq_true_eq]
    exact ⟨fun ⟨enabled, opened⟩ => ⟨changes, opened, enabled⟩, fun ⟨_, opened, enabled⟩ => ⟨enabled, opened⟩⟩
  · refine iff_of_false ?_ fun raises => changes raises.1
    by_cases agrees : level = l.accepted
    · rw [sample_of_accepted agrees]; exact Bool.false_ne_true
    · rw [sample_of_counts agrees changes]; exact Bool.false_ne_true

/-- A sample writes none of a loop's configuration. -/
theorem sample_fields : (l.sample level hall).1 = { l with
    latest := (l.sample level hall).1.latest, accepted := (l.sample level hall).1.accepted
    run := (l.sample level hall).1.run, changed := (l.sample level hall).1.changed
    lastChange := (l.sample level hall).1.lastChange } := by
  by_cases agrees : level = l.accepted
  · rw [sample_of_accepted agrees]
  by_cases changes : l.Changes level
  · rw [sample_of_changes changes]
  · rw [sample_of_counts agrees changes]

theorem sample_zone : (l.sample level hall).1.zone = l.zone := by rw [sample_fields]

theorem sample_severity : (l.sample level hall).1.severity = l.severity := by rw [sample_fields]

end LoopSample

/-! ### LOOP_SAMPLE (10 R175, R176, R187) -/

section LoopSamples
variable (t : State) (levels : BitVec 32)

/-- What every loop's sample makes of it, and whether it raises. -/
def State.loopSamples : Vector (LoopRecord × Bool) 32 :=
  tabMap (fun n (l : LoopRecord) => l.sample (LoopLevel.ofBit (levels.getLsbD n)) t.hall) t.cm.loops

theorem loopSamples_get (n : LoopId) : (t.loopSamples levels)[n] =
    t.cm.loops[n].sample (LoopLevel.ofBit (levels.getLsbD n)) t.hall := tabMap_get ..

/-- The part with every loop sampled, before the raises. -/
def State.loopsSampled : State := { t with cm := { t.cm with
  loops := tabMap (fun _ (x : LoopRecord × Bool) => x.1) (t.loopSamples levels)
  nextSampleAt := t.cm.nextSampleAt + 1000 } }

theorem loopsSampled_loop (n : LoopId) : (t.loopsSampled levels).cm.loops[n] =
    (t.cm.loops[n].sample (LoopLevel.ofBit (levels.getLsbD n)) t.hall).1 :=
  (tabMap_get ..).trans (congrArg Prod.fst (loopSamples_get t levels n))

/-- The loops that open, in ascending order. -/
def State.loopsOpening : List LoopId := tabFilter (fun _ (x : LoopRecord × Bool) => x.2) (t.loopSamples levels)

theorem mem_loopsOpening {n : LoopId} : n ∈ t.loopsOpening levels ↔
    t.cm.loops[n].Changes (LoopLevel.ofBit (levels.getLsbD n)) ∧
      LoopLevel.ofBit (levels.getLsbD n) = .opened ∧ t.cm.loops[n].enabled = true := by
  rw [State.loopsOpening, tabFilter, List.mem_filter, loopSamples_get, sample_raises_iff]
  exact and_iff_right (List.mem_finRange n)

/-- The LOOP raise of a loop, stamped between strobes (06 R118). -/
def State.loopRaise (n : LoopId) : Raise := t.raiseNow (.loop n) t.cm.loops[n].zone t.cm.loops[n].severity

/-- The samples leave what a LOOP raise says. -/
theorem loopsSampled_loopRaise (n : LoopId) : (t.loopsSampled levels).loopRaise n = t.loopRaise n := by
  rw [State.loopRaise, loopsSampled_loop, sample_zone, sample_severity]
  rfl

/-- LOOP_SAMPLE at the moment its timer runs out: every loop sampled, then the raises of those that open. -/
theorem exec_loopSample {s : State} (h : s.expire .loop = some t) :
    exec (.loopSample levels) s = .next (
      if (t.loopsOpening levels).isEmpty then t.loopsSampled levels
      else arbitrate ((t.loopsSampled levels).raiseAll ((t.loopsOpening levels).map t.loopRaise))) := by
  rw [← funext (loopsSampled_loopRaise t levels)]
  exact congrArg Outcome.next (atExpiry_some s t .loop _ h)

variable {t levels}

theorem exec_loopSample_quiet {s : State} (h : s.expire .loop = some t) (quiet : t.loopsOpening levels = []) :
    exec (.loopSample levels) s = .next (t.loopsSampled levels) :=
  (exec_loopSample t levels h).trans (congrArg Outcome.next (if_pos (List.isEmpty_iff.mpr quiet)))

theorem exec_loopSample_raises {s : State} (h : s.expire .loop = some t) (opens : t.loopsOpening levels ≠ []) :
    exec (.loopSample levels) s = .next (arbitrate
      (((t.loopsSampled levels).inOrder (t.loopsOpening levels)).map t.loopRaise |>.foldl State.raise
        (t.loopsSampled levels).bumpFree)) := by
  rw [exec_loopSample t levels h, if_neg (mt List.isEmpty_iff.mp opens), State.raiseAll, inOrder_map]

/-- The raises leave the Crack Monitor as the samples left it. -/
theorem exec_loopSample_cm {s : State} (h : s.expire .loop = some t) :
    ∃ u, exec (.loopSample levels) s = .next u ∧ u.cm = (t.loopsSampled levels).cm := by
  refine ⟨_, exec_loopSample t levels h, ?_⟩
  split
  · rfl
  · rw [arbitrate_cm, (raiseAll_inner _ _).cm]

end LoopSamples

/-! ### Hits (10 R180, R181) -/

section Hits
variable {s : State} {ch : AeId} {e : AeRecord}

/-- A hit at the moment `now` falls within the lockout of the last accepted one (10 R180). -/
theorem lockedAt_iff {now : Nat} : e.lockedAt now = true ↔
    ∃ h, e.lastHit = some h ∧ now - h.moment < e.lockout := by
  unfold AeRecord.lockedAt
  cases e.lastHit with
  | none => exact iff_of_false Bool.false_ne_true nofun
  | some h => simp only [decide_eq_true_eq, Option.some.injEq, exists_eq_left']

/-- The correlation window lies between its ends, or outside them where it begins after its end (10 R181). -/
theorem inWindow_iff {i : Nat} : e.inWindow i = true ↔
    (e.winStart ≤ e.winEnd ∧ e.winStart ≤ i ∧ i ≤ e.winEnd) ∨
      (e.winEnd < e.winStart ∧ (e.winStart ≤ i ∨ i ≤ e.winEnd)) := by
  unfold AeRecord.inWindow
  split
  · rw [Bool.and_eq_true, decide_eq_true_eq, decide_eq_true_eq]; omega
  · rw [Bool.or_eq_true, decide_eq_true_eq, decide_eq_true_eq]; omega

theorem hitIndex_of_latest {z : ZoneId} {n : Nat} (h : (s.zone z).latestN = some n) :
    s.hitIndex z = n * (s.zone z).inc % 2 ^ 32 / 2 ^ 22 := by
  rw [State.hitIndex, h]
  rfl

/-- The hits of a zone's channels are correlated: its clock runs, and a member was cycling at its latest update
(10 R181). -/
def State.Correlated (s : State) (z : ZoneId) : Prop := (s.zone z).clockRunning = true ∧ Cycling s z

/-- The model's test of a hit for the count of the current cycle. -/
theorem countsHit_iff : ((s.zone e.zone).clockRunning && s.cyclingIn e.zone &&
    e.inWindow (s.hitIndex e.zone)) = true ↔
      s.Correlated e.zone ∧ e.inWindow (s.hitIndex e.zone) = true := by
  rw [Bool.and_eq_true, Bool.and_eq_true, cyclingIn_iff, State.Correlated]

/-- The part after an accepted hit that leaves the count of the current cycle at `cycle` (10 R180). -/
def State.hitAccepted (s : State) (ch : AeId) (cycle : Nat) : State :=
  s.bumpFree.setAe ch { s.cm.aes[ch] with
    total := min (s.cm.aes[ch].total + 1) 4294967295, lastHit := some ⟨s.osc, s.hall⟩, cycle }

theorem exec_aeHit_disabled (h : s.cm.aes[ch].enabled = false) : exec (.aeHit ch) s = .next s :=
  if_pos (by rw [h]; rfl)

section Enabled
variable (on : s.cm.aes[ch].enabled = true)
include on

theorem exec_aeHit_locked (locked : s.cm.aes[ch].lockedAt s.osc = true) : exec (.aeHit ch) s =
    .next (s.setAe ch { s.cm.aes[ch] with lockedOut := min (s.cm.aes[ch].lockedOut + 1) 65535 }) :=
  (if_neg (by rw [on]; decide)).trans (if_pos locked)

variable (free : ¬ s.cm.aes[ch].lockedAt s.osc = true)
include free

theorem exec_aeHit_counted (correlated : s.Correlated s.cm.aes[ch].zone)
    (inside : s.cm.aes[ch].inWindow (s.hitIndex s.cm.aes[ch].zone) = true) :
    exec (.aeHit ch) s = .next (s.hitAccepted ch (min (s.cm.aes[ch].cycle + 1) 65535)) :=
  (if_neg (by rw [on]; decide)).trans
    ((if_neg free).trans (if_pos (countsHit_iff.mpr ⟨correlated, inside⟩)))

theorem exec_aeHit_uncounted (h : ¬ (s.Correlated s.cm.aes[ch].zone ∧
    s.cm.aes[ch].inWindow (s.hitIndex s.cm.aes[ch].zone) = true)) :
    exec (.aeHit ch) s = .next (s.hitAccepted ch s.cm.aes[ch].cycle) :=
  (if_neg (by rw [on]; decide)).trans ((if_neg free).trans (if_neg (mt countsHit_iff.mp h)))

end Enabled
end Hits

/-! ### The rule -/

/-- Settles O50: the sampled loops and the raises of those that open, then a hit by its lockout, its correlation
and its window. -/
theorem crackEventsRule : Obligations.CrackEventsRule := by
  refine ⟨fun s t levels expires => ?_, fun s ch => ⟨exec_aeHit_disabled,
    fun on locked => exec_aeHit_locked on (lockedAt_iff.mpr locked), fun on free unrelated => ?_,
    fun on free correlated => ?_⟩⟩
  · intro level c changes opens
    have opening : ∀ n, n ∈ t.loopsOpening levels ↔ opens n := fun _ => mem_loopsOpening t levels
    refine ⟨(t.loopsSampled levels).cm, rfl, rfl, fun n => ⟨fun agrees => ?_, fun differs short => ?_,
      fun reached => ?_⟩, exec_loopSample_cm expires, fun quiet => ?_, fun ⟨n, first⟩ => ?_⟩
    · rw [loopsSampled_loop]
      exact congrArg Prod.fst (sample_of_accepted agrees)
    · rw [loopsSampled_loop]
      exact congrArg Prod.fst (sample_of_counts differs short)
    · rw [loopsSampled_loop]
      exact congrArg Prod.fst (sample_of_changes reached)
    · exact exec_loopSample_quiet expires
        (List.eq_nil_iff_forall_not_mem.mpr fun n => mt (opening n).mp (quiet n))
    · -- A stamp depends on the zone alone, not on the loop.
      have order := inOrder_perm (t.loopsSampled levels) (t.loopsOpening levels)
      refine ⟨fun z => (t.raiseNow (.loop 0) z .info).cycle, _, fun z => raiseNow_stamps t _ z _,
        order.nodup_iff.mpr (nodup_of_tabFilter _ _), fun n => order.mem_iff.trans (opening n), ?_⟩
      exact exec_loopSample_raises expires (List.ne_nil_of_mem ((opening n).mpr first))
  · exact exec_aeHit_uncounted on (mt lockedAt_iff.mp free) fun counts => unrelated counts.1
  · have unlocked := mt lockedAt_iff.mp free
    refine ⟨fun n latest => ⟨fun inside => ?_, fun outside => ?_⟩, fun _ => ?_⟩
    · refine exec_aeHit_counted on unlocked correlated (inWindow_iff.mpr ?_)
      rwa [hitIndex_of_latest latest]
    · refine exec_aeHit_uncounted on unlocked fun counts => outside ?_
      rw [← hitIndex_of_latest latest]
      exact inWindow_iff.mp counts.2
    · by_cases inside : s.cm.aes[ch].inWindow (s.hitIndex s.cm.aes[ch].zone) = true
      · exact .inl (exec_aeHit_counted on unlocked correlated inside)
      · exact .inr (exec_aeHit_uncounted on unlocked fun counts => inside counts.2)

end Sys2Proof.Machine
end

section
/-! The Crack Monitor's requests: CONFIGURE LOOP and CONFIGURE AE with their tests in order, and READ CRACK STATUS
(10 R177, R178, R185, R186; 12 R205). -/

namespace Sys2Proof.Machine
open Host Statements

/-! ### Severities and protection (10 R178) -/

theorem Severity.ofCode_eq_some {v : Nat} {x : Severity} : Severity.ofCode v = some x ↔ v = x.code := by
  constructor
  · intro h
    unfold Severity.ofCode at h
    split at h <;> cases h <;> rfl
  · rintro rfl
    cases x <;> rfl

theorem Severity.code_bounds (x : Severity) : 1 ≤ x.code ∧ x.code ≤ 3 := by
  cases x <;> decide

/-- Only INFO has the code 1. -/
theorem Severity.code_eq_one {x : Severity} : x.code = 1 ↔ x = .info := by
  cases x <;> decide

/-- The order of the severities is that of their codes. -/
theorem Severity.rank_eq_code (x : Severity) : x.rank = x.code := by
  cases x <;> rfl

/-- What the protection keeps of a watch that is enabled, in zone `y` and of severity `old`, from a change to
zone `z` and severity `new` (10 R178). -/
def Protects (s : State) (was now : Bool) (y z : ZoneId) (old new : Severity) (weaker : Prop) : Prop :=
  was = true ∧ (Busy s y ∨ Busy s z) ∧
    (now = false ∨ (Busy s y ∧ z ≠ y) ∨ new.code < old.code ∨ weaker)

theorem protects_iff {s : State} {was now : Bool} {y z : ZoneId} {old new : Severity} {a b : Nat} :
    s.protects was now y z old new (a < b) = true ↔ Protects s was now y z old new (a < b) := by
  have busy (z : ZoneId) : s.zoneBusy z = true ↔ Busy s z := busy_iff _
  simp only [State.protects, Protects, Bool.and_eq_true, Bool.or_eq_true, Bool.not_eq_true', decide_eq_true_eq,
    busy, Severity.rank_eq_code, and_assoc, or_assoc]

/-! ### CONFIGURE LOOP (10 R177) -/

/-- The fields of CONFIGURE LOOP are in their ranges. -/
def LoopConfigOk (p : List Byte) : Prop := field p 0 1 ≤ 31 ∧ field p 1 1 ≤ 1 ∧ field p 2 1 ≤ 3 ∧
  (field p 3 1 = 2 ∨ field p 3 1 = 3) ∧ 1 ≤ field p 4 1

theorem configure_eq {l : LoopRecord} {enabled : Bool} {z : ZoneId} {v : Severity} {debounce : Nat} :
    l.configure enabled z v debounce =
      if l.enabled = false ∧ enabled = true then { l with
        enabled, zone := z, severity := v, debounce, accepted := l.latest, run := 0 }
      else { l with enabled, zone := z, severity := v, debounce } :=
  if_congr (by rw [Bool.and_eq_true, Bool.not_eq_true']) rfl rfl

section ConfigureLoop
variable {r : Request} (length : r.payload.length = 5)
include length

theorem answerConfigureLoop_range (h : ¬ LoopConfigOk r.payload) (s : State) :
    answerConfigureLoop r s = .no .range := by
  unfold answerConfigureLoop
  dsimp only
  rw [if_neg (not_not.mpr length)]
  split
  case h_2 => rfl
  rename_i n enabled z v number flag zone code
  refine if_pos ?_
  rw [Bool.or_eq_true, decide_eq_true_eq, decide_eq_true_eq, ← Severity.code_eq_one]
  rw [index?_eq_some] at number zone
  rw [flag?_eq_some] at flag
  rw [Severity.ofCode_eq_some] at code
  have low := enabled.toNat_le
  have bounds := v.code_bounds
  unfold LoopConfigOk at h
  omega

theorem answerConfigureLoop_read (h : LoopConfigOk r.payload) {n : LoopId} {z : ZoneId} {v : Severity}
    (number : field r.payload 0 1 = n.val) (zone : field r.payload 2 1 = z.val)
    (code : field r.payload 3 1 = v.code) (s : State) :
    let l := s.cm.loops[n]
    let m := l.configure (field r.payload 1 1 = 1) z v (field r.payload 4 1)
    answerConfigureLoop r s =
      if s.protects l.enabled (field r.payload 1 1 = 1) l.zone z l.severity v (l.debounce < field r.payload 4 1)
      then .no .protect
      else .accepted (s.setLoop n m) (l.encFields ++ encN 1 m.accepted.code) := by
  obtain ⟨-, flag, -, severity, debounce⟩ := h
  intro l m
  unfold answerConfigureLoop
  rw [if_neg (not_not.mpr length), index?_eq_some.mpr number, flag?_of_le flag, index?_eq_some.mpr zone,
    Severity.ofCode_eq_some.mpr code]
  refine if_neg ?_
  rw [Bool.or_eq_true, decide_eq_true_eq, decide_eq_true_eq, ← Severity.code_eq_one]
  omega

end ConfigureLoop

/-! ### CONFIGURE AE (10 R185) -/

/-- The fields of CONFIGURE AE are in their ranges. -/
def AeConfigOk (p : List Byte) : Prop := field p 0 1 ≤ 7 ∧ field p 1 1 ≤ 1 ∧ field p 2 1 ≤ 3 ∧
  1 ≤ field p 3 1 ∧ field p 3 1 ≤ 3 ∧ 10 ≤ field p 4 2 ∧ field p 4 2 ≤ 10000 ∧ field p 6 2 ≤ 1023 ∧
  field p 8 2 ≤ 1023 ∧ 1 ≤ field p 10 1 ∧ field p 10 1 ≤ 64 ∧ 1 ≤ field p 11 2

/-- The channel that a payload configures, its counts 0, its ring empty and no hit remembered. -/
def aeOf (p : List Byte) (z : ZoneId) (v : Severity) : AeRecord :=
  ⟨field p 1 1 = 1, z, v, field p 4 2, field p 6 2, field p 8 2, field p 10 1, field p 11 2, 0, 0, 0, [], none⟩

section ConfigureAe
variable {r : Request} (length : r.payload.length = 13)
include length

theorem answerConfigureAe_range (h : ¬ AeConfigOk r.payload) (s : State) :
    answerConfigureAe r s = .no .range := by
  unfold answerConfigureAe
  dsimp only
  rw [if_neg (not_not.mpr length)]
  split
  case h_2 => rfl
  rename_i n enabled z v number flag zone code
  refine if_pos ?_
  simp only [Bool.or_eq_true, decide_eq_true_eq]
  rw [index?_eq_some] at number zone
  rw [flag?_eq_some] at flag
  rw [Severity.ofCode_eq_some] at code
  have low := enabled.toNat_le
  have bounds := v.code_bounds
  unfold AeConfigOk at h
  omega

theorem answerConfigureAe_read (h : AeConfigOk r.payload) {n : AeId} {z : ZoneId} {v : Severity}
    (number : field r.payload 0 1 = n.val) (zone : field r.payload 2 1 = z.val)
    (code : field r.payload 3 1 = v.code) (s : State) :
    let e := s.cm.aes[n]
    answerConfigureAe r s =
      if s.protects e.enabled (field r.payload 1 1 = 1) e.zone z e.severity v (e.threshold < field r.payload 11 2)
      then .no .protect
      else .accepted (s.setAe n (aeOf r.payload z v))
        (e.encFields ++ encN 4 e.total ++ encN 2 e.cycle ++ encN 4 e.ring.sum) := by
  obtain ⟨-, flag, -, -, -, lockLow, lockHigh, winStart, winEnd, ringLow, ringHigh, threshold⟩ := h
  intro e
  unfold answerConfigureAe
  rw [if_neg (not_not.mpr length), index?_eq_some.mpr number, flag?_of_le flag, index?_eq_some.mpr zone,
    Severity.ofCode_eq_some.mpr code]
  refine if_neg ?_
  simp only [Bool.or_eq_true, decide_eq_true_eq]
  omega

end ConfigureAe

/-! ### READ CRACK STATUS (10 R186) -/

theorem clearChanges_loop (s : State) (n : LoopId) :
    s.clearChanges.cm.loops[n] = { s.cm.loops[n] with changed := false } := tabMap_get ..

/-- The items of every loop and of every channel, in order. -/
theorem crackStatus_eq (s : State) (named : Option AeId) : s.crackStatus named =
    ((List.finRange 32).map fun n => s.cm.loops[n].enc).flatten ++
      ((List.finRange 8).map fun n => s.cm.aes[n].enc).flatten ++
      named.elim [] fun n => encN 1 s.cm.aes[n].ring.length ++ (s.cm.aes[n].ring.map (encN 2)).flatten := by
  cases named with
  | none => simp only [State.crackStatus, toList_map_eq_finRange, Option.elim_none]
  | some n => simp only [State.crackStatus, toList_map_eq_finRange, encList_map, Option.elim_some]

section ReadCrackStatus
variable {r : Request} (length : r.payload.length = 2)
include length

theorem answerReadCrackStatus_range (s : State)
    (h : 1 < field r.payload 0 1 ∨ (field r.payload 0 1 = 1 ∧ 7 < field r.payload 1 1)) :
    answerReadCrackStatus r s = .no .range := by
  unfold answerReadCrackStatus
  rw [if_neg (not_not.mpr length)]
  rcases h with flag | ⟨flag, number⟩
  · rw [flag?_eq_none.mpr flag]
  · rw [flag?_of_eq true flag, index?_eq_none.mpr (Nat.succ_le_of_lt number)]

theorem answerReadCrackStatus_all (h : field r.payload 0 1 = 0) (s : State) :
    answerReadCrackStatus r s = .accepted s.clearChanges (s.crackStatus none) := by
  unfold answerReadCrackStatus
  rw [if_neg (not_not.mpr length), flag?_of_eq false h]

theorem answerReadCrackStatus_named {n : AeId} (h : field r.payload 0 1 = 1)
    (number : field r.payload 1 1 = n.val) (s : State) : answerReadCrackStatus r s = .accepted s.clearChanges (s.crackStatus (some n)) := by
  unfold answerReadCrackStatus
  rw [if_neg (not_not.mpr length), flag?_of_eq true h, index?_eq_some.mpr number]

end ReadCrackStatus

/-! ### The rule -/

/-- Settles O51: each request by its tests in order. -/
theorem crackRequests : Obligations.CrackRequests := by
  intro s r p d protects enabled settings
  refine ⟨fun head length => ⟨fun out => ?_, fun ok n z v number zone code => ⟨fun shut => ?_, fun free => ?_⟩⟩,
    fun head length => ⟨fun out => ?_, fun ok n z v number zone code => ⟨fun shut => ?_, fun free => ?_⟩⟩,
    fun head length => ⟨fun out => ?_, d.clearChanges, clearChanges_loop d, rfl, rfl, rfl, fun all => ?_,
      fun n named number => ?_⟩⟩
  · exact exec_refused (i := .configureLoop) rfl head (answerConfigureLoop_range length out d)
  · exact exec_refused (i := .configureLoop) rfl head
      ((answerConfigureLoop_read length ok number zone code d).trans (if_pos (protects_iff.mpr shut)))
  · refine exec_accepted (i := .configureLoop) rfl head
      ((answerConfigureLoop_read length ok number zone code d).trans
        ((if_neg (mt protects_iff.mp free)).trans ?_))
    rw [configure_eq]
    rfl
  · exact exec_refused (i := .configureAe) rfl head (answerConfigureAe_range length out d)
  · exact exec_refused (i := .configureAe) rfl head
      ((answerConfigureAe_read length ok number zone code d).trans (if_pos (protects_iff.mpr shut)))
  · exact exec_accepted (i := .configureAe) rfl head
      ((answerConfigureAe_read length ok number zone code d).trans (if_neg (mt protects_iff.mp free)))
  · exact exec_refused (i := .readCrackStatus) rfl head (answerReadCrackStatus_range length d out)
  · have read := answerReadCrackStatus_all length all d
    rw [crackStatus_eq, Option.elim_none, List.append_nil] at read
    exact exec_accepted (i := .readCrackStatus) rfl head read
  · have read := answerReadCrackStatus_named length named number d
    rw [crackStatus_eq, Option.elim_some, ← List.append_assoc] at read
    exact exec_accepted (i := .readCrackStatus) rfl head read

end Sys2Proof.Machine
end

section
/-! What the Capture Unit's shared operations do: its state, the block that it finds active, a trigger, and a
block that enters RECORDING (11 R192, R193, R196). -/

namespace Sys2Proof.Machine
open Host Statements

/-! ### The active block and the unit's state (11 R192) -/

/-- No block is RECORDING or POST, and the unit does not stall. -/
def CaptureUnit.Rests (u : CaptureUnit) : Prop := u.stalled = false ∧ ∀ b : BlockId, ¬ u.blocks[b].isActive

theorem captureState_of_none {u : CaptureUnit} (h : u.active = none) :
    u.state = if u.stalled then .stalled else .idle := by
  simp only [CaptureUnit.state, h]

theorem captureState_idle_iff (u : CaptureUnit) : u.state = .idle ↔ u.Rests := by
  constructor
  · intro idle
    have inactive := not_isActive_of_idle idle
    rw [captureState_of_none (active_eq_none inactive)] at idle
    refine ⟨Bool.eq_false_iff.mpr fun stalled => ?_, inactive⟩
    rw [if_pos stalled] at idle
    cases idle
  · rintro ⟨running, inactive⟩
    rw [captureState_of_none (active_eq_none inactive), running]
    rfl

theorem lowestFree_eq_some {u : CaptureUnit} {b : BlockId} : u.lowestFree = some b ↔
    u.blocks[b].state = .free ∧ ∀ c : BlockId, c < b → u.blocks[c].state ≠ .free := by
  rw [CaptureUnit.lowestFree, ← Fin.find?_eq_find?_finRange, Fin.find?_eq_some_iff, decide_eq_true_iff]
  exact and_congr_right fun _ => forall₂_congr fun c _ => decide_eq_false_iff_not

theorem lowestFree_eq_none {u : CaptureUnit} : u.lowestFree = none ↔ ∀ b : BlockId, u.blocks[b].state ≠ .free := by
  rw [CaptureUnit.lowestFree, ← Fin.find?_eq_find?_finRange, Fin.find?_eq_none_iff]
  exact forall_congr' fun b => decide_eq_false_iff_not

section
variable {s : State} {b : BlockId}

/-- Of at most one active block, the unit finds that one. -/
theorem active_of_captureOk (ok : CaptureOk s) (active : s.cu.blocks[b].isActive) : s.cu.active = some b :=
  active_eq_some active fun c lower other => lower.ne (ok.one c b other active)

theorem running_of_captureOk (ok : CaptureOk s) (active : s.cu.blocks[b].isActive) : s.cu.stalled = false :=
  Bool.eq_false_iff.mpr fun stalled => ok.stall stalled b active

/-- A write to a block that is active neither before nor after leaves the unit's state. -/
theorem captureState_setBlock {x : Block} (ok : CaptureOk s) (was : ¬ s.cu.blocks[b].isActive) (is : ¬ x.isActive) :
    (s.setBlock b x).cu.state = s.cu.state := by
  have kept : CaptureOk (s.setBlock b x) := setBlock_captureOk ok b fun active => absurd active is
  have others {c : BlockId} (other : c ≠ b) : (s.setBlock b x).cu.blocks[c] = s.cu.blocks[c] :=
    (setBlock_block s b c x).trans (if_neg other)
  by_cases some : ∃ c : BlockId, s.cu.blocks[c].isActive
  · obtain ⟨c, active⟩ := some
    have same := others (c := c) fun e => was (e ▸ active)
    have active' : (s.setBlock b x).cu.blocks[c].isActive := same ▸ active
    have found := active_of_captureOk ok active
    have found' := active_of_captureOk kept active'
    rcases active with recording | post
    · rw [captureState_of_recording found recording, captureState_of_recording found' (same ▸ recording)]
    · rw [captureState_of_post found post, captureState_of_post found' (same ▸ post)]
  · have none := not_exists.mp some
    have none' (c : BlockId) : ¬ (s.setBlock b x).cu.blocks[c].isActive := by
      rw [setBlock_block]
      split
      · exact is
      · exact none c
    rw [captureState_of_none (active_eq_none none), captureState_of_none (active_eq_none none')]
    rfl

/-! ### A block enters RECORDING (11 R193) -/

/-- Outside a stall nothing but the block changes. -/
theorem startRecording_of_running (running : s.cu.stalled = false) (b : BlockId) :
    s.startRecording b = s.setBlock b (Block.recordingUnder s.cu.cfg) := by
  unfold State.startRecording
  rw [← running]
  rfl

theorem captureState_startRecording (inactive : ∀ c : BlockId, ¬ s.cu.blocks[c].isActive) (b : BlockId) :
    (s.startRecording b).cu.state = .recording := by
  have recording : (s.startRecording b).cu.blocks[b].state = .recording := by
    show (s.setBlock b _).cu.blocks[b].state = _
    rw [setBlock_block, if_pos rfl]
    rfl
  have found := active_of_captureOk (startRecording_captureOk inactive b) (.inl recording)
  exact captureState_of_recording found recording

/-! ### Triggers (11 R196) -/

theorem trigger_of_recording (found : s.cu.active = some b) (recording : s.cu.blocks[b].state = .recording)
    (x : Trigger) : s.trigger x = s.setBlock b { s.cu.blocks[b] with
      state := .post, trigger := some x, preHeld := s.cu.blocks[b].frames.length } := by
  unfold State.trigger
  rw [found]
  exact if_pos recording

theorem trigger_of_post (found : s.cu.active = some b) (post : s.cu.blocks[b].state = .post) (x : Trigger) :
    s.trigger x = s.setBlock b { s.cu.blocks[b] with further := min (s.cu.blocks[b].further + 1) 65535 } := by
  unfold State.trigger
  rw [found]
  exact if_neg fun recording => by rw [post] at recording; cases recording

theorem trigger_of_stalled (none : s.cu.active = none) (stalled : s.cu.stalled = true) (x : Trigger) :
    s.trigger x = { s with cu := { s.cu with missed := min (s.cu.missed + 1) 65535 } } := by
  unfold State.trigger
  rw [none]
  exact if_pos stalled

theorem trigger_of_idle (none : s.cu.active = none) (running : s.cu.stalled = false) (x : Trigger) :
    s.trigger x = s := by
  unfold State.trigger
  rw [none]
  exact if_neg (Bool.eq_false_iff.mp running)

end

end Sys2Proof.Machine
end

section
/-! The Capture Unit's requests: CONFIGURE CAPTURE, TRIGGER, READ CAPTURE and RELEASE BLOCK, each by its tests in
order (11 R189, R195, R196, R198 to R200; 12 R205). -/

namespace Sys2Proof.Machine
open Host Statements

/-! ### CONFIGURE CAPTURE (11 R189) -/

theorem answerConfigureCapture_malformed {r : Request} (length : r.payload.length ≠ 7 + 2 * field r.payload 0 1)
    (s : State) : answerConfigureCapture r s = .no .malformed :=
  if_pos (by omega)

section ConfigureCapture
variable {r : Request} (length : r.payload.length = 7 + 2 * field r.payload 0 1)
include length

theorem configureCapture_length : r.payload.length = 1 + 2 * field r.payload 0 1 + 6 := by omega

theorem answerConfigureCapture_range (s : State) (h : readCapture r.payload (field r.payload 0 1) = none ∨
    1 < field r.payload (6 + 2 * field r.payload 0 1) 1) : answerConfigureCapture r s = .no .range := by
  have place : 6 + 2 * field r.payload 0 1 = 1 + 2 * field r.payload 0 1 + 5 := by omega
  rw [place, ← flag?_eq_none] at h
  unfold answerConfigureCapture
  dsimp only
  rw [if_neg (not_not.mpr (configureCapture_length length))]
  split
  · rename_i fields start
    rw [fields, start] at h
    rcases h with h | h <;> cases h
  · rfl

variable {cfg : CaptureConfig} (fields : readCapture r.payload (field r.payload 0 1) = some cfg) {s : State}
include fields

/-- CONFIGURE CAPTURE with its fields in their ranges. -/
theorem answerConfigureCapture_read (start : Bool)
    (flag : field r.payload (6 + 2 * field r.payload 0 1) 1 = start.toNat) : answerConfigureCapture r s =
    if s.cu.state ≠ .idle then .no .state
    else if start then
      s.cu.lowestFree.elim (.no .full) fun b => .accepted
        (State.startRecording { s with cu := { s.cu with cfg } } b) (captureItems s.cu.cfg ++ encN 1 b)
    else .accepted { s with cu := { s.cu with cfg } } (captureItems s.cu.cfg) := by
  have place : 6 + 2 * field r.payload 0 1 = 1 + 2 * field r.payload 0 1 + 5 := by omega
  unfold answerConfigureCapture
  rw [if_neg (not_not.mpr (configureCapture_length length)), fields, ← place, flag?_of_eq start flag,
    ← captureConfig_enc]
  dsimp only
  cases s.cu.lowestFree <;> rfl

theorem answerConfigureCapture_state (flag : field r.payload (6 + 2 * field r.payload 0 1) 1 ≤ 1)
    (works : ¬ s.cu.Rests) : answerConfigureCapture r s = .no .state := by
  have start : field r.payload (6 + 2 * field r.payload 0 1) 1 =
      (decide (field r.payload (6 + 2 * field r.payload 0 1) 1 = 1)).toNat := by
    rcases Nat.le_one_iff_eq_zero_or_eq_one.mp flag with e | e <;> rw [e] <;> rfl
  rw [answerConfigureCapture_read length fields _ start]
  exact if_pos (mt (captureState_idle_iff s.cu).mp works)

variable (idle : s.cu.Rests)
include idle

theorem answerConfigureCapture_sets (flag : field r.payload (6 + 2 * field r.payload 0 1) 1 = 0) :
    answerConfigureCapture r s = .accepted { s with cu := { s.cu with cfg } } (captureItems s.cu.cfg) := by
  rw [answerConfigureCapture_read length fields false flag,
    if_neg (not_not.mpr ((captureState_idle_iff s.cu).mpr idle))]
  rfl

variable (flag : field r.payload (6 + 2 * field r.payload 0 1) 1 = 1)
include flag

theorem answerConfigureCapture_full (full : ∀ b : BlockId, s.cu.blocks[b].state ≠ .free) :
    answerConfigureCapture r s = .no .full := by
  rw [answerConfigureCapture_read length fields true flag,
    if_neg (not_not.mpr ((captureState_idle_iff s.cu).mpr idle)), lowestFree_eq_none.mpr full]
  rfl

/-- The lowest FREE block enters RECORDING under the new configuration. -/
theorem answerConfigureCapture_starts {b : BlockId} (free : s.cu.blocks[b].state = .free)
    (lower : ∀ c : BlockId, c < b → s.cu.blocks[c].state ≠ .free) : answerConfigureCapture r s = .accepted
      { s with cu := { s.cu with cfg, blocks := s.cu.blocks.set b (Block.recordingUnder cfg) } }
      (captureItems s.cu.cfg ++ encN 1 b) := by
  have running : ({ s with cu := { s.cu with cfg } } : State).cu.stalled = false := idle.1
  rw [answerConfigureCapture_read length fields true flag,
    if_neg (not_not.mpr ((captureState_idle_iff s.cu).mpr idle)), lowestFree_eq_some.mpr ⟨free, lower⟩,
    Option.elim_some, startRecording_of_running running]
  rfl

end ConfigureCapture

/-! ### TRIGGER (11 R195) -/

section Trigger
variable {r : Request} (empty : r.payload = []) {s : State}
include empty

theorem answerTrigger_state (idle : s.cu.Rests) : answerTrigger r s = .no .state := by
  unfold answerTrigger
  rw [empty]
  exact if_pos ((captureState_idle_iff s.cu).mpr idle)

/-- TRIGGER in any state but IDLE: a trigger of source REQUEST at this moment, and its outcome. -/
theorem answerTrigger_accepted (works : ¬ s.cu.Rests) : answerTrigger r s =
    .accepted (s.trigger ⟨s.hall, none⟩) (s.triggerOutcome (s.trigger ⟨s.hall, none⟩)) := by
  unfold answerTrigger
  rw [empty]
  exact if_neg (mt (captureState_idle_iff s.cu).mp works)

variable {b : BlockId} (ok : CaptureOk s)
include ok

theorem answerTrigger_recording (recording : s.cu.blocks[b].state = .recording) :
    answerTrigger r s = .accepted
      (s.setBlock b { s.cu.blocks[b] with
        state := .post, trigger := some ⟨s.hall, none⟩, preHeld := s.cu.blocks[b].frames.length })
      (encN 1 0 ++ encN 1 b) := by
  have found := active_of_captureOk ok (.inl recording)
  rw [answerTrigger_accepted empty fun idle => idle.2 b (.inl recording), trigger_of_recording found recording]
  congr 1
  simp only [State.triggerOutcome, found, recording, if_true]

theorem answerTrigger_post (post : s.cu.blocks[b].state = .post) : answerTrigger r s = .accepted
    (s.setBlock b { s.cu.blocks[b] with further := min (s.cu.blocks[b].further + 1) 65535 })
    (encN 1 1 ++ encN 1 b ++ encN 2 (min (s.cu.blocks[b].further + 1) 65535)) := by
  have found := active_of_captureOk ok (.inr post)
  rw [answerTrigger_accepted empty fun idle => idle.2 b (.inr post), trigger_of_post found post]
  congr 1
  simp only [State.triggerOutcome, found, post, reduceCtorEq, if_false, setBlock_block, if_true]

theorem answerTrigger_stalled (stalled : s.cu.stalled = true) : answerTrigger r s = .accepted
    { s with cu := { s.cu with missed := min (s.cu.missed + 1) 65535 } }
    (encN 1 2 ++ encN 2 (min (s.cu.missed + 1) 65535)) := by
  have none := active_eq_none (ok.stall stalled)
  rw [answerTrigger_accepted empty fun idle => Bool.eq_false_iff.mp idle.1 stalled, trigger_of_stalled none stalled]
  congr 1
  simp only [State.triggerOutcome, none]

end Trigger

/-! ### READ CAPTURE (11 R199) -/

theorem encFrame_eq (signals : List Signal) : encFrame signals = frameItems signals := rfl

/-- The frames from `first` to `last`, at most 30, and where to go on. -/
theorem block_encRead (k : Block) (b : BlockId) (first last : Nat) : k.encRead b first last =
    encN 1 b ++ blockItems k ++ encN 2 first ++ encN 1 (min (last + 1 - first) 30) ++
      encN 2 (if 30 < last + 1 - first then first + 30 else 65535) ++
      (((k.frames.drop first).take (min (last + 1 - first) 30)).map (frameItems k.signals)).flatten := by
  have next : encIndex? (if 30 < last + 1 - first then some (first + 30) else none) =
      encN 2 (if 30 < last + 1 - first then first + 30 else 65535) := by
    split <;> rfl
  rw [Block.encRead, block_encRecord, next, encFrame_eq]

section ReadCapture
variable {r : Request} (length : r.payload.length = 5)
include length

theorem answerReadCapture_range (number : 3 < field r.payload 0 1) (s : State) :
    answerReadCapture r s = .no .range := by
  unfold answerReadCapture
  rw [if_neg (not_not.mpr length), index?_eq_none.mpr (Nat.succ_le_of_lt number)]

theorem answerReadCapture_named {b : BlockId} (number : field r.payload 0 1 = b.val) (s : State) :
    let k := s.cu.blocks[b]
    let first := field r.payload 1 2
    let last := min (field r.payload 3 2) (k.frames.length - 1)
    answerReadCapture r s =
      if 2047 < first ∨ 2047 < field r.payload 3 2 then .no .range
      else if k.state ≠ .locked then .no .state
      else if last < first then .no .range
      else .accepted s (k.encRead b first last) := by
  intro k first last
  unfold answerReadCapture
  rw [if_neg (not_not.mpr length), index?_eq_some.mpr number]
  refine if_congr ?_ rfl rfl
  rw [Bool.or_eq_true, decide_eq_true_eq, decide_eq_true_eq]

end ReadCapture

/-! ### RELEASE BLOCK (11 R198, R200) -/

theorem not_isActive_free : ¬ Block.reset.isActive := by rintro (e | e) <;> cases e

theorem not_isActive_locked {x : Block} (locked : x.state = .locked) : ¬ x.isActive := by
  rintro (e | e) <;> rw [locked] at e <;> cases e

section FreeLocked
variable {s : State}

/-- A LOCKED block released outside a stall: FREE, and no longer announced. -/
theorem freeLocked_of_running (running : s.cu.stalled = false) (b : BlockId) :
    s.freeLocked b = { s.setBlock b Block.reset with
      lp := { s.lp with announce := s.lp.announce.filter (· ≠ b) } } := by
  unfold State.freeLocked
  exact if_neg (Bool.eq_false_iff.mp running)

/-- A LOCKED block released in a stall enters RECORDING at once. -/
theorem freeLocked_of_stalled (stalled : s.cu.stalled = true) (b : BlockId) :
    s.freeLocked b = { s with
      lp := { s.lp with announce := s.lp.announce.filter (· ≠ b) }
      cu := { s.cu with
        stalled := false, blocks := s.cu.blocks.set b (Block.recordingUnder s.cu.cfg) } } := by
  unfold State.freeLocked
  refine (if_pos stalled).trans ?_
  simp only [State.startRecording, State.setBlock, Vector.set_set]

end FreeLocked

section ReleaseBlock
variable {r : Request} (length : r.payload.length = 1) {b : BlockId} (number : field r.payload 0 1 = b.val)
  {s : State}
include length number

theorem answerReleaseBlock_state (h : s.cu.blocks[b].state = .post ∨ s.cu.blocks[b].state = .free) :
    answerReleaseBlock r s = .no .state := by
  unfold answerReleaseBlock
  rw [if_neg (not_not.mpr length), index?_eq_some.mpr number]
  rcases h with h | h
  · simp only [h]
  · simp only [h]

variable (ok : CaptureOk s)
include ok

/-- Recording abandoned: no other block is active, and no stall stands. -/
theorem answerReleaseBlock_recording (recording : s.cu.blocks[b].state = .recording) :
    answerReleaseBlock r s = .accepted (s.setBlock b Block.reset) (encN 1 1 ++ encN 1 3) := by
  have idle : (s.setBlock b Block.reset).cu.state = .idle := by
    have running : s.cu.stalled = false := running_of_captureOk ok (.inl recording)
    refine (captureState_idle_iff _).mpr ⟨running, fun c => ?_⟩
    rw [setBlock_block]
    split
    · exact not_isActive_free
    · rename_i other
      exact fun active => other (ok.one c b active (.inl recording))
  unfold answerReleaseBlock
  rw [if_neg (not_not.mpr length), index?_eq_some.mpr number]
  simp only [recording, idle]
  rfl

theorem answerReleaseBlock_locked (locked : s.cu.blocks[b].state = .locked) :
    answerReleaseBlock r s = .accepted (s.freeLocked b)
      (encN 1 3 ++ encN 1 (if s.cu.stalled then 0 else s.cu.state.code)) := by
  have state : (s.freeLocked b).cu.state.code = if s.cu.stalled then 0 else s.cu.state.code := by
    split
    · rename_i stalled
      rw [freeLocked_of_stalled stalled]
      exact congrArg CaptureState.code (captureState_startRecording (ok.stall stalled) b)
    · rename_i running
      rw [freeLocked_of_running (Bool.eq_false_iff.mpr running)]
      exact congrArg CaptureState.code (captureState_setBlock ok (not_isActive_locked locked) not_isActive_free)
  unfold answerReleaseBlock
  rw [if_neg (not_not.mpr length), index?_eq_some.mpr number]
  simp only [locked, state]
  rfl

theorem answerReleaseBlock_running (locked : s.cu.blocks[b].state = .locked) (running : s.cu.stalled = false) :
    answerReleaseBlock r s = .accepted { s.setBlock b Block.reset with
      lp := { s.lp with announce := s.lp.announce.filter (· ≠ b) } } (encN 1 3 ++ encN 1 s.cu.state.code) := by
  rw [answerReleaseBlock_locked length number ok locked, freeLocked_of_running running,
    if_neg (Bool.eq_false_iff.mp running)]

theorem answerReleaseBlock_stalled (locked : s.cu.blocks[b].state = .locked) (stalled : s.cu.stalled = true) :
    answerReleaseBlock r s = .accepted
      { s with
        lp := { s.lp with announce := s.lp.announce.filter (· ≠ b) }
        cu := { s.cu with
          stalled := false, blocks := s.cu.blocks.set b (Block.recordingUnder s.cu.cfg) } }
      (encN 1 3 ++ encN 1 0) := by
  rw [answerReleaseBlock_locked length number ok locked, freeLocked_of_stalled stalled, if_pos stalled]

end ReleaseBlock

/-! ### The rule -/

/-- Settles O52: each request by its tests in order, each accepted one by the state of the unit or of its block. -/
theorem captureRequests : Obligations.CaptureRequests := by
  intro s r ok p d blank recording idle
  have ok' : CaptureOk d := ⟨ok.one, ok.stall⟩
  refine ⟨fun head => ?_,
    fun head empty => ⟨fun rests => ?_, fun b now => ?_, fun b now => ?_, fun stalled => ?_⟩,
    fun head length => ⟨fun out => ?_, fun b number => ?_⟩,
    fun head length b number => ⟨fun now => ?_, fun now => ?_, fun now running => ?_, fun now stalled => ?_⟩⟩
  · intro n
    refine ⟨fun length => ?_, fun length => ⟨fun out => ?_, fun cfg fields flag => ⟨fun works => ?_,
      fun rests sets => ?_, fun rests start => ⟨fun full => ?_, fun b free lower => ?_⟩⟩⟩⟩
    · exact exec_refused (i := .configureCapture) rfl head (answerConfigureCapture_malformed length d)
    · exact exec_refused (i := .configureCapture) rfl head (answerConfigureCapture_range length d out)
    · exact exec_refused (i := .configureCapture) rfl head
        (answerConfigureCapture_state length fields flag (s := d) works)
    · exact exec_accepted (i := .configureCapture) rfl head
        (answerConfigureCapture_sets length fields (s := d) rests sets)
    · exact exec_refused (i := .configureCapture) rfl head
        (answerConfigureCapture_full length fields (s := d) rests start full)
    · exact exec_accepted (i := .configureCapture) rfl head
        (answerConfigureCapture_starts length fields (s := d) rests start free lower)
  · exact exec_refused (i := .trigger) rfl head (answerTrigger_state empty rests)
  · exact exec_accepted (i := .trigger) rfl head (answerTrigger_recording empty ok' now)
  · exact exec_accepted (i := .trigger) rfl head (answerTrigger_post empty ok' now)
  · exact exec_accepted (i := .trigger) rfl head (answerTrigger_stalled empty ok' stalled)
  · exact exec_refused (i := .readCapture) rfl head (answerReadCapture_range length out d)
  · intro k first last
    have read := answerReadCapture_named length number d
    refine ⟨fun out => ?_, fun low high => ⟨fun other => ?_, fun locked empty => ?_, fun locked some => ?_⟩⟩
    · exact exec_refused (i := .readCapture) rfl head (read.trans (if_pos out))
    all_goals replace read := read.trans (if_neg (not_or.mpr ⟨Nat.not_lt.mpr low, Nat.not_lt.mpr high⟩))
    · exact exec_refused (i := .readCapture) rfl head (read.trans (if_pos other))
    all_goals replace read := read.trans (if_neg (not_not.mpr locked))
    · exact exec_refused (i := .readCapture) rfl head (read.trans (if_pos empty))
    · replace read := read.trans (if_neg (Nat.not_lt.mpr some))
      rw [block_encRead] at read
      exact exec_accepted (i := .readCapture) rfl head read
  · exact exec_refused (i := .releaseBlock) rfl head (answerReleaseBlock_state length number now)
  · exact exec_accepted (i := .releaseBlock) rfl head (answerReleaseBlock_recording length number ok' now)
  · exact exec_accepted (i := .releaseBlock) rfl head (answerReleaseBlock_running length number ok' now running)
  · exact exec_accepted (i := .releaseBlock) rfl head (answerReleaseBlock_stalled length number ok' now stalled)

end Sys2Proof.Machine
end

section
/-! Capture frames and alarm triggers: the block that takes a frame, its lock, and a raise that the Capture Unit is
handed (11 R190, R191, R193, R194, R196, R197). -/

namespace Sys2Proof.Machine
open Host Statements

/-! ### A frame's values (11 R190) -/

theorem signalValue_eq (s : State) (chans : Vector Channel 8) :
    s.signalValue chans = signalItem (fun a => chans[a]) s.scv := by
  funext x
  cases x <;> rfl

/-- The frame that block `b` takes of the part, `chans` being the channels that it finds. -/
def State.frameOf (s : State) (b : BlockId) (chans : Vector Channel 8) (timeSet : Bool) : CaptureFrame :=
  ⟨s.hall, timeSet, s.cu.blocks[b].signals.map (signalItem (fun a => chans[a]) s.scv)⟩

/-! ### The lock (11 R197) -/

section Lock
variable {s : State} {b : BlockId}

/-- The blocks after `b` has locked. -/
def State.lockedBlocks (s : State) (b : BlockId) : Vector Block 4 :=
  s.cu.blocks.set b { s.cu.blocks[b] with state := .locked }

theorem lockBlock_announce (s : State) (b : BlockId) :
    (s.lockBlock b).lp = { s.lp with announce := s.lp.announce ++ [b] } := by
  unfold State.lockBlock
  dsimp only
  split
  · split <;> rfl
  · rfl

theorem lockBlock_ends (once : s.cu.cfg.continues = false) :
    (s.lockBlock b).cu = { s.cu with blocks := s.lockedBlocks b } := by
  unfold State.lockBlock
  exact congrArg State.cu (if_neg (Bool.eq_false_iff.mp once))

theorem lockBlock_stalls (on : s.cu.cfg.continues = true)
    (full : ∀ c : BlockId, (s.lockedBlocks b)[c].state ≠ .free) :
    (s.lockBlock b).cu = { s.cu with blocks := s.lockedBlocks b, stalled := true } := by
  have none : CaptureUnit.lowestFree { s.cu with blocks := s.lockedBlocks b } = none := lowestFree_eq_none.mpr full
  unfold State.lockBlock
  dsimp only [State.setBlock]
  rw [if_pos on, ← State.lockedBlocks, none]

theorem lockBlock_continues (on : s.cu.cfg.continues = true) {c : BlockId}
    (free : (s.lockedBlocks b)[c].state = .free)
    (lower : ∀ e : BlockId, e < c → (s.lockedBlocks b)[e].state ≠ .free) :
    (s.lockBlock b).cu = { s.cu with
      stalled := false, blocks := (s.lockedBlocks b).set c (Block.recordingUnder s.cu.cfg) } := by
  have found : CaptureUnit.lowestFree { s.cu with blocks := s.lockedBlocks b } = some c :=
    lowestFree_eq_some.mpr ⟨free, lower⟩
  unfold State.lockBlock
  dsimp only [State.setBlock]
  rw [if_pos on, ← State.lockedBlocks, found]
  rfl

theorem lockBlock_only (s : State) (b : BlockId) : s.lockBlock b =
    { s with cu := (s.lockBlock b).cu, lp := { s.lp with announce := (s.lockBlock b).lp.announce } } := by
  unfold State.lockBlock
  dsimp only
  split
  · split <;> rfl
  · rfl

end Lock

/-! ### The frame (11 R193, R197) -/

section Frame
variable {s : State} {b : BlockId}

theorem takeFrame_of_none (none : s.cu.active = none) (chans : Vector Channel 8) (timeSet : Bool) :
    s.takeFrame chans timeSet = s := by
  unfold State.takeFrame
  rw [none]

/-- The part with the frame `f` added to block `b` and the new-value marks spent. -/
def State.frameAdded (s : State) (b : BlockId) (f : CaptureFrame) : State :=
  { s with scv := { s.scv with written := [] } }.setBlock b
    { s.cu.blocks[b] with frames := s.cu.blocks[b].frames ++ [f] }

/-- A POST block that takes the frame `f` has taken all its frames. -/
def State.fills (s : State) (b : BlockId) (f : CaptureFrame) : Prop :=
  2048 - s.cu.blocks[b].pre ≤ (s.cu.blocks[b].frames ++ [f]).length - s.cu.blocks[b].preHeld

variable (found : s.cu.active = some b) (chans : Vector Channel 8) (timeSet : Bool)
include found

theorem takeFrame_of_recording (recording : s.cu.blocks[b].state = .recording) : s.takeFrame chans timeSet =
    { s with scv := { s.scv with written := [] } }.setBlock b { s.cu.blocks[b] with
      frames := lastN s.cu.blocks[b].pre (s.cu.blocks[b].frames ++ [s.frameOf b chans timeSet]) } := by
  unfold State.takeFrame
  rw [found, signalValue_eq]
  exact if_pos recording

theorem takeFrame_of_post (post : s.cu.blocks[b].state = .post)
    (room : ¬ s.fills b (s.frameOf b chans timeSet)) :
    s.takeFrame chans timeSet = s.frameAdded b (s.frameOf b chans timeSet) := by
  unfold State.takeFrame
  rw [found, signalValue_eq]
  exact (if_neg fun recording => by rw [post] at recording; cases recording).trans (if_neg room)

theorem takeFrame_locks (post : s.cu.blocks[b].state = .post) (full : s.fills b (s.frameOf b chans timeSet)) :
    s.takeFrame chans timeSet = (s.frameAdded b (s.frameOf b chans timeSet)).lockBlock b := by
  unfold State.takeFrame
  rw [found, signalValue_eq]
  exact (if_neg fun recording => by rw [post] at recording; cases recording).trans (if_pos full)

omit found in
theorem frameAdded_lockedBlocks (s : State) (b : BlockId) (f : CaptureFrame) : (s.frameAdded b f).lockedBlocks b =
    s.cu.blocks.set b { s.cu.blocks[b] with state := .locked, frames := s.cu.blocks[b].frames ++ [f] } := by
  simp [State.lockedBlocks, State.frameAdded, State.setBlock]

/-- A frame changes the Capture Unit, the blocks announced and the new-value marks. -/
theorem takeFrame_only : s.takeFrame chans timeSet = { s with
    scv := { s.scv with written := [] }
    cu := (s.takeFrame chans timeSet).cu
    lp := { s.lp with announce := (s.takeFrame chans timeSet).lp.announce } } := by
  rcases isActive_of_active found with recording | post
  · rw [takeFrame_of_recording found chans timeSet recording]
    rfl
  by_cases full : s.fills b (s.frameOf b chans timeSet)
  · rw [takeFrame_locks found chans timeSet post full]
    exact lockBlock_only _ b
  · rw [takeFrame_of_post found chans timeSet post full]
    rfl

theorem takeFrame_taken : FrameTaken s b (s.frameOf b chans timeSet) (s.takeFrame chans timeSet) := by
  rcases isActive_of_active found with recording | post
  · have other : s.cu.blocks[b].state ≠ .post := fun post => by rw [recording] at post; cases post
    rw [takeFrame_of_recording found chans timeSet recording]
    exact ⟨fun _ => rfl, fun post => absurd post other, fun locks => absurd locks.1 other,
      fun locks => absurd locks.1 other, fun _ => rfl⟩
  have other : s.cu.blocks[b].state ≠ .recording := fun recording => by rw [post] at recording; cases recording
  by_cases full : s.fills b (s.frameOf b chans timeSet)
  · rw [takeFrame_locks found chans timeSet post full]
    have blocks := frameAdded_lockedBlocks s b (s.frameOf b chans timeSet)
    refine ⟨fun recording => absurd recording other, fun _ room => absurd ⟨post, full⟩ room,
      fun _ => ⟨fun once => ?_, fun on none => ?_, fun on c free lower => ?_⟩, fun _ => ?_,
      fun room => absurd ⟨post, full⟩ room⟩
    · rw [lockBlock_ends (s := s.frameAdded b _) once, blocks]
      rfl
    · rw [lockBlock_stalls (s := s.frameAdded b _) on (by rw [blocks]; exact none), blocks]
      rfl
    · rw [lockBlock_continues (s := s.frameAdded b _) on (by rw [blocks]; exact free)
        (by rw [blocks]; exact lower), blocks]
      rfl
    · exact congrArg LinkPort.announce (lockBlock_announce _ b)
  · rw [takeFrame_of_post found chans timeSet post full]
    exact ⟨fun recording => absurd recording other, fun _ _ => rfl, fun locks => absurd locks.2 full,
      fun locks => absurd locks.2 full, fun _ => rfl⟩

end Frame

theorem takeFrame_cfg (s : State) (chans : Vector Channel 8) (timeSet : Bool) :
    (s.takeFrame chans timeSet).cu.cfg = s.cu.cfg := by
  have lock (t : State) (b : BlockId) : (t.lockBlock b).cu.cfg = t.cu.cfg := by
    unfold State.lockBlock
    dsimp only
    split
    · split <;> rfl
    · rfl
  unfold State.takeFrame
  split
  · rfl
  dsimp only
  split
  · rfl
  split
  · exact lock _ _
  · rfl

/-- A frame is taken between Capture Units, with the blocks announced. -/
theorem frameTaken_congr {s t u v : State} {b : BlockId} {f : CaptureFrame} (h : FrameTaken s b f t)
    (before : u.cu = s.cu ∧ u.lp.announce = s.lp.announce) (after : v.cu = t.cu ∧ v.lp.announce = t.lp.announce) :
    FrameTaken u b f v := by
  obtain ⟨cu, announce⟩ := before
  obtain ⟨cu', announce'⟩ := after
  unfold FrameTaken
  rw [cu, announce, cu', announce']
  exact h

/-- A frame reads the same of two channels: the measured force and stroke, the command, the valve value (11 R190). -/
def Channel.ReadsAs (c d : Channel) : Prop := c.measured = d.measured ∧ c.prev = d.prev ∧ c.valve = d.valve

theorem signalItem_congr {c d : ActId → Channel} (v : StrainConverter) (same : ∀ a, (c a).ReadsAs (d a)) :
    signalItem c v = signalItem d v := by
  funext x
  cases x with
  | actForce a | actStroke a | actCommand a | actValve a =>
    obtain ⟨measured, prev, valve⟩ := same a
    simp only [signalItem, measured, prev, valve]
  | gauge g => rfl

/-- The frame of a part in which some channels are found as `old` has them, the others as `new` does. -/
theorem frameOf_eq {s : State} {b : BlockId} {chans : Vector Channel 8} {old new : ActId → Channel} (timeSet : Bool)
    (finds : ∀ a : ActId, chans[a] = old a ∨ chans[a].ReadsAs (new a)) :
    s.frameOf b chans timeSet = ⟨s.hall, timeSet, s.cu.blocks[b].signals.map
      (signalItem (fun a => if decide (chans[a] ≠ old a) then new a else old a) s.scv)⟩ := by
  have same (a : ActId) : chans[a].ReadsAs (if decide (chans[a] ≠ old a) then new a else old a) := by
    by_cases found : chans[a] = old a
    · rw [if_neg (by simp [found]), found]
      exact ⟨rfl, rfl, rfl⟩
    · rw [if_pos (decide_eq_true found)]
      exact (finds a).resolve_left found
  rw [State.frameOf, signalItem_congr s.scv same]

end Sys2Proof.Machine
end

section
/-! A raise that the Capture Unit is handed (06 R121; 11 R194, R196). -/

namespace Sys2Proof.Machine
open Host Statements

/-! ### The kind of a raise (06 R118, R119) -/

theorem take_occurrence_iff {q : ZoneSupervisor} {r : Raise} (time : Nat) :
    (q.take r time).2 = .occurrence ↔ ∃ e ∈ q.alarms, e.source = r.source := by
  rcases source_stands_or q r with ⟨e, he, source⟩ | fresh
  · rw [take_again time he source]
    exact ⟨fun _ => ⟨e, he, source⟩, fun _ => rfl⟩
  · refine ⟨fun h => ?_, fun ⟨e, he, source⟩ => absurd source (fresh e he)⟩
    rw [take_fresh time fresh] at h
    split at h
    · cases h
    · split at h <;> cases h

/-- A raise's kind, told by its source's entry and the room in the list. -/
theorem take_kind {q : ZoneSupervisor} {r : Raise} (time : Nat) {kind : RaiseKind}
    (again : kind = .occurrence ↔ ∃ e ∈ q.alarms, e.source = r.source)
    (lost : kind = .notStored ↔ Unstored q r) : (q.take r time).2 = kind := by
  rw [← take_occurrence_iff time] at again
  rw [← take_notStored_iff time] at lost
  cases kind with
  | occurrence => exact again.mp rfl
  | notStored => exact lost.mp rfl
  | newEntry =>
    cases taken : (q.take r time).2 with
    | newEntry => rfl
    | occurrence => exact absurd (again.mpr taken) (by decide)
    | notStored => exact absurd (lost.mpr taken) (by decide)

/-! ### What the Capture Unit does with it (11 R194, R196) -/

theorem admits_iff (t : TriggerSeverity) (v : Severity) : t.admits v = true ↔ t ≠ .off ∧ t.code ≤ v.code := by
  cases t <;> cases v <;> decide

/-- The raise qualifies as a trigger under the unit's configuration. -/
def CaptureUnit.Qualifies (u : CaptureUnit) (r : Raise) : Prop :=
  u.cfg.severity ≠ .off ∧ u.cfg.severity.code ≤ r.severity.code ∧ u.cfg.zoneMask.getLsbD r.zone = true

/-- What a trigger makes of the Capture Unit depends on the unit alone. -/
theorem trigger_cu_congr {s t : State} (cu : t.cu = s.cu) (x : Trigger) : (t.trigger x).cu = (s.trigger x).cu := by
  unfold State.trigger State.setBlock
  rw [cu]
  split
  · dsimp only
    split <;> rfl
  · split
    · rfl
    · exact cu

section
variable (s : State) (r : Raise)

theorem raised_cu : (s.raised r).cu = s.cu := by
  rw [State.raised, (severityAction_worksOn (s.enlist r) r.zone r.severity).only, enlist_only]

/-- The trigger that a qualifying raise is. -/
def State.triggerOf (s : State) (r : Raise) : Trigger :=
  ⟨s.hall, some ⟨r.source, r.zone, r.severity, (s.zs.take r s.hall).2⟩⟩

theorem qualifies_iff : (s.cu.cfg.severity.admits r.severity && s.cu.cfg.zoneMask.getLsbD r.zone) = true ↔
    s.cu.Qualifies r := by
  rw [Bool.and_eq_true, admits_iff, and_assoc, CaptureUnit.Qualifies]

variable {s r}

theorem raise_cu_of_barred (barred : ¬ s.cu.Qualifies r) : (s.raise r).cu = s.cu := by
  unfold State.raise State.alarmTrigger
  rw [← State.raised, raised_cu, if_neg (mt (qualifies_iff s r).mp barred), raised_cu]

theorem raise_cu_of_qualifying (qualifies : s.cu.Qualifies r) :
    (s.raise r).cu = (s.trigger (s.triggerOf r)).cu := by
  unfold State.raise State.alarmTrigger
  rw [← State.raised, raised_cu, if_pos ((qualifies_iff s r).mpr qualifies)]
  exact trigger_cu_congr (raised_cu s r) _

theorem raise_cu_of_idle (running : s.cu.stalled = false) (inactive : ∀ b : BlockId, ¬ s.cu.blocks[b].isActive) :
    (s.raise r).cu = s.cu := by
  by_cases qualifies : s.cu.Qualifies r
  · rw [raise_cu_of_qualifying qualifies, trigger_of_idle (active_eq_none inactive) running]
  · exact raise_cu_of_barred qualifies

variable (qualifies : s.cu.Qualifies r)
include qualifies

theorem raise_cu_of_stalled (ok : CaptureOk s) (stalled : s.cu.stalled = true) :
    (s.raise r).cu = { s.cu with missed := min (s.cu.missed + 1) 65535 } := by
  rw [raise_cu_of_qualifying qualifies, trigger_of_stalled (active_eq_none (ok.stall stalled)) stalled]

variable {b : BlockId} (ok : CaptureOk s)
include ok

theorem raise_cu_of_post (post : s.cu.blocks[b].state = .post) : (s.raise r).cu = { s.cu with
    blocks := s.cu.blocks.set b { s.cu.blocks[b] with further := min (s.cu.blocks[b].further + 1) 65535 } } := by
  rw [raise_cu_of_qualifying qualifies, trigger_of_post (active_of_captureOk ok (.inr post)) post]
  rfl

theorem raise_cu_of_recording (recording : s.cu.blocks[b].state = .recording) : (s.raise r).cu = { s.cu with
    blocks := s.cu.blocks.set b { s.cu.blocks[b] with
      state := .post, preHeld := s.cu.blocks[b].frames.length, trigger := some (s.triggerOf r) } } := by
  rw [raise_cu_of_qualifying qualifies, trigger_of_recording (active_of_captureOk ok (.inl recording)) recording]
  rfl

end

end Sys2Proof.Machine
end

section
/-! What the work of a strobe other than the capture frame leaves of what a frame reads and writes, the trigger
severity being OFF: the Capture Unit, the blocks announced, and the new-value marks, which it can only add to
(11 R190, R191, R194). -/

namespace Sys2Proof.Machine
open Host Statements

/-! ### What is kept -/

/-- With trigger severity OFF the Capture Unit stands; so do the blocks announced, and no new-value mark goes. -/
structure FrameKept (s t : State) : Prop where
  cu : s.cu.cfg.severity = .off → t.cu = s.cu
  announce : t.lp.announce = s.lp.announce
  written : ∀ g, g ∈ s.scv.written → g ∈ t.scv.written

theorem FrameKept.refl (s : State) : FrameKept s s := ⟨fun _ => rfl, rfl, fun _ => id⟩

theorem FrameKept.trans {s t u : State} (h : FrameKept s t) (k : FrameKept t u) : FrameKept s u :=
  ⟨fun off => (k.cu (by rw [h.cu off]; exact off)).trans (h.cu off), k.announce.trans h.announce,
    fun g listed => k.written g (h.written g listed)⟩

/-- Work that leaves all three alone. -/
theorem FrameKept.of_same {s t : State} (cu : t.cu = s.cu) (announce : t.lp.announce = s.lp.announce)
    (scv : t.scv = s.scv) : FrameKept s t :=
  ⟨fun _ => cu, announce, fun g listed => by rw [scv]; exact listed⟩

theorem foldl_frameKept {β : Type} (f : State → β → State) (h : ∀ s b, FrameKept s (f s b)) (l : List β)
    (s : State) : FrameKept s (l.foldl f s) :=
  foldl_keeps (FrameKept s) f (fun t b k => k.trans (h t b)) l s (.refl s)

/-! ### Raises and the zones' work -/

theorem ZonesOnly.frameKept {s t : State} (h : ZonesOnly s t) : FrameKept s t := by
  rw [h]; exact .of_same rfl rfl rfl

theorem raise_frameKept (s : State) (r : Raise) : FrameKept s (s.raise r) := by
  refine ⟨fun off => raise_cu_of_barred fun qualifies => qualifies.1 off, ?_, ?_⟩
  · rw [raise_only]
  · rw [(raise_scan s r).scv]
    exact fun _ => id

theorem raiseAll_frameKept (s : State) (l : List Raise) : FrameKept s (s.raiseAll l) := by
  have bumped : FrameKept s s.bumpFree := .of_same rfl rfl rfl
  exact bumped.trans (foldl_frameKept _ raise_frameKept _ _)

theorem syncLoss_frameKept (s : State) (r : Raise) : FrameKept s (s.syncLoss r) := by
  unfold State.syncLoss
  split
  · exact (raise_frameKept s r).trans (holdZone_worksOn _ r.zone .sync).only.frameKept
  · exact .refl s

/-! ### Scans (08 R147, R154) -/

theorem convertScan_frameKept (s : State) (x : Scan) : FrameKept s (s.convertScan x) := by
  have scanned : FrameKept s (s.scanned x) :=
    ⟨fun _ => rfl, rfl, fun g listed => (mem_writeAll_written _ _ _).mpr (.inl listed)⟩
  by_cases h : ∃ n, s.lw.latches (s.samples x) n = true
  · rw [convertScan_of_latched s x h]
    exact scanned.trans (raiseAll_frameKept _ _)
  · rw [convertScan_of_unlatched s x fun n => Bool.eq_false_iff.mpr (not_exists.mp h n)]
    exact scanned

theorem deferredReplied_frameKept (s : State) (tag : Option Byte) (kind : Byte) (w : Wire) :
    FrameKept s (deferredReplied s tag kind w) := by
  cases tag with
  | none => exact .refl s
  | some n => exact .of_same rfl rfl rfl

theorem zeroScan_frameKept (s : State) (x : Scan) : FrameKept s (s.zeroScan x) := by
  have zeroed : FrameKept s (s.zeroed x) := by
    refine ⟨fun _ => rfl, rfl, fun g listed => ?_⟩
    show g ∈ (x.results.foldl StrainConverter.zeroOne s.scv).written
    rw [foldl_zeroOne_only]
    exact listed
  cases op : s.scv.zeroOp with
  | none => rw [zeroScan_of_none op]; exact zeroed
  | some op' => rw [zeroScan_of_some op]; exact zeroed.trans (deferredReplied_frameKept ..)

theorem finishScan_frameKept (s : State) (x : Scan) : FrameKept s (s.finishScan x) := by
  have landed : FrameKept s { s with se := { s.se with scan := none } } := .of_same rfl rfl rfl
  unfold State.finishScan
  dsimp only
  split
  · exact landed.trans (zeroScan_frameKept _ x)
  · exact landed.trans (convertScan_frameKept _ x)

theorem runScans_frameKept (n : Nat) (s : State) : FrameKept s (s.runScans n) := by
  induction n generalizing s with
  | zero => exact .refl s
  | succ n ih =>
    have started (kind : ScanKind) (place : Option (ZoneId × PhaseRequest)) :
        FrameKept s (s.startScan kind place) := .of_same rfl rfl rfl
    unfold State.runScans
    split
    · split
      · exact (finishScan_frameKept s _).trans (ih _)
      · exact .refl s
    · split
      · exact (started _ _).trans (ih _)
      · exact .refl s

theorem slotted_frameKept (s : State) (p : PhaseRequest) : FrameKept s (s.slotted p) := by
  unfold State.slotted
  dsimp only
  split <;> exact .of_same rfl rfl rfl

theorem phaseRequest_frameKept (s : State) (p : PhaseRequest) : FrameKept s (s.phaseRequest p) := by
  rw [phaseRequest_eq]
  exact (slotted_frameKept s p).trans (runScans_frameKept 14 _)

/-! ### The events of a strobe's work -/

/-- Any event but the frame. -/
theorem strobeEvent_frameKept (s : State) (q : Seen) {e : StrobeTask} (other : ∀ b, e ≠ .frame b) :
    FrameKept s (s.strobeEvent q e) := by
  cases e with
  | raise src z v => exact raise_frameKept s _
  | loss z => exact syncLoss_frameKept s _
  | scans l => exact foldl_frameKept _ phaseRequest_frameKept l s
  | frame b => exact absurd rfl (other b)

/-- While a scan in flight waits for a bank the captured crossings only enter their slots (07 R131). -/
theorem phaseRequest_scv {s : State} {x : Scan} (waits : s.Awaits x) (p : PhaseRequest) :
    (s.phaseRequest p).scv = s.scv := by
  obtain ⟨flight, b, awaiting⟩ := waits
  rw [phaseRequest_eq, consult_awaiting _ x b ((slotted_scan s p).trans flight) awaiting, State.slotted]
  dsimp only
  split <;> rfl

/-- No scan can complete at the event `e`. -/
def State.Calm (s : State) (e : StrobeTask) : Prop := (∀ l, e ≠ .scans l) ∨ ∃ x, s.Awaits x

theorem strobeEvent_scv {s : State} (q : Seen) {e : StrobeTask} (other : ∀ b, e ≠ .frame b) (calm : s.Calm e) :
    (s.strobeEvent q e).scv = s.scv := by
  cases e with
  | raise src z v => exact (raise_scan s _).scv
  | frame b => exact absurd rfl (other b)
  | loss z =>
    show (s.syncLoss _).scv = _
    unfold State.syncLoss
    split
    · exact (holdZone_scan _ _ _).scv.trans (raise_scan s _).scv
    · rfl
  | scans l =>
    rcases calm with no | ⟨x, waits⟩
    · exact absurd rfl (no l)
    · refine (foldl_keeps (fun t => t.Awaits x ∧ t.scv = s.scv) _ (fun t p ⟨k, same⟩ => ?_) l s ⟨waits, rfl⟩).2
      exact ⟨(phaseRequest_slotted k p).awaits k, (phaseRequest_scv k p).trans same⟩

/-! ### Several events -/

/-- The events `l`, one after the other. -/
def State.events (s : State) (l : List (StrobeTask × Seen)) : State := l.foldl (fun v e => v.strobeEvent e.2 e.1) s

theorem events_inner (s : State) (l : List (StrobeTask × Seen)) : Inner s (s.events l) :=
  foldl_inner _ (fun v (e : StrobeTask × Seen) => strobeEvent_inner v e.2 e.1) l s

section
variable {l : List (StrobeTask × Seen)} (other : ∀ e ∈ l, ∀ b, e.1 ≠ .frame b)

theorem events_awaits {s : State} {x : Scan} (waits : s.Awaits x) : (s.events l).Awaits x :=
  foldl_keeps (fun t => t.Awaits x) _ (fun _ e k => strobeEvent_awaits k e.2 e.1) l s waits

include other

theorem events_frameKept (s : State) : FrameKept s (s.events l) := by
  induction l generalizing s with
  | nil => exact .refl s
  | cons e l ih =>
    exact (strobeEvent_frameKept s e.2 (other e List.mem_cons_self)).trans
      (ih (fun f hf => other f (List.mem_cons_of_mem _ hf)) _)

theorem events_scv {s : State} (calm : (∀ e ∈ l, ∀ k, e.1 ≠ .scans k) ∨ ∃ x, s.Awaits x) :
    (s.events l).scv = s.scv := by
  induction l generalizing s with
  | nil => rfl
  | cons e l ih =>
    have first : s.Calm e.1 := calm.imp_left fun no => no e List.mem_cons_self
    have rest : (∀ f ∈ l, ∀ k, f.1 ≠ .scans k) ∨ ∃ x, (s.strobeEvent e.2 e.1).Awaits x :=
      calm.imp (fun no f hf => no f (List.mem_cons_of_mem e hf))
        fun ⟨x, waits⟩ => ⟨x, strobeEvent_awaits waits e.2 e.1⟩
    exact (ih (fun f hf => other f (List.mem_cons_of_mem _ hf)) rest).trans
      (strobeEvent_scv e.2 (other e List.mem_cons_self) first)

end

end Sys2Proof.Machine
end

section
/-! The capture frame among the events of a strobe's work: the part that it finds and the part that it leaves to
the events after it (02 R26; 11 R190, R191; log 8 to 11, 25). -/

namespace Sys2Proof.Machine
open Host Statements

/-! ### The zones' own moves -/

/-- The Capture Unit, the blocks announced, the Scan Engine and the Strain Converter stand. -/
structure CaptureStands (s t : State) : Prop where
  cu : t.cu = s.cu
  announce : t.lp.announce = s.lp.announce
  se : t.se = s.se
  scv : t.scv = s.scv

theorem CaptureStands.trans {s t u : State} (h : CaptureStands s t) (k : CaptureStands t u) : CaptureStands s u :=
  ⟨k.cu.trans h.cu, k.announce.trans h.announce, k.se.trans h.se, k.scv.trans h.scv⟩

theorem CaptureStands.frameKept {s t : State} (h : CaptureStands s t) : FrameKept s t :=
  .of_same h.cu h.announce h.scv

theorem ZonesOnly.captureStands {s t : State} (h : ZonesOnly s t) : CaptureStands s t := by
  rw [h]; exact ⟨rfl, rfl, rfl, rfl⟩

theorem zoneMoves_only (s : State) (outs : Vector Outcomes 8) (z : ZoneId) : ZonesOnly s (s.zoneMoves outs z) := by
  unfold State.zoneMoves
  dsimp only
  split
  · rfl
  split
  · rfl
  split
  · exact (holdZone_worksOn s z .segment).only
  split <;> rfl

/-- The part `t` after the four zones' own moves. -/
def State.zonesMoved (t : State) (outs : Vector Outcomes 8) : State :=
  (List.finRange 4).foldl (fun u z => u.zoneMoves outs z) t

theorem zonesMoved_stands (t : State) (outs : Vector Outcomes 8) : CaptureStands t (t.zonesMoved outs) :=
  foldl_keeps (CaptureStands t) _ (fun u z h => h.trans (zoneMoves_only u outs z).captureStands) _ t
    ⟨rfl, rfl, rfl, rfl⟩

theorem strobeMoved_stands (d : State) (started : ZoneId → Bool) : CaptureStands d (d.strobeMoved started) := by
  have updated : CaptureStands d (d.strobeUpdated started) := ⟨rfl, rfl, rfl, rfl⟩
  have bumped (t : State) : CaptureStands t t.bumpFree := ⟨rfl, rfl, rfl, rfl⟩
  unfold State.strobeMoved
  exact (updated.trans (zonesMoved_stands _ (d.outcomes started))).trans (bumped _)

/-! ### No crossing captured (06 R104) -/

theorem clockWork_capture_of_none {s : State} {z : ZoneId} (old : Vector Channel 8)
    (off : (s.zone z).capture = .none) : (s.clockWork old z).capture = none := by
  cases running : (s.zone z).strobeIndex s.strobeHall with
  | none => rw [clockWork_of_stopped running]
  | some n =>
    rw [clockWork_of_running running, workOn_capture]
    obtain ⟨-, capture, -, -⟩ := wrapped_keeps (s := s) (old := old) (z := z) (n := n)
    cases crossing : (s.wrapped old z n).crossing n with
    | none => exact captured_of_none crossing
    | some peak => exact captured_eq_none crossing (.inr (.inl (by rw [capture, off]; rfl)))

/-- No scan can complete in a strobe's work: no zone captures crossings, or a scan in flight waits for a bank. -/
def State.ScansRest (s : State) : Prop := (∀ z, (s.zone z).capture = .none) ∨ ∃ x, s.Awaits x

/-! ### The events in their order -/

section
variable (d : State) (started : ZoneId → Bool) (lost timeSet : Bool)

theorem strobeUpdated_eq : { d.updated started with
    zs := { (d.updated started).zs with zones := tabMap (fun _ (w : ZoneWork) => w.zone) (d.works started) }
    cm := { (d.updated started).cm with
      aes := tabMap (fun _ (w : AeRecord × Bool) => w.1) (d.windows started) } } = d.strobeUpdated started := by
  have aes : tabMap (fun _ (w : AeRecord × Bool) => w.1) (d.windows started) = tabMap (fun _ (e : AeRecord) =>
      if (d.updated started).windowDue e then e.windowWork.1 else e) d.cm.aes := by
    rw [State.windows, tabMap_tabMap]
    refine congrArg (tabMap · d.cm.aes) (funext₂ fun _ e => ?_)
    split <;> rfl
  rw [aes, State.works, tabMap_tabMap]
  rfl

/-- A strobe's work is the events of its list, in the order that the part after the zones' own moves gives. -/
theorem strobeWork_arranged : ∃ seed n, d.strobeWork started lost timeSet = (d.strobeMoved started).events
    ((d.strobeMoved started).taken seed 0 d.seenBefore (arrange seed n (d.eventList started lost timeSet))) := by
  have work (t : State) (updated : t = d.strobeUpdated started) : d.strobeWork started lost timeSet =
      (t.zonesMoved (d.outcomes started)).bumpFree.strobeEvents (t.zonesMoved (d.outcomes started)).free 0
        d.seenBefore ((t.zonesMoved (d.outcomes started)).inOrder
          (t.handsOver (d.outcomes started) (d.works started) (d.windows started) started lost timeSet)) := by
    rw [updated, ← strobeUpdated_eq]
    rfl
  exact ⟨_, _, (work _ rfl).trans (strobeEvents_eq_foldl ..)⟩

/-- `l` is the events of the strobe's work in their order, each with what it finds. -/
structure TakenAs (l : List (StrobeTask × Seen)) : Prop where
  work : d.strobeWork started lost timeSet = (d.strobeMoved started).events l
  once : (l.map Prod.fst).Nodup
  handed : ∀ x, x ∈ l.map Prod.fst ↔ ∃ e, HandsOver d started lost timeSet e ∧ e.task = x
  found : ∀ e ∈ l, ∀ a : ActId, e.2.chans[a] = d.chan a ∨ (d.updateOf started a).1.SameButHold e.2.chans[a]

theorem exists_takenAs : ∃ l, TakenAs d started lost timeSet l := by
  obtain ⟨seed, n, work⟩ := strobeWork_arranged d started lost timeSet
  have perm := (arrange_perm seed n (d.eventList started lost timeSet)).map StrobeEvent.task
  refine ⟨_, work, ?_, fun x => ?_, fun e he a => ?_⟩
  · rw [taken_map_fst]
    exact perm.nodup_iff.mpr (eventList_nodup d started lost timeSet)
  · rw [taken_map_fst, perm.mem_iff, List.mem_map]
    simp only [mem_eventList]
  · have found := (taken_foundAfter (C := fun a c => (d.updateOf started a).1.SameButHold c) (N := fun _ _ => True)
      (I := Inner (d.strobeUpdated started)) (fun s inner a => ?_) (fun _ _ _ => trivial)
      (fun s q e inner => inner.trans (strobeEvent_inner s q e)) seed _ _ 0 _ (strobeMoved_inner d started) e he).1
    · exact found.chans a
    · rw [← strobeUpdated_chan]
      exact inner.ac a

end

section
variable {d : State} {started : ZoneId → Bool} {lost timeSet : Bool} {l : List (StrobeTask × Seen)}
  (taken : TakenAs d started lost timeSet l)
include taken

theorem TakenAs.task_handed {e : StrobeTask × Seen} (he : e ∈ l) :
    ∃ f, HandsOver d started lost timeSet f ∧ f.task = e.1 :=
  (taken.handed e.1).mp (List.mem_map_of_mem he)

theorem TakenAs.frame_handed {e : StrobeTask × Seen} (he : e ∈ l) {b : Bool} (frame : e.1 = .frame b) :
    b = timeSet ∧ ∃ c : BlockId, d.cu.blocks[c].isActive := by
  obtain ⟨f, handed, task⟩ := taken.task_handed he
  rw [frame] at task
  cases handed with
  | frame c active => cases task; exact ⟨rfl, c, active⟩
  | _ => cases task

theorem TakenAs.scans_handed {e : StrobeTask × Seen} (he : e ∈ l) {k : List PhaseRequest} (scans : e.1 = .scans k) :
    k = d.captures started ∧ ∃ z, (d.workOf started z).capture.isSome = true := by
  obtain ⟨f, handed, task⟩ := taken.task_handed he
  rw [scans] at task
  cases handed with
  | scans z captured => cases task; exact ⟨rfl, z, captured⟩
  | _ => cases task

/-- While the scans rest, no event of the strobe's work can complete one. -/
theorem TakenAs.calm (rest : d.ScansRest) :
    (∀ e ∈ l, ∀ k, e.1 ≠ .scans k) ∨ ∃ x, (d.strobeMoved started).Awaits x := by
  refine rest.imp (fun off e he k scans => ?_) fun ⟨x, waits⟩ =>
    ⟨x, waits.of_se (strobeMoved_stands d started).se⟩
  obtain ⟨-, z, captured⟩ := taken.scans_handed he scans
  have none : (d.workOf started z).capture = none := clockWork_capture_of_none (s := d.updated started) d.ac (off z)
  rw [none] at captured
  cases captured

/-! ### No block takes a frame -/

theorem TakenAs.unframed (inactive : ∀ b : BlockId, ¬ d.cu.blocks[b].isActive) : ∀ e ∈ l, ∀ b, e.1 ≠ .frame b := by
  intro e he b frame
  obtain ⟨-, c, active⟩ := taken.frame_handed he frame
  exact inactive c active

/-! ### A block takes a frame -/

/-- The one frame, with the events before and after it; the captured crossings are on one side of it. -/
theorem TakenAs.split {b : BlockId} (active : d.cu.blocks[b].isActive) : ∃ l₁ q l₂,
    l = l₁ ++ (.frame timeSet, q) :: l₂ ∧ (∀ e ∈ l₁, ∀ c, e.1 ≠ .frame c) ∧ (∀ e ∈ l₂, ∀ c, e.1 ≠ .frame c) ∧
    ((∀ e ∈ l₁, ∀ k, e.1 ≠ .scans k) ∨ ∀ e ∈ l₂, ∀ k, e.1 ≠ .scans k) := by
  obtain ⟨⟨x, q⟩, framed, rfl⟩ := List.mem_map.mp ((taken.handed (.frame timeSet)).mpr ⟨_, .frame b active, rfl⟩)
  obtain ⟨l₁, l₂, rfl⟩ := List.append_of_mem framed
  have once := taken.once
  rw [List.map_append, List.map_cons] at once
  obtain ⟨alone, rest⟩ := List.nodup_cons.mp (List.nodup_middle.mp once)
  obtain ⟨-, -, apart⟩ := List.nodup_append.mp rest
  have no_frame {e : StrobeTask × Seen} (he : e ∈ l₁ ++ l₂) (c : Bool) : e.1 ≠ .frame c := by
    intro frame
    have listed : e ∈ l₁ ++ (.frame timeSet, q) :: l₂ := List.mem_append.mpr
      ((List.mem_append.mp he).imp_right (List.mem_cons_of_mem _))
    obtain ⟨rfl, -⟩ := taken.frame_handed listed frame
    rw [← List.map_append] at alone
    exact alone (List.mem_map.mpr ⟨e, he, frame⟩)
  refine ⟨l₁, q, l₂, rfl, fun e he => no_frame (List.mem_append_left _ he),
    fun e he => no_frame (List.mem_append_right _ he), or_iff_not_imp_left.mpr fun some f hf k scans => ?_⟩
  push Not at some
  obtain ⟨e, he, j, scans'⟩ := some
  obtain ⟨rfl, -⟩ := taken.scans_handed (List.mem_append_left _ he) scans'
  obtain ⟨rfl, -⟩ := taken.scans_handed (List.mem_append_right _ (List.mem_cons_of_mem _ hf)) scans
  exact apart _ (List.mem_map_of_mem he) _ (List.mem_map_of_mem hf) (scans'.trans scans.symm)

end

/-! ### What the strobe's work does to the Capture Unit -/

theorem Inner.hall {s t : State} (h : Inner s t) : t.hall = s.hall := by
  unfold State.hall State.strobeHall State.subPeriod
  rw [h.tb, h.osc]

/-- Two channels that an entry into HOLD may have left of one give a frame the same values. -/
theorem Channel.SameButHold.readsAs {c d e : Channel} (h : c.SameButHold d) (k : c.SameButHold e) :
    d.ReadsAs e := by
  rw [h, k]
  exact ⟨rfl, rfl, rfl⟩

section
variable {p : State} {b : BlockId} (found : p.cu.active = some b) (chans : Vector Channel 8) (timeSet : Bool)
  {l : List (StrobeTask × Seen)} (other : ∀ e ∈ l, ∀ c, e.1 ≠ .frame c)
include found other

/-- The events after a frame leave what it has done to its block. -/
theorem takeFrame_events_taken (off : p.cu.cfg.severity = .off) :
    FrameTaken p b (p.frameOf b chans timeSet) ((p.takeFrame chans timeSet).events l) := by
  have kept := events_frameKept other (p.takeFrame chans timeSet)
  have off' : (p.takeFrame chans timeSet).cu.cfg.severity = .off := by rw [takeFrame_cfg]; exact off
  exact frameTaken_congr (takeFrame_taken found chans timeSet) ⟨rfl, rfl⟩ ⟨kept.cu off', kept.announce⟩

theorem takeFrame_events_scv (calm : (∀ e ∈ l, ∀ k, e.1 ≠ .scans k) ∨ ∃ x, p.Awaits x) :
    ((p.takeFrame chans timeSet).events l).scv = { p.scv with written := [] } := by
  have waiting := calm.imp_right fun ⟨x, waits⟩ =>
    (⟨x, waits.of_se (takeFrame_same p chans timeSet).2.2⟩ : ∃ x, (p.takeFrame chans timeSet).Awaits x)
  rw [events_scv other waiting, takeFrame_only found]

end

section
variable {d : State} (started : ZoneId → Bool) (lost timeSet : Bool)

theorem strobeWork_unframed (inactive : ∀ b : BlockId, ¬ d.cu.blocks[b].isActive) :
    (d.cu.cfg.severity = .off → (d.strobeWork started lost timeSet).cu = d.cu) ∧
    (d.ScansRest → (d.strobeWork started lost timeSet).scv = d.scv) := by
  obtain ⟨l, taken⟩ := exists_takenAs d started lost timeSet
  have other := taken.unframed inactive
  have moved := strobeMoved_stands d started
  rw [taken.work]
  exact ⟨(moved.frameKept.trans (events_frameKept other _)).cu, fun rest =>
    (events_scv other (taken.calm rest)).trans moved.scv⟩

/-- The strobe's work, which goes from `d` to `w`, around its frame: the part `p` and the channels `chans` that the
frame finds, and the events `l` after it. -/
structure AroundFrame (d w : State) (p : State) (chans : Vector Channel 8) (l : List (StrobeTask × Seen)) : Prop where
  work : w = (p.takeFrame chans timeSet).events l
  kept : FrameKept d p
  inner : Inner (d.strobeUpdated started) p
  finds : ∀ a : ActId, chans[a] = d.chan a ∨ (d.updateOf started a).1.SameButHold chans[a]
  other : ∀ e ∈ l, ∀ c, e.1 ≠ .frame c
  rest : d.ScansRest → p.scv = d.scv ∧ ((∀ e ∈ l, ∀ k, e.1 ≠ .scans k) ∨ ∃ x, p.Awaits x)
  side : p.scv = d.scv ∨ (¬ d.ScansRest ∧ ∀ e ∈ l, ∀ k, e.1 ≠ .scans k)

theorem exists_aroundFrame {b : BlockId} (active : d.cu.blocks[b].isActive) :
    ∃ p chans l, AroundFrame started timeSet d (d.strobeWork started lost timeSet) p chans l := by
  obtain ⟨l, taken⟩ := exists_takenAs d started lost timeSet
  obtain ⟨l₁, q, l₂, rfl, other₁, other₂, side⟩ := taken.split active
  have moved := strobeMoved_stands d started
  have same (h : (∀ e ∈ l₁, ∀ k, e.1 ≠ .scans k) ∨ ∃ x, (d.strobeMoved started).Awaits x) :
      ((d.strobeMoved started).events l₁).scv = d.scv := (events_scv other₁ h).trans moved.scv
  have rest (h : d.ScansRest) : ((d.strobeMoved started).events l₁).scv = d.scv ∧
      ((∀ e ∈ l₂, ∀ k, e.1 ≠ .scans k) ∨ ∃ x, ((d.strobeMoved started).events l₁).Awaits x) := by
    have calm := taken.calm h
    exact ⟨same (calm.imp_left fun no e he => no e (List.mem_append_left _ he)),
      calm.imp (fun no e he => no e (List.mem_append_right _ (List.mem_cons_of_mem _ he)))
        fun ⟨x, waits⟩ => ⟨x, events_awaits waits⟩⟩
  refine ⟨(d.strobeMoved started).events l₁, q.chans, l₂, taken.work.trans List.foldl_append,
    moved.frameKept.trans (events_frameKept other₁ _), (strobeMoved_inner d started).trans (events_inner _ l₁),
    taken.found _ List.mem_append_cons_self, other₂, rest, ?_⟩
  by_cases h : d.ScansRest
  · exact .inl (rest h).1
  · exact side.imp (fun no => same (.inl no)) fun no => ⟨h, no⟩

/-- `v` can be the converter that a frame finds in a strobe's work, which goes from `d` to `w`: the one before it,
or one that scans have completed in; the frame then has spent its marks, and no scan completed after it. -/
def FrameConverter (d w : State) (v : StrainConverter) : Prop :=
  v = d.scv ∨ (¬ d.ScansRest ∧ w.scv = { v with written := [] } ∧ ∀ g, g ∈ d.scv.written → g ∈ v.written)

/-- The strobe's work, which goes from `d` to `w`, has the block `b` take a frame. -/
def FramesBlock (timeSet : Bool) (d w : State) (b : BlockId) : Prop :=
  (d.ScansRest → w.scv = { d.scv with written := [] }) ∧
  ∃ (seen : ActId → Bool) (v : StrainConverter), FrameTaken d b ⟨w.hall, timeSet, d.cu.blocks[b].signals.map
    (signalItem (fun a => if seen a then w.chan a else d.chan a) v)⟩ w ∧ FrameConverter d w v

theorem strobeWork_framed (off : d.cu.cfg.severity = .off) {b : BlockId} (active : d.cu.active = some b) :
    FramesBlock timeSet d (d.strobeWork started lost timeSet) b := by
  obtain ⟨p, chans, l, around⟩ := exists_aroundFrame started lost timeSet (isActive_of_active active)
  have cu : p.cu = d.cu := around.kept.cu off
  have found : p.cu.active = some b := by rw [cu]; exact active
  have after := strobeWork_inner d started lost timeSet
  have hall : p.hall = (d.strobeWork started lost timeSet).hall := around.inner.hall.trans after.hall.symm
  have finds (a : ActId) : chans[a] = d.chan a ∨ chans[a].ReadsAs ((d.strobeWork started lost timeSet).chan a) :=
    (around.finds a).imp_right fun same =>
      same.readsAs (strobeUpdated_chan d started a ▸ after.ac a)
  have taken := takeFrame_events_taken found chans timeSet around.other (by rw [cu]; exact off)
  have scv := takeFrame_events_scv found chans timeSet around.other
  rw [← around.work] at taken scv
  refine ⟨fun rest => ?_, fun a => decide (chans[a] ≠ d.chan a), p.scv, ?_, ?_⟩
  · obtain ⟨same, calm⟩ := around.rest rest
    rw [← same]
    exact scv calm
  · rw [frameOf_eq timeSet finds, hall, cu] at taken
    exact frameTaken_congr taken ⟨cu.symm, around.kept.announce.symm⟩ ⟨rfl, rfl⟩
  · exact around.side.imp_right fun ⟨works, no⟩ => ⟨works, scv (.inl no), around.kept.written⟩

end

end Sys2Proof.Machine
end

section
/-! The capture frame of a strobe, from the part that takes the strobe's command (02 R26 to R30; 11 R190, R191). -/

namespace Sys2Proof.Machine
open Host Statements

/-! ### The part before a strobe's work -/

/-- From `s` to `d` nothing changes that the captures of a strobe's work read, but for the converter. -/
structure BeforeWork (s d : State) : Prop where
  cu : d.cu = s.cu
  announce : d.lp.announce = s.lp.announce
  se : d.se = s.se
  ac : d.ac = s.ac
  capture : ∀ z, (d.zone z).capture = (s.zone z).capture

theorem BeforeWork.trans {s t u : State} (h : BeforeWork s t) (k : BeforeWork t u) : BeforeWork s u :=
  ⟨k.cu.trans h.cu, k.announce.trans h.announce, k.se.trans h.se, k.ac.trans h.ac,
    fun z => (k.capture z).trans (h.capture z)⟩

theorem BeforeWork.scansRest_iff {s d : State} (h : BeforeWork s d) : d.ScansRest ↔ s.ScansRest := by
  unfold State.ScansRest State.Awaits
  simp only [h.se, h.capture]

theorem BeforeWork.chan {s d : State} (h : BeforeWork s d) : d.chan = s.chan := by
  funext a
  rw [State.chan, h.ac]
  rfl

theorem startOf_capture (s : State) (z : ZoneId) : (s.startOf z).capture = (s.zone z).capture := by
  unfold State.startOf
  dsimp only
  split
  · split
    · rfl
    split <;> rfl
  · rfl

theorem decideStarts_beforeWork (u : State) (src : StrobeSource) :
    BeforeWork u (u.tbStrobe src).decideStarts := by
  obtain ⟨frame, zone⟩ := decideStarts_spec (u.tbStrobe src)
  refine ⟨frame.cu, ?_, frame.se, frame.ac, fun z => ?_⟩
  · rw [frame.lp]
    rfl
  · rw [zone]
    exact startOf_capture _ z

/-! ### The strobe -/

/-- From `s` to `u` nothing changes that the captures of a strobe read. -/
structure BeforeStrobe (s u : State) : Prop extends BeforeWork s u where
  scv : u.scv = s.scv
  pendingSet : u.tb.pendingSet = s.tb.pendingSet

/-- `w` is the part after a strobe whose captures read what those of `s` do. -/
def Strobed (s w : State) : Prop := ∃ u src lost, BeforeStrobe s u ∧ w = u.strobe src lost

/-- The strobe's work begins after the start decisions; with no block to take a frame the new-value marks are spent
before it (log 25). -/
theorem Strobed.work {s w : State} (h : Strobed s w) : ∃ d started lost, BeforeWork s d ∧
    w = d.strobeWork started lost s.tb.pendingSet.isSome ∧
    ((∃ b : BlockId, s.cu.blocks[b].isActive) → d.scv = s.scv) ∧
    ((∀ b : BlockId, ¬ s.cu.blocks[b].isActive) → d.scv = { s.scv with written := [] }) := by
  obtain ⟨u, src, lost, ready, issued⟩ := h
  obtain ⟨kept, spent⟩ := decideStarts_scv u src
  rw [ready.cu, ready.scv] at kept spent
  rw [strobe_eq, ready.pendingSet] at issued
  exact ⟨_, _, lost, ready.toBeforeWork.trans (decideStarts_beforeWork u src), issued, kept, spent⟩

/-- What the part before a strobe's work shows of its frame, the part before the strobe does. -/
theorem FramesBlock.of_before {s d w : State} {b : BlockId} {timeSet : Bool} (before : BeforeWork s d)
    (scv : d.scv = s.scv) (h : FramesBlock timeSet d w b) : FramesBlock timeSet s w b := by
  obtain ⟨rest, seen, v, taken, converter⟩ := h
  rw [before.scansRest_iff, scv] at rest
  rw [before.chan, before.cu] at taken
  rw [FrameConverter, before.scansRest_iff, scv] at converter
  exact ⟨rest, seen, v, frameTaken_congr taken ⟨before.cu.symm, before.announce.symm⟩ ⟨rfl, rfl⟩, converter⟩

section
variable {s w : State} (strobed : Strobed s w)
include strobed

theorem Strobed.unframed (inactive : ∀ b : BlockId, ¬ s.cu.blocks[b].isActive) :
    (s.cu.cfg.severity = .off → w.cu = s.cu) ∧ (s.ScansRest → w.scv = { s.scv with written := [] }) := by
  obtain ⟨d, started, lost, before, rfl, -, spent⟩ := strobed.work
  obtain ⟨cu, scv⟩ := strobeWork_unframed (d := d) started lost s.tb.pendingSet.isSome
    (by rw [before.cu]; exact inactive)
  rw [before.cu] at cu
  rw [before.scansRest_iff, spent inactive] at scv
  exact ⟨cu, scv⟩

theorem Strobed.framed (off : s.cu.cfg.severity = .off) {b : BlockId} (active : s.cu.active = some b) :
    FramesBlock s.tb.pendingSet.isSome s w b := by
  obtain ⟨d, started, lost, before, rfl, kept, -⟩ := strobed.work
  refine .of_before before (kept ⟨b, isActive_of_active active⟩) (strobeWork_framed started lost _ ?_ ?_)
  · rw [before.cu]; exact off
  · rw [before.cu]; exact active

end

/-! ### The commands that can issue a strobe -/

/-- From `s` to `t` either no strobe has been issued, or one, from a part whose captures read what those of `s` do. -/
def StrobesOrRests (s t : State) : Prop :=
  t.tb.lastStrobeAt = s.tb.lastStrobeAt ∨ ∃ w, Strobed s w ∧ t = arbitrate w

theorem StrobesOrRests.of_before {s u : State} {src : StrobeSource} {lost : Bool} (ready : BeforeStrobe s u) :
    StrobesOrRests s (arbitrate (u.strobe src lost)) := .inr ⟨_, ⟨u, src, lost, ready, rfl⟩, rfl⟩

section
variable {s : State}

theorem expiry_strobesOrRests {f : State → State} (ready : ∀ m, BeforeStrobe s (f { s with osc := m }))
    {src : StrobeSource} {lost : State → Bool} :
    StrobesOrRests s (s.atExpiry .strobe fun t => arbitrate ((f t).strobe src (lost t))) := by
  cases h : s.expire .strobe with
  | none =>
    rw [atExpiry_none s _ _ h]
    exact .inl rfl
  | some t =>
    obtain ⟨m, -, -, rfl⟩ := expire_eq s t _ h
    rw [atExpiry_some s _ _ _ h]
    exact .of_before (ready _)

theorem oscillatorStrobe_strobesOrRests {t : State} (h : exec .oscillatorStrobe s = .next t) :
    StrobesOrRests s t := by
  simp only [exec, execOscillatorStrobe] at h
  split at h
  · obtain rfl := Outcome.next.inj h
    exact expiry_strobesOrRests (f := fun u => u) (lost := fun _ => false)
      fun _ => ⟨⟨rfl, rfl, rfl, rfl, fun _ => rfl⟩, rfl, rfl⟩
  · obtain rfl := Outcome.next.inj h
    exact .inl rfl

theorem substituteStrobe_strobesOrRests {t : State} (h : exec .substituteStrobe s = .next t) :
    StrobesOrRests s t := by
  simp only [exec, execSubstituteStrobe] at h
  split at h
  · obtain rfl := Outcome.next.inj h
    exact .inl rfl
  · obtain rfl := Outcome.next.inj h
    exact expiry_strobesOrRests (f := fun u => { u with tb := u.tb.substitute })
      fun _ => ⟨⟨rfl, rfl, rfl, rfl, fun _ => rfl⟩, rfl, rfl⟩

theorem regain_strobesOrRests : StrobesOrRests s (arbitrate s.regain) := by
  unfold State.regain
  dsimp only
  rw [dropSyncReasons_eq]
  split
  · exact .inl (by rw [arbitrate_tb])
  · refine .of_before ⟨⟨rfl, rfl, rfl, rfl, fun z => ?_⟩, rfl, rfl⟩
    simp [State.zone]

theorem lostEdge_strobesOrRests : StrobesOrRests s (arbitrate s.lostEdge) := by
  unfold State.lostEdge
  split
  · exact .inl (by rw [arbitrate_tb])
  split
  · exact .inl (by rw [arbitrate_tb]; rfl)
  split
  · exact regain_strobesOrRests
  · exact .inl (by rw [arbitrate_tb])

theorem syncEdge_strobesOrRests {t : State} (h : exec .syncEdge s = .next t) : StrobesOrRests s t := by
  simp only [exec, execSyncEdge] at h
  split at h
  · obtain rfl := Outcome.next.inj h
    exact .inl rfl
  · obtain rfl := Outcome.next.inj h
    exact .inl rfl
  split at h
  · obtain rfl := Outcome.next.inj h
    exact lostEdge_strobesOrRests
  split at h <;> obtain rfl := Outcome.next.inj h
  · exact .inl rfl
  · exact .of_before ⟨⟨rfl, rfl, rfl, rfl, fun _ => rfl⟩, rfl, rfl⟩

/-- A strobe's command that moves the latest strobe's moment has issued a strobe. -/
theorem strobe_issued {t : State} {i : Instr} (hi : i ∈ [Instr.oscillatorStrobe, .substituteStrobe, .syncEdge])
    (h : exec i s = .next t) (moved : t.tb.lastStrobeAt ≠ s.tb.lastStrobeAt) :
    ∃ w, Strobed s w ∧ t = arbitrate w := by
  have issues : StrobesOrRests s t := by
    simp only [List.mem_cons, List.not_mem_nil, or_false] at hi
    rcases hi with rfl | rfl | rfl
    · exact oscillatorStrobe_strobesOrRests h
    · exact substituteStrobe_strobesOrRests h
    · exact syncEdge_strobesOrRests h
  exact issues.resolve_left moved

end

/-! ### The rule -/

theorem arbitrate_hall (s : State) : (arbitrate s).hall = s.hall := by
  unfold State.hall State.strobeHall State.subPeriod
  rw [arbitrate_tb, arbitrate_osc]

/-- Settles O53: the frame by the state of its block, a raise by the state of the unit, and at a strobe the frame
among the events of its work. -/
theorem captureFrameRule : Obligations.CaptureFrameRule := by
  refine ⟨fun s chans timeSet ok => ?_, fun s r ok => ?_, fun s t ok off i hi h moved => ?_⟩
  · exact ⟨fun inactive => takeFrame_of_none (active_eq_none inactive) chans timeSet, fun b active =>
      have found := active_of_captureOk ok active
      ⟨takeFrame_taken found chans timeSet, takeFrame_only found chans timeSet⟩⟩
  · refine ⟨raise_cu_of_barred, fun qualifies => ⟨raise_cu_of_idle, raise_cu_of_stalled qualifies ok, fun b =>
      ⟨raise_cu_of_post qualifies ok, fun recording kind again lost => ?_⟩⟩⟩
    rw [← take_kind s.hall again (lost.trans and_comm)]
    exact raise_cu_of_recording qualifies ok recording
  · obtain ⟨w, strobed, rfl⟩ := strobe_issued hi h moved
    intro quiet
    have framed (b : BlockId) (active : s.cu.blocks[b].isActive) :=
      strobed.framed off (active_of_captureOk ok active)
    refine ⟨fun rest => ?_, fun inactive => ?_, fun b active => ?_⟩
    · rw [arbitrate_scv]
      by_cases inactive : ∀ b : BlockId, ¬ s.cu.blocks[b].isActive
      · exact (strobed.unframed inactive).2 rest
      · obtain ⟨b, active⟩ := not_forall_not.mp inactive
        exact (framed b active).1 rest
    · rw [arbitrate_cu]
      exact (strobed.unframed inactive).1 off
    · obtain ⟨-, seen, v, taken, converter⟩ := framed b active
      refine ⟨_, seen, v, rfl, ?_, ?_⟩
      · rw [arbitrate_hall]
        simp only [arbitrate_chan]
        exact taken
      · rw [arbitrate_scv]
        exact converter

end Sys2Proof.Machine
end

section
/-! No step stops: the part takes the front command of its queue, and every command answers a next state. -/

namespace Sys2Proof.Machine
open Host

/-- Settles O1, by the arm of `step` for a queue that holds a command. -/
theorem stepRunsTheFrontCommand : Obligations.StepRunsTheFrontCommand := by
  intro c rest s queued
  simp only [step, queued]

/-! ### Every command answers next -/

theorem goes_next (t : State) : Goes (.next t) := ⟨t, rfl⟩

theorem goes_ite {p : Prop} [Decidable p] {x y : Outcome State Fault Refusal} (hx : Goes x) (hy : Goes y) :
    Goes (if p then x else y) := by
  split
  · exact hx
  · exact hy

theorem byteReceived_goes (b : Byte) (stop : StopBit) (s : State) : Goes (exec (.byteReceived b stop) s) := by
  cases stop with
  | mark => exact goes_next _
  | space => exact goes_next _

/-- An answer of any length, to a port that settles, waits for none or waits for one, answers next: a stray
one is counted (07 R134). -/
theorem bankAnswer_goes (b : BankId) (values : List Int) (s : State) : Goes (exec (.bankAnswer b values) s) := by
  simp only [exec, execBankAnswer]
  refine goes_ite (goes_next _) ?_
  split
  · exact goes_next _
  · exact goes_ite (goes_next _) (goes_next _)

/-- A SYNC edge in any role answers next: only a FOLLOWER looks at it (02 R27). -/
theorem syncEdge_goes (s : State) : Goes (exec .syncEdge s) := by
  cases role : s.tb.role with
  | internal | master => rw [exec_syncEdge_notFollower (by simp [role])]; exact goes_next s
  | follower =>
    simp only [exec, execSyncEdge, role]
    exact goes_ite (goes_next _) (goes_ite (goes_next _) (goes_next _))

/-- Every command that is the taking of no request answers next; a timer's does so whether or not its timer
runs out now (log 2). -/
theorem event_goes {i : Instr} (ha : requestArm i = none) (s : State) : Goes (exec i s) := by
  cases i <;> cases ha
  case byteReceived b stop => exact byteReceived_goes b stop s
  case lineBreak => exact goes_ite (goes_next s) (goes_next _)
  case oscillatorStrobe => exact goes_ite (goes_next _) (goes_next s)
  case substituteStrobe => exact goes_ite (goes_next s) (goes_next _)
  case syncEdge => exact syncEdge_goes s
  case feedbackArrival => exact goes_ite (goes_next _) (goes_next _)
  case bankAnswer b values => exact bankAnswer_goes b values s
  case aeHit => exact goes_ite (goes_next s) (goes_ite (goes_next _) (goes_ite (goes_next _) (goes_next _)))
  case gap | lineReturnsToMark | reset => exact goes_next _
  case uplinkFrameEnd | restartEffect | syncPulseEnd | regainRunTimeout | freeScanExpiry | bankTimeout |
      bankSettlingEnd | reportDelayRunOut | loopSample => exact goes_next _

/-- Every command answers next: a request's, whether or not it is at the head of the queue and may be taken
(log 2), and every event's. -/
theorem exec_goes (i : Instr) (s : State) : Goes (exec i s) := by
  cases ha : requestArm i with
  | some a => rw [exec_of_requestArm ha]; exact goes_next _
  | none => exact event_goes ha s

/-- Settles O2: with no command waiting time passes or stands (log 3), and otherwise the front command
answers next. -/
theorem everyStepGoes : Obligations.EveryStepGoes := by
  intro s
  cases queue : s.pending with
  | nil => simp only [step, queue]; exact goes_next s.tick
  | cons c rest => rw [stepRunsTheFrontCommand c rest s queue]; exact exec_goes c _

end Sys2Proof.Machine
end
